-- ==== Sys2Proof/Word.lean ====
section
/-!
DEFINITION. The machine's words: bit vectors of the sizes the spec names (00_scope.md R3), and the register fields.
-/

namespace Sys2Proof

/-- A byte (8 bits). -/
abbrev Byte := BitVec 8
/-- A halfword (16 bits). -/
abbrev Half := BitVec 16
/-- A word (32 bits): registers, addresses, the program counter. -/
abbrev Word := BitVec 32
/-- A double word (64 bits). -/
abbrev DWord := BitVec 64
/-- A quad word (128 bits): one vector register. -/
abbrev QWord := BitVec 128
/-- The number of a general-purpose register, 0 to 31 (10_state.md R20). -/
abbrev Reg := BitVec 5
/-- Bits 4-1 of an even general-purpose register number: a register pair (10_state.md R20). -/
abbrev RegPair := BitVec 4
/-- The number of a vector register, 0 to 31 (48_fxu.md R701). -/
abbrev VReg := BitVec 5

end Sys2Proof
end

