-- ==== Sys2Proof/Config.lean ====
section
/-!
DEFINITION. What the spec leaves to the product and what it leaves undefined.
`Product` holds the named parameters of 00_scope.md R12 as plain data. A state carries its product (`State.prod`), so a
statement about every state is a statement about every product. `Product.default` is the one the reset state has.
The `opaque` constants are the free values: nothing can be proved of what they are.
-/

namespace Sys2Proof

/-- A 32-bit opcode pattern with one 5-bit field at bit `lo`: the form of ENC_HVTRAP, ENC_LDM_GSR and ENC_STM_GSR
(30_encoding.md R324), in the numbering of R300. -/
structure EncPat where
  mask : Nat
  mtch : Nat
  lo   : Nat
deriving DecidableEq, Repr

/-- The encodings that are parameters: the three that the sources have lost (R324, 92_eei_decisions.md D15; `none`: not supplied), and
the four FXU sub-opcodes whose images are damaged (48_fxu.md R702, R703, D26): the selector of RECIPF.S4 and of RSQRTF.S4 in bits
4-0, the sub-op of STVZ.H4 and of LDV.QW in bits 26-21. -/
structure Enc where
  hvtrap : Option EncPat
  ldmGsr : Option EncPat
  stmGsr : Option EncPat
  recipfS4 : BitVec 5
  rsqrtfS4 : BitVec 5
  stvzH4 : BitVec 6
  ldvQw : BitVec 6
deriving DecidableEq, Repr

/-- The defaults of 00_scope.md R12: no lost encoding is supplied, so those three instructions cannot be decoded (R324); the FXU
sub-opcodes are those of R702 and R703. -/
def Enc.default : Enc := ⟨.none, .none, .none, 0b10011, 0b10100, 0b011111, 0b010100⟩

/-- The kinds of access the MPU checks (21_mpu.md R262). -/
inductive AccessKind where
  | exec
  | read
  | write
deriving DecidableEq, Repr

/-- MPU_MATCH (R12): the match predicate that R262 states, or another product's, number `n`. -/
inductive MatchRule where
  | stated
  | other (n : Nat)
deriving DecidableEq, Repr

/-- What a match predicate is asked: the registers of an entry, MPID0 to MPID7, the first and the last byte of the access, its kind,
whether it is made in user mode, and the SPID (21_mpu.md R262). -/
structure MpuQuery where
  mpla : Word
  mpua : Word
  mpat : Word
  mpid : List Word
  lo   : Nat
  hi   : Nat
  kind : AccessKind
  user : Bool
  spid : BitVec 5
deriving DecidableEq, Repr

/-- RECIP_S, RECIP_D, RSQRT_S, RSQRT_D (R12): the correctly rounded result, or the result function `n` of another product, which lies
in the error band of 46_fpu.md R608 to R611. -/
inductive RecipRule where
  | rounded
  | other (n : Nat)
deriving DecidableEq, Repr

/-- A region of the memory map that is not ordinary memory (20_memory.md R204): a device, whose behaviour the environment supplies, or
addresses that are reserved. -/
inductive RegionKind where
  | device
  | reserved
deriving DecidableEq, Repr

/-- Addresses `lo` to `hi`, both included. -/
structure Region where
  lo   : Nat
  hi   : Nat
  kind : RegionKind
deriving DecidableEq, Repr

/-- The implementation parameters of 00_scope.md R12. -/
structure Product where
  /-- PID_VALUE (11_sysregs.md R92). -/
  pid : Word
  /-- HAS_FPU, HAS_FXU (92_eei_decisions.md D3). -/
  hasFpu : Bool
  hasFxu : Bool
  /-- HVE_RESET (D7). -/
  hveReset : Bool
  /-- RBASE_VALUE (R93): bits 31-9 base, bit 1 DV, bit 0 RINT. -/
  rbase : Word
  /-- PEID_VALUE, BMID_VALUE (R102). -/
  peid : BitVec 5
  bmid : BitVec 5
  /-- SPID_RESET, SPIDLIST_VALUE (R90, R91, D6). -/
  spidReset : BitVec 5
  spidlist : Word
  /-- SNZCFG_RESET (R97) and SNOOZE_PERIOD, in steps (44_system.md R539, D18). -/
  snzcfgReset : BitVec 8
  snoozePeriod : Nat
  /-- DBGEN_RESET (R106): bit 8 HE, bits 7-0 GE. -/
  dbgenReset : BitVec 9
  /-- RBCR1_RESET (R116). -/
  rbcr1Reset : BitVec 16
  /-- FPSR_RESET, FXSR_RESET, FXINFO_VALUE (R180, R185, R187). -/
  fpsrReset : Word
  fxsrReset : Word
  fxinfo : Word
  /-- QNAN_S, QNAN_D, QNAN_H (46_fpu.md R582, D21). -/
  qnanS : Word
  qnanD : DWord
  qnanH : Half
  /-- RECIP_S, RECIP_D, RSQRT_S, RSQRT_D (46_fpu.md R608 to R611, D24). -/
  recipS : RecipRule
  recipD : RecipRule
  rsqrtS : RecipRule
  rsqrtD : RecipRule
  /-- ICCTRL_RESET, ICCFG_VALUE (45_cache.md R572). -/
  icctrlReset : Word
  iccfg : Word
  /-- LSCFG_VALUE, L1RCFG_VALUE and RDBCR_VALUE, the values at reset, and RDBCR_REGID (R196). -/
  lscfg : Word
  l1rcfg : Word
  rdbcr : Word
  rdbcrRegid : BitVec 5
  /-- MEMMAP (20_memory.md R204, D12): the regions that are not ordinary memory. -/
  memmap : List Region
  /-- MPU_NBK (21_mpu.md R251): whether there is a second MPU bank. -/
  mpuTwoBanks : Bool
  /-- MPU_MATCH (21_mpu.md R262). -/
  mpuMatch : MatchRule
  /-- CAUSE_PIE, CAUSE_MAE, CAUSE_FENMI, CAUSE_FEINT, CAUSE_EIINT (60_exceptions.md R801, D28). -/
  causePie : Word
  causeMae : Word
  causeFenmi : Word
  causeFeint : Word
  causeEiint : Word
  /-- The cause code, from 10H to 1FH, of the SYSERR for an operand access to a reserved address (20_memory.md R204,
  93_implementation_defined.md U2, U24). DESIGN CHOICE (notes/assumptions/21.md). -/
  causeReserved : Word
  /-- Whether MIP writes MEA: 21_mpu.md R265 and 60_exceptions.md R814 (a) say that it does, with pc; 11_sysregs.md R107 that "it is
  not written", which is MEA, or the address at which the violation was detected. No file of the spec decides between them. DESIGN
  CHOICE (notes/assumptions/52.md). -/
  mipWritesMea : Bool
  /-- ENC_HVTRAP, ENC_LDM_GSR, ENC_STM_GSR (R324), ENC_RECIPF_S4, ENC_RSQRTF_S4, ENC_STVZ_H4, ENC_LDV_QW (R702, R703). -/
  enc : Enc
deriving DecidableEq, Repr

/-- One of the `n` bytes at `a` lies in the region; addresses wrap (20_memory.md R203, R204). -/
def Region.holds (r : Region) (a : Word) (n : Nat) : Bool :=
  (List.range n).any fun k =>
    decide (r.lo ≤ (a + BitVec.ofNat 32 k).toNat) && decide ((a + BitVec.ofNat 32 k).toNat ≤ r.hi)

/-- R204: one of the `n` bytes at `a` lies in a region of a kind. -/
def Product.touches (p : Product) (kind : RegionKind) (a : Word) (n : Nat) : Bool :=
  p.memmap.any fun r => r.kind == kind && r.holds a n

/-- The product of the reset state: the defaults R12 prints; where it prints none, a RH850G4MH2 with every option
(PID 07840F00H: HV, register bank, FXU, double and single precision, MPU) and zero elsewhere.
DESIGN CHOICE (notes/assumptions/1.md). -/
def Product.default : Product where
  pid := 0x07840F00
  hasFpu := true
  hasFxu := true
  hveReset := false
  rbase := 0
  peid := 0
  bmid := 0
  spidReset := 0
  spidlist := 0xFFFFFFFF
  snzcfgReset := 0x20
  snoozePeriod := 0x20
  dbgenReset := 0
  rbcr1Reset := 0xFFFF
  fpsrReset := 0x00220000
  fxsrReset := 0x00220000
  fxinfo := 2
  qnanS := 0x7FFFFFFF
  qnanD := 0x7FFFFFFFFFFFFFFF
  qnanH := 0x7FFF
  recipS := .rounded
  recipD := .rounded
  rsqrtS := .rounded
  rsqrtD := .rounded
  icctrlReset := 0
  iccfg := 0
  lscfg := 0
  l1rcfg := 0
  rdbcr := 0
  rdbcrRegid := 24
  memmap := []
  mpuTwoBanks := false
  mpuMatch := .stated
  causePie := 0xA0
  causeMae := 0xC0
  causeFenmi := 0xE0
  causeFeint := 0xF0
  causeEiint := 0x1000
  causeReserved := 0x10
  mipWritesMea := true
  enc := Enc.default

/-- A free bit: the value of something the spec calls undefined, read at a counter that never repeats. -/
opaque Config.freeBit : Nat → Bool
/-- A free word. -/
opaque Config.freeWord : Nat → Word
/-- A free amount: clock cycles between two steps, events of a kind the spec does not define (92_eei_decisions.md D8). -/
opaque Config.freeTicks : Nat → Nat
/-- What the result function `n` of another product gives inside the error band of R608 to R611, by precision, instruction, operand
and rounding mode: a number of units in the last place away from the exact result cut to the format. -/
opaque Config.recipUlpS : Nat → Word → BitVec 2 → Int
opaque Config.recipUlpD : Nat → DWord → BitVec 2 → Int
opaque Config.rsqrtUlpS : Nat → Word → BitVec 2 → Int
opaque Config.rsqrtUlpD : Nat → DWord → BitVec 2 → Int
/-- The match predicate `n` of another product (R12, MPU_MATCH). -/
opaque Config.mpuMatch : Nat → MpuQuery → Bool

end Sys2Proof
end

