-- ==== Sys2Proof/Syntax.lean ====
section
/-!
DEFINITION. The instruction set: one constructor of `Instr` for each of the 327 rows of spec/opcode_table.json
(267 mnemonics). A constructor's name is the mnemonic in lower camel case, followed by `F<form>` where the mnemonic has
several forms; its docstring gives the rule and the bit pattern of the row (30_encoding.md R300, R320).
Operands are the row's fields, assembled high part first. `reg1`, `reg2`, `reg3` are the source's names. A displacement or an
immediate is held as ENCODED (its unencoded low zero bits left out); the meaning completes and extends it (R320).
-/

namespace Sys2Proof

/-- The instructions of the opcode table, one constructor a row. -/
inductive Instr where
  /-- ADD (form 1), R354: rrrrr001110RRRRR -/
  | addF1 (reg1 reg2 : Reg)
  /-- ADD (form 2), R354: rrrrr010010iiiii -/
  | addF2 (imm5 : BitVec 5) (reg2 : Reg)
  /-- ADDI (form 1), R355: rrrrr110000RRRRR | iiiiiiiiiiiiiiii -/
  | addi (imm16 : BitVec 16) (reg1 reg2 : Reg)
  /-- CMP (form 1), R356: rrrrr001111RRRRR -/
  | cmpF1 (reg1 reg2 : Reg)
  /-- CMP (form 2), R356: rrrrr010011iiiii -/
  | cmpF2 (imm5 : BitVec 5) (reg2 : Reg)
  /-- MOV (form 1), R357: rrrrr000000RRRRR -/
  | movF1 (reg1 reg2 : Reg)
  /-- MOV (form 2), R357: rrrrr010000iiiii -/
  | movF2 (imm5 : BitVec 5) (reg2 : Reg)
  /-- MOV (form 3), R357: 00000110001RRRRR | iiiiiiiiiiiiiiii | IIIIIIIIIIIIIIII -/
  | movF3 (imm32 : BitVec 32) (reg1 : Reg)
  /-- MOVEA (form 1), R358: rrrrr110001RRRRR | iiiiiiiiiiiiiiii -/
  | movea (imm16 : BitVec 16) (reg1 reg2 : Reg)
  /-- MOVHI (form 1), R359: rrrrr110010RRRRR | iiiiiiiiiiiiiiii -/
  | movhi (imm16 : BitVec 16) (reg1 reg2 : Reg)
  /-- SUB (form 1), R360: rrrrr001101RRRRR -/
  | sub (reg1 reg2 : Reg)
  /-- SUBR (form 1), R361: rrrrr001100RRRRR -/
  | subr (reg1 reg2 : Reg)
  /-- ADF (form 1), R362: rrrrr111111RRRRR | wwwww011101cccc0 -/
  | adf (cccc : BitVec 4) (reg1 reg2 reg3 : Reg)
  /-- SBF (form 1), R363: rrrrr111111RRRRR | wwwww011100cccc0 -/
  | sbf (cccc : BitVec 4) (reg1 reg2 reg3 : Reg)
  /-- DIV (form 1), R365: rrrrr111111RRRRR | wwwww01011000000 -/
  | div (reg1 reg2 reg3 : Reg)
  /-- DIVH (form 1), R366: rrrrr000010RRRRR -/
  | divhF1 (reg1 reg2 : Reg)
  /-- DIVH (form 2), R366: rrrrr111111RRRRR | wwwww01010000000 -/
  | divhF2 (reg1 reg2 reg3 : Reg)
  /-- DIVHU (form 1), R367: rrrrr111111RRRRR | wwwww01010000010 -/
  | divhu (reg1 reg2 reg3 : Reg)
  /-- DIVQ (form 1), R368: rrrrr111111RRRRR | wwwww01011111100 -/
  | divq (reg1 reg2 reg3 : Reg)
  /-- DIVQU (form 1), R369: rrrrr111111RRRRR | wwwww01011111110 -/
  | divqu (reg1 reg2 reg3 : Reg)
  /-- DIVU (form 1), R370: rrrrr111111RRRRR | wwwww01011000010 -/
  | divu (reg1 reg2 reg3 : Reg)
  /-- SATADD (form 1), R371: rrrrr000110RRRRR -/
  | sataddF1 (reg1 reg2 : Reg)
  /-- SATADD (form 2), R371: rrrrr010001iiiii -/
  | sataddF2 (imm5 : BitVec 5) (reg2 : Reg)
  /-- SATADD (form 3), R371: rrrrr111111RRRRR | wwwww01110111010 -/
  | sataddF3 (reg1 reg2 reg3 : Reg)
  /-- SATSUB (form 1), R372: rrrrr000101RRRRR -/
  | satsubF1 (reg1 reg2 : Reg)
  /-- SATSUB (form 2), R372: rrrrr111111RRRRR | wwwww01110011010 -/
  | satsubF2 (reg1 reg2 reg3 : Reg)
  /-- SATSUBI (form 1), R373: rrrrr110011RRRRR | iiiiiiiiiiiiiiii -/
  | satsubi (imm16 : BitVec 16) (reg1 reg2 : Reg)
  /-- SATSUBR (form 1), R374: rrrrr000100RRRRR -/
  | satsubr (reg1 reg2 : Reg)
  /-- MUL (form 1), R383: rrrrr111111RRRRR | wwwww01000100000 -/
  | mulF1 (reg1 reg2 reg3 : Reg)
  /-- MUL (form 2), R383: rrrrr111111iiiii | wwwww01001IIII00 -/
  | mulF2 (imm9 : BitVec 9) (reg2 reg3 : Reg)
  /-- MULH (form 1), R384: rrrrr000111RRRRR -/
  | mulhF1 (reg1 reg2 : Reg)
  /-- MULH (form 2), R384: rrrrr010111iiiii -/
  | mulhF2 (imm5 : BitVec 5) (reg2 : Reg)
  /-- MULHI (form 1), R385: rrrrr110111RRRRR | iiiiiiiiiiiiiiii -/
  | mulhi (imm16 : BitVec 16) (reg1 reg2 : Reg)
  /-- MULU (form 1), R386: rrrrr111111RRRRR | wwwww01000100010 -/
  | muluF1 (reg1 reg2 reg3 : Reg)
  /-- MULU (form 2), R386: rrrrr111111iiiii | wwwww01001IIII10 -/
  | muluF2 (imm9 : BitVec 9) (reg2 reg3 : Reg)
  /-- MAC (form 1), R387: rrrrr111111RRRRR | wwww0011110mmmm0 -/
  | mac (reg1 reg2 : Reg) (reg3 reg4 : RegPair)
  /-- MACU (form 1), R388: rrrrr111111RRRRR | wwww0011111mmmm0 -/
  | macu (reg1 reg2 : Reg) (reg3 reg4 : RegPair)
  /-- AND (form 1), R375: rrrrr001010RRRRR -/
  | and (reg1 reg2 : Reg)
  /-- ANDI (form 1), R376: rrrrr110110RRRRR | iiiiiiiiiiiiiiii -/
  | andi (imm16 : BitVec 16) (reg1 reg2 : Reg)
  /-- NOT (form 1), R377: rrrrr000001RRRRR -/
  | not (reg1 reg2 : Reg)
  /-- OR (form 1), R378: rrrrr001000RRRRR -/
  | or (reg1 reg2 : Reg)
  /-- ORI (form 1), R379: rrrrr110100RRRRR | iiiiiiiiiiiiiiii -/
  | ori (imm16 : BitVec 16) (reg1 reg2 : Reg)
  /-- TST (form 1), R380: rrrrr001011RRRRR -/
  | tst (reg1 reg2 : Reg)
  /-- XOR (form 1), R381: rrrrr001001RRRRR -/
  | xor (reg1 reg2 : Reg)
  /-- XORI (form 1), R382: rrrrr110101RRRRR | iiiiiiiiiiiiiiii -/
  | xori (imm16 : BitVec 16) (reg1 reg2 : Reg)
  /-- Bcond (form 1), R400: ddddd1011dddcccc -/
  | bcondF1 (cccc : BitVec 4) (disp9 : BitVec 8)
  /-- Bcond (form 2), R400: 00000111111Dcccc | ddddddddddddddd1 -/
  | bcondF2 (cccc : BitVec 4) (disp17 : BitVec 16)
  /-- JARL (form 1), R401: rrrrr11110dddddd | ddddddddddddddd0 -/
  | jarlF1 (disp22 : BitVec 21) (reg2 : Reg)
  /-- JARL (form 2), R401: 00000010111RRRRR | ddddddddddddddd0 | DDDDDDDDDDDDDDDD -/
  | jarlF2 (disp32 : BitVec 31) (reg1 : Reg)
  /-- JARL (form 3), R401: 11000111111RRRRR | WWWWW00101100000 -/
  | jarlF3 (reg1 reg3 : Reg)
  /-- JMP (form 1), R402: 00000000011RRRRR -/
  | jmpF1 (reg1 : Reg)
  /-- JMP (form 2), R402: 00000110111RRRRR | ddddddddddddddd0 | DDDDDDDDDDDDDDDD -/
  | jmpF2 (disp32 : BitVec 31) (reg1 : Reg)
  /-- JR (form 1), R403: 0000011110dddddd | ddddddddddddddd0 -/
  | jrF1 (disp22 : BitVec 21)
  /-- JR (form 2), R403: 0000001011100000 | ddddddddddddddd0 | DDDDDDDDDDDDDDDD -/
  | jrF2 (disp32 : BitVec 31)
  /-- LOOP (form 1), R404: 00000110111RRRRR | ddddddddddddddd1 -/
  | loop (disp16 : BitVec 15) (reg1 : Reg)
  /-- BINS (form 1), R405: rrrrr111111RRRRR | MMMMK0001001LLL0 -/
  | binsF1 (msb lsb : BitVec 4) (reg1 reg2 : Reg)
  /-- BINS (form 2), R405: rrrrr111111RRRRR | MMMMK0001011LLL0 -/
  | binsF2 (msb lsb : BitVec 4) (reg1 reg2 : Reg)
  /-- BINS (form 3), R405: rrrrr111111RRRRR | MMMMK0001101LLL0 -/
  | binsF3 (msb lsb : BitVec 4) (reg1 reg2 : Reg)
  /-- BSH (form 1), R406: rrrrr11111100000 | wwwww01101000010 -/
  | bsh (reg2 reg3 : Reg)
  /-- BSW (form 1), R407: rrrrr11111100000 | wwwww01101000000 -/
  | bsw (reg2 reg3 : Reg)
  /-- CLIP.B (form 1), R408: rrrrr111111RRRRR | 0000000000001000 -/
  | clipB (reg1 reg2 : Reg)
  /-- CLIP.BU (form 1), R409: rrrrr111111RRRRR | 0000000000001010 -/
  | clipBu (reg1 reg2 : Reg)
  /-- CLIP.H (form 1), R410: rrrrr111111RRRRR | 0000000000001100 -/
  | clipH (reg1 reg2 : Reg)
  /-- CLIP.HU (form 1), R411: rrrrr111111RRRRR | 0000000000001110 -/
  | clipHu (reg1 reg2 : Reg)
  /-- CMOV (form 1), R412: rrrrr111111RRRRR | wwwww011001cccc0 -/
  | cmovF1 (cccc : BitVec 4) (reg1 reg2 reg3 : Reg)
  /-- CMOV (form 2), R412: rrrrr111111iiiii | wwwww011000cccc0 -/
  | cmovF2 (cccc : BitVec 4) (imm5 : BitVec 5) (reg2 reg3 : Reg)
  /-- HSH (form 1), R413: rrrrr11111100000 | wwwww01101000110 -/
  | hsh (reg2 reg3 : Reg)
  /-- HSW (form 1), R414: rrrrr11111100000 | wwwww01101000100 -/
  | hsw (reg2 reg3 : Reg)
  /-- ROTL (form 1), R415: rrrrr111111iiiii | wwwww00011000100 -/
  | rotlF1 (imm5 : BitVec 5) (reg2 reg3 : Reg)
  /-- ROTL (form 2), R415: rrrrr111111RRRRR | wwwww00011000110 -/
  | rotlF2 (reg1 reg2 reg3 : Reg)
  /-- SAR (form 1), R416: rrrrr111111RRRRR | 0000000010100000 -/
  | sarF1 (reg1 reg2 : Reg)
  /-- SAR (form 2), R416: rrrrr010101iiiii -/
  | sarF2 (imm5 : BitVec 5) (reg2 : Reg)
  /-- SAR (form 3), R416: rrrrr111111RRRRR | wwwww00010100010 -/
  | sarF3 (reg1 reg2 reg3 : Reg)
  /-- SASF (form 1), R417: rrrrr1111110cccc | 0000001000000000 -/
  | sasf (cccc : BitVec 4) (reg2 : Reg)
  /-- SETF (form 1), R418: rrrrr1111110cccc | 0000000000000000 -/
  | setf (cccc : BitVec 4) (reg2 : Reg)
  /-- SHL (form 1), R419: rrrrr111111RRRRR | 0000000011000000 -/
  | shlF1 (reg1 reg2 : Reg)
  /-- SHL (form 2), R419: rrrrr010110iiiii -/
  | shlF2 (imm5 : BitVec 5) (reg2 : Reg)
  /-- SHL (form 3), R419: rrrrr111111RRRRR | wwwww00011000010 -/
  | shlF3 (reg1 reg2 reg3 : Reg)
  /-- SHR (form 1), R420: rrrrr111111RRRRR | 0000000010000000 -/
  | shrF1 (reg1 reg2 : Reg)
  /-- SHR (form 2), R420: rrrrr010100iiiii -/
  | shrF2 (imm5 : BitVec 5) (reg2 : Reg)
  /-- SHR (form 3), R420: rrrrr111111RRRRR | wwwww00010000010 -/
  | shrF3 (reg1 reg2 reg3 : Reg)
  /-- SXB (form 1), R421: 00000000101RRRRR -/
  | sxb (reg1 : Reg)
  /-- SXH (form 1), R422: 00000000111RRRRR -/
  | sxh (reg1 : Reg)
  /-- ZXB (form 1), R423: 00000000100RRRRR -/
  | zxb (reg1 : Reg)
  /-- ZXH (form 1), R424: 00000000110RRRRR -/
  | zxh (reg1 : Reg)
  /-- SCH0L (form 1), R425: rrrrr11111100000 | wwwww01101100100 -/
  | sch0l (reg2 reg3 : Reg)
  /-- SCH0R (form 1), R426: rrrrr11111100000 | wwwww01101100000 -/
  | sch0r (reg2 reg3 : Reg)
  /-- SCH1L (form 1), R427: rrrrr11111100000 | wwwww01101100110 -/
  | sch1l (reg2 reg3 : Reg)
  /-- SCH1R (form 1), R428: rrrrr11111100000 | wwwww01101100010 -/
  | sch1r (reg2 reg3 : Reg)
  /-- CLR1 (form 1), R429: 10bbb111110RRRRR | dddddddddddddddd -/
  | clr1F1 (bit3 : BitVec 3) (disp16 : BitVec 16) (reg1 : Reg)
  /-- CLR1 (form 2), R429: rrrrr111111RRRRR | 0000000011100100 -/
  | clr1F2 (reg1 reg2 : Reg)
  /-- NOT1 (form 1), R430: 01bbb111110RRRRR | dddddddddddddddd -/
  | not1F1 (bit3 : BitVec 3) (disp16 : BitVec 16) (reg1 : Reg)
  /-- NOT1 (form 2), R430: rrrrr111111RRRRR | 0000000011100010 -/
  | not1F2 (reg1 reg2 : Reg)
  /-- SET1 (form 1), R431: 00bbb111110RRRRR | dddddddddddddddd -/
  | set1F1 (bit3 : BitVec 3) (disp16 : BitVec 16) (reg1 : Reg)
  /-- SET1 (form 2), R431: rrrrr111111RRRRR | 0000000011100000 -/
  | set1F2 (reg1 reg2 : Reg)
  /-- TST1 (form 1), R432: 11bbb111110RRRRR | dddddddddddddddd -/
  | tst1F1 (bit3 : BitVec 3) (disp16 : BitVec 16) (reg1 : Reg)
  /-- TST1 (form 2), R432: rrrrr111111RRRRR | 0000000011100110 -/
  | tst1F2 (reg1 reg2 : Reg)
  /-- LD.B (form 1), R451: rrrrr111000RRRRR | dddddddddddddddd -/
  | ldBF1 (disp16 : BitVec 16) (reg1 reg2 : Reg)
  /-- LD.B (form 2), R451: 00000111100RRRRR | wwwwwddddddd0101 | DDDDDDDDDDDDDDDD -/
  | ldBF2 (disp23 : BitVec 23) (reg1 reg3 : Reg)
  /-- LD.B (form 3), R451: 00010111111RRRRR | wwwww01101110000 -/
  | ldBF3 (reg1 reg3 : Reg)
  /-- LD.B (form 4), R451: 00100111111RRRRR | wwwww01101110000 -/
  | ldBF4 (reg1 reg3 : Reg)
  /-- LD.BU (form 1), R452: rrrrr11110bRRRRR | ddddddddddddddd1 -/
  | ldBuF1 (disp16 : BitVec 16) (reg1 reg2 : Reg)
  /-- LD.BU (form 2), R452: 00000111101RRRRR | wwwwwddddddd0101 | DDDDDDDDDDDDDDDD -/
  | ldBuF2 (disp23 : BitVec 23) (reg1 reg3 : Reg)
  /-- LD.BU (form 3), R452: 00011111111RRRRR | wwwww01101110000 -/
  | ldBuF3 (reg1 reg3 : Reg)
  /-- LD.BU (form 4), R452: 00101111111RRRRR | wwwww01101110000 -/
  | ldBuF4 (reg1 reg3 : Reg)
  /-- LD.DW (form 1), R453: 00000111101RRRRR | wwwwwdddddd01001 | DDDDDDDDDDDDDDDD -/
  | ldDw (disp23 : BitVec 22) (reg1 reg3 : Reg)
  /-- LD.H (form 1), R454: rrrrr111001RRRRR | ddddddddddddddd0 -/
  | ldHF1 (disp16 : BitVec 15) (reg1 reg2 : Reg)
  /-- LD.H (form 2), R454: 00000111100RRRRR | wwwwwdddddd00111 | DDDDDDDDDDDDDDDD -/
  | ldHF2 (disp23 : BitVec 22) (reg1 reg3 : Reg)
  /-- LD.H (form 3), R454: 00010111111RRRRR | wwwww01101110100 -/
  | ldHF3 (reg1 reg3 : Reg)
  /-- LD.H (form 4), R454: 00100111111RRRRR | wwwww01101110100 -/
  | ldHF4 (reg1 reg3 : Reg)
  /-- LD.HU (form 1), R455: rrrrr111111RRRRR | ddddddddddddddd1 -/
  | ldHuF1 (disp16 : BitVec 15) (reg1 reg2 : Reg)
  /-- LD.HU (form 2), R455: 00000111101RRRRR | wwwwwdddddd00111 | DDDDDDDDDDDDDDDD -/
  | ldHuF2 (disp23 : BitVec 22) (reg1 reg3 : Reg)
  /-- LD.HU (form 3), R455: 00011111111RRRRR | wwwww01101110100 -/
  | ldHuF3 (reg1 reg3 : Reg)
  /-- LD.HU (form 4), R455: 00101111111RRRRR | wwwww01101110100 -/
  | ldHuF4 (reg1 reg3 : Reg)
  /-- LD.W (form 1), R456: rrrrr111001RRRRR | ddddddddddddddd1 -/
  | ldWF1 (disp16 : BitVec 15) (reg1 reg2 : Reg)
  /-- LD.W (form 2), R456: 00000111100RRRRR | wwwwwdddddd01001 | DDDDDDDDDDDDDDDD -/
  | ldWF2 (disp23 : BitVec 22) (reg1 reg3 : Reg)
  /-- LD.W (form 3), R456: 00010111111RRRRR | wwwww01101111000 -/
  | ldWF3 (reg1 reg3 : Reg)
  /-- LD.W (form 4), R456: 00100111111RRRRR | wwwww01101111000 -/
  | ldWF4 (reg1 reg3 : Reg)
  /-- SLD.B (form 1), R457: rrrrr0110ddddddd -/
  | sldB (disp7 : BitVec 7) (reg2 : Reg)
  /-- SLD.BU (form 1), R458: rrrrr0000110dddd -/
  | sldBu (disp4 : BitVec 4) (reg2 : Reg)
  /-- SLD.H (form 1), R459: rrrrr1000ddddddd -/
  | sldH (disp8 : BitVec 7) (reg2 : Reg)
  /-- SLD.HU (form 1), R460: rrrrr0000111dddd -/
  | sldHu (disp5 : BitVec 4) (reg2 : Reg)
  /-- SLD.W (form 1), R461: rrrrr1010dddddd0 -/
  | sldW (disp8 : BitVec 6) (reg2 : Reg)
  /-- ST.B (form 1), R462: rrrrr111010RRRRR | dddddddddddddddd -/
  | stBF1 (disp16 : BitVec 16) (reg1 reg2 : Reg)
  /-- ST.B (form 2), R462: 00000111100RRRRR | wwwwwddddddd1101 | DDDDDDDDDDDDDDDD -/
  | stBF2 (disp23 : BitVec 23) (reg1 reg3 : Reg)
  /-- ST.B (form 3), R462: 00010111111RRRRR | wwwww01101110010 -/
  | stBF3 (reg1 reg3 : Reg)
  /-- ST.B (form 4), R462: 00100111111RRRRR | wwwww01101110010 -/
  | stBF4 (reg1 reg3 : Reg)
  /-- ST.DW (form 1), R463: 00000111101RRRRR | wwwwwdddddd01111 | DDDDDDDDDDDDDDDD -/
  | stDw (disp23 : BitVec 22) (reg1 reg3 : Reg)
  /-- ST.H (form 1), R464: rrrrr111011RRRRR | ddddddddddddddd0 -/
  | stHF1 (disp16 : BitVec 15) (reg1 reg2 : Reg)
  /-- ST.H (form 2), R464: 00000111101RRRRR | wwwwwdddddd01101 | DDDDDDDDDDDDDDDD -/
  | stHF2 (disp23 : BitVec 22) (reg1 reg3 : Reg)
  /-- ST.H (form 3), R464: 00010111111RRRRR | wwwww01101110110 -/
  | stHF3 (reg1 reg3 : Reg)
  /-- ST.H (form 4), R464: 00100111111RRRRR | wwwww01101110110 -/
  | stHF4 (reg1 reg3 : Reg)
  /-- ST.W (form 1), R465: rrrrr111011RRRRR | ddddddddddddddd1 -/
  | stWF1 (disp16 : BitVec 15) (reg1 reg2 : Reg)
  /-- ST.W (form 2), R465: 00000111100RRRRR | wwwwwdddddd01111 | DDDDDDDDDDDDDDDD -/
  | stWF2 (disp23 : BitVec 22) (reg1 reg3 : Reg)
  /-- ST.W (form 3), R465: 00010111111RRRRR | wwwww01101111010 -/
  | stWF3 (reg1 reg3 : Reg)
  /-- ST.W (form 4), R465: 00100111111RRRRR | wwwww01101111010 -/
  | stWF4 (reg1 reg3 : Reg)
  /-- SST.B (form 1), R466: rrrrr0111ddddddd -/
  | sstB (disp7 : BitVec 7) (reg2 : Reg)
  /-- SST.H (form 1), R467: rrrrr1001ddddddd -/
  | sstH (disp8 : BitVec 7) (reg2 : Reg)
  /-- SST.W (form 1), R468: rrrrr1010dddddd1 -/
  | sstW (disp8 : BitVec 6) (reg2 : Reg)
  /-- CALLT (form 1), R500: 0000001000iiiiii -/
  | callt (imm6 : BitVec 6)
  /-- CTRET (form 1), R501: 0000011111100000 | 0000000101000100 -/
  | ctret
  /-- SWITCH (form 1), R502: 00000000010RRRRR -/
  | switch (reg1 : Reg)
  /-- PREPARE (form 1), R504: 0000011110iiiiiL | LLLLLLLLLLL00001 -/
  | prepareF1 (list12 : BitVec 12) (imm5 : BitVec 5)
  /-- PREPARE (form 2a), R504: 0000011110iiiiiL | LLLLLLLLLLL00011 -/
  | prepareF2a (list12 : BitVec 12) (imm5 : BitVec 5)
  /-- PREPARE (form 2b), R504: 0000011110iiiiiL | LLLLLLLLLLL01011 | jjjjjjjjjjjjjjjj -/
  | prepareF2b (list12 : BitVec 12) (imm5 : BitVec 5) (imm16 : BitVec 16)
  /-- PREPARE (form 2c), R504: 0000011110iiiiiL | LLLLLLLLLLL10011 | jjjjjjjjjjjjjjjj -/
  | prepareF2c (list12 : BitVec 12) (imm5 : BitVec 5) (imm16 : BitVec 16)
  /-- PREPARE (form 2d), R504: 0000011110iiiiiL | LLLLLLLLLLL11011 | jjjjjjjjjjjjjjjj | JJJJJJJJJJJJJJJJ -/
  | prepareF2d (list12 : BitVec 12) (imm5 : BitVec 5) (imm32 : BitVec 32)
  /-- DISPOSE (form 1), R505: 0000011001iiiiiL | LLLLLLLLLLL00000 -/
  | disposeF1 (list12 : BitVec 12) (imm5 : BitVec 5)
  /-- DISPOSE (form 2), R505: 0000011001iiiiiL | LLLLLLLLLLLRRRRR -/
  | disposeF2 (list12 : BitVec 12) (imm5 : BitVec 5) (reg1 : Reg)
  /-- PUSHSP (form 1), R506: 01000111111RRRRR | wwwww00101100000 -/
  | pushsp (reg1 reg3 : Reg)
  /-- POPSP (form 1), R507: 01100111111RRRRR | wwwww00101100000 -/
  | popsp (reg1 reg3 : Reg)
  /-- CAXI (form 1), R508: rrrrr111111RRRRR | wwwww00011101110 -/
  | caxi (reg1 reg2 reg3 : Reg)
  /-- CLL (form 1), R509: 1111111111111111 | 1111000101100000 -/
  | cll
  /-- LDL.BU (form 1), R510: 00001111111RRRRR | wwwww01101110000 -/
  | ldlBu (reg1 reg3 : Reg)
  /-- LDL.HU (form 1), R511: 00001111111RRRRR | wwwww01101110100 -/
  | ldlHu (reg1 reg3 : Reg)
  /-- LDL.W (form 1), R512: 00000111111RRRRR | wwwww01101111000 -/
  | ldlW (reg1 reg3 : Reg)
  /-- STC.B (form 1), R513: 00000111111RRRRR | wwwww01101110010 -/
  | stcB (reg1 reg3 : Reg)
  /-- STC.H (form 1), R514: 00000111111RRRRR | wwwww01101110110 -/
  | stcH (reg1 reg3 : Reg)
  /-- STC.W (form 1), R515: 00000111111RRRRR | wwwww01101111010 -/
  | stcW (reg1 reg3 : Reg)
  /-- NOP (form 1), R516: 0000000000000000 -/
  | nop
  /-- RIE (form 1), R517: 0000000001000000 -/
  | rieF1
  /-- RIE (form 2), R517: iiiii1111111IIII | 0000000000000000 -/
  | rieF2 (imm5 : BitVec 5) (imm4 : BitVec 4)
  /-- DI (form 1), R530: 0000011111100000 | 0000000101100000 -/
  | di
  /-- EI (form 1), R531: 1000011111100000 | 0000000101100000 -/
  | ei
  /-- EIRET (form 1), R532: 0000011111100000 | 0000000101001000 -/
  | eiret
  /-- FERET (form 1), R533: 0000011111100000 | 0000000101001010 -/
  | feret
  /-- FETRAP (form 1), R534: 0vvvv00001000000 -/
  | fetrap (vector4 : BitVec 4)
  /-- TRAP (form 1), R535: 00000111111vvvvv | 0000000100000000 -/
  | trap (vector5 : BitVec 5)
  /-- SYSCALL (form 1), R536: 11010111111vvvvv | 00VVV00101100000 -/
  | syscall (vector8 : BitVec 8)
  /-- HALT (form 1), R538: 0000011111100000 | 0000000100100000 -/
  | halt
  /-- SNOOZE (form 1), R539: 0000111111100000 | 0000000100100000 -/
  | snooze
  /-- LDSR (form 1), R540: rrrrr111111RRRRR | sssss00000100000 -/
  | ldsr (regID selID : BitVec 5) (reg2 : Reg)
  /-- STSR (form 1), R541: rrrrr111111RRRRR | sssss00001000000 -/
  | stsr (regID selID : BitVec 5) (reg2 : Reg)
  /-- LDM.MP (form 1), R542: rrrrr111111RRRRR | wwwww00101100110 -/
  | ldmMp (eh et : BitVec 5) (reg1 : Reg)
  /-- STM.MP (form 1), R543: rrrrr111111RRRRR | wwwww00101100100 -/
  | stmMp (eh et : BitVec 5) (reg1 : Reg)
  /-- RESBANK (form 1), R546: 0000011111100000 | 1000000101100000 -/
  | resbank
  /-- SYNCE (form 1), R547: 0000000000011101 -/
  | synce
  /-- SYNCI (form 1), R548: 0000000000011100 -/
  | synci
  /-- SYNCM (form 1), R549: 0000000000011110 -/
  | syncm
  /-- SYNCP (form 1), R550: 0000000000011111 -/
  | syncp
  /-- CACHE (form 1), R570: 111pp111111RRRRR | PPPPP00101100000 -/
  | cache (cacheop : BitVec 7) (reg1 : Reg)
  /-- PREF (form 1), R571: 11011111111RRRRR | PPPPP00101100000 -/
  | pref (prefop : BitVec 5) (reg1 : Reg)
  /-- ABSF.D (form 1), R590: rrrr011111100000 | wwww010001011000 -/
  | absfD (reg2 reg3 : RegPair)
  /-- ABSF.S (form 1), R591: rrrrr11111100000 | wwwww10001001000 -/
  | absfS (reg2 reg3 : Reg)
  /-- NEGF.D (form 1), R592: rrrr011111100001 | wwww010001011000 -/
  | negfD (reg2 reg3 : RegPair)
  /-- NEGF.S (form 1), R593: rrrrr11111100001 | wwwww10001001000 -/
  | negfS (reg2 reg3 : Reg)
  /-- ADDF.D (form 1), R594: rrrr0111111RRRR0 | wwww010001110000 -/
  | addfD (reg1 reg2 reg3 : RegPair)
  /-- ADDF.S (form 1), R595: rrrrr111111RRRRR | wwwww10001100000 -/
  | addfS (reg1 reg2 reg3 : Reg)
  /-- SUBF.D (form 1), R596: rrrr0111111RRRR0 | wwww010001110010 -/
  | subfD (reg1 reg2 reg3 : RegPair)
  /-- SUBF.S (form 1), R597: rrrrr111111RRRRR | wwwww10001100010 -/
  | subfS (reg1 reg2 reg3 : Reg)
  /-- MULF.D (form 1), R598: rrrr0111111RRRR0 | wwww010001110100 -/
  | mulfD (reg1 reg2 reg3 : RegPair)
  /-- MULF.S (form 1), R599: rrrrr111111RRRRR | wwwww10001100100 -/
  | mulfS (reg1 reg2 reg3 : Reg)
  /-- DIVF.D (form 1), R600: rrrr0111111RRRR0 | wwww010001111110 -/
  | divfD (reg1 reg2 reg3 : RegPair)
  /-- DIVF.S (form 1), R601: rrrrr111111RRRRR | wwwww10001101110 -/
  | divfS (reg1 reg2 reg3 : Reg)
  /-- MAXF.D (form 1), R602: rrrr0111111RRRR0 | wwww010001111000 -/
  | maxfD (reg1 reg2 reg3 : RegPair)
  /-- MAXF.S (form 1), R603: rrrrr111111RRRRR | wwwww10001101000 -/
  | maxfS (reg1 reg2 reg3 : Reg)
  /-- MINF.D (form 1), R604: rrrr0111111RRRR0 | wwww010001111010 -/
  | minfD (reg1 reg2 reg3 : RegPair)
  /-- MINF.S (form 1), R605: rrrrr111111RRRRR | wwwww10001101010 -/
  | minfS (reg1 reg2 reg3 : Reg)
  /-- SQRTF.D (form 1), R606: rrrr011111100000 | wwww010001011110 -/
  | sqrtfD (reg2 reg3 : RegPair)
  /-- SQRTF.S (form 1), R607: rrrrr11111100000 | wwwww10001001110 -/
  | sqrtfS (reg2 reg3 : Reg)
  /-- RECIPF.D (form 1), R608: rrrr011111100001 | wwww010001011110 -/
  | recipfD (reg2 reg3 : RegPair)
  /-- RECIPF.S (form 1), R609: rrrrr11111100001 | wwwww10001001110 -/
  | recipfS (reg2 reg3 : Reg)
  /-- RSQRTF.D (form 1), R610: rrrr011111100010 | wwww010001011110 -/
  | rsqrtfD (reg2 reg3 : RegPair)
  /-- RSQRTF.S (form 1), R611: rrrrr11111100010 | wwwww10001001110 -/
  | rsqrtfS (reg2 reg3 : Reg)
  /-- FMAF.S (form 1), R612: rrrrr111111RRRRR | wwwww10011100000 -/
  | fmafS (reg1 reg2 reg3 : Reg)
  /-- FMSF.S (form 1), R613: rrrrr111111RRRRR | wwwww10011100010 -/
  | fmsfS (reg1 reg2 reg3 : Reg)
  /-- FNMAF.S (form 1), R614: rrrrr111111RRRRR | wwwww10011100100 -/
  | fnmafS (reg1 reg2 reg3 : Reg)
  /-- FNMSF.S (form 1), R615: rrrrr111111RRRRR | wwwww10011100110 -/
  | fnmsfS (reg1 reg2 reg3 : Reg)
  /-- CMPF.D (form 1), R616: rrrr0111111RRRR0 | 0FFFF1000011fff0 -/
  | cmpfD (fcond : BitVec 4) (fff : BitVec 3) (reg1 reg2 : RegPair)
  /-- CMPF.S (form 1), R617: rrrrr111111RRRRR | 0FFFF1000010fff0 -/
  | cmpfS (fcond : BitVec 4) (fff : BitVec 3) (reg1 reg2 : Reg)
  /-- CMOVF.D (form 1), R618: rrrr0111111RRRR0 | wwww01000001fff0 -/
  | cmovfD (fff : BitVec 3) (reg1 reg2 reg3 : RegPair)
  /-- CMOVF.S (form 1), R619: rrrrr111111RRRRR | wwwww1000000fff0 -/
  | cmovfS (fff : BitVec 3) (reg1 reg2 reg3 : Reg)
  /-- TRFSR (form 1), R620: 0000011111100000 | 000001000000fff0 -/
  | trfsr (fff : BitVec 3)
  /-- CEILF.DL (form 1), R643: rrrr011111100010 | wwww010001010100 -/
  | ceilfDl (reg2 reg3 : RegPair)
  /-- CEILF.DUL (form 1), R644: rrrr011111110010 | wwww010001010100 -/
  | ceilfDul (reg2 reg3 : RegPair)
  /-- CEILF.DUW (form 1), R645: rrrr011111110010 | wwwww10001010000 -/
  | ceilfDuw (reg2 : RegPair) (reg3 : Reg)
  /-- CEILF.DW (form 1), R646: rrrr011111100010 | wwwww10001010000 -/
  | ceilfDw (reg2 : RegPair) (reg3 : Reg)
  /-- CEILF.SL (form 1), R647: rrrrr11111100010 | wwww010001000100 -/
  | ceilfSl (reg2 : Reg) (reg3 : RegPair)
  /-- CEILF.SUL (form 1), R648: rrrrr11111110010 | wwww010001000100 -/
  | ceilfSul (reg2 : Reg) (reg3 : RegPair)
  /-- CEILF.SUW (form 1), R649: rrrrr11111110010 | wwwww10001000000 -/
  | ceilfSuw (reg2 reg3 : Reg)
  /-- CEILF.SW (form 1), R650: rrrrr11111100010 | wwwww10001000000 -/
  | ceilfSw (reg2 reg3 : Reg)
  /-- FLOORF.DL (form 1), R651: rrrr011111100011 | wwww010001010100 -/
  | floorfDl (reg2 reg3 : RegPair)
  /-- FLOORF.DUL (form 1), R652: rrrr011111110011 | wwww010001010100 -/
  | floorfDul (reg2 reg3 : RegPair)
  /-- FLOORF.DUW (form 1), R653: rrrr011111110011 | wwwww10001010000 -/
  | floorfDuw (reg2 : RegPair) (reg3 : Reg)
  /-- FLOORF.DW (form 1), R654: rrrr011111100011 | wwwww10001010000 -/
  | floorfDw (reg2 : RegPair) (reg3 : Reg)
  /-- FLOORF.SL (form 1), R655: rrrrr11111100011 | wwww010001000100 -/
  | floorfSl (reg2 : Reg) (reg3 : RegPair)
  /-- FLOORF.SUL (form 1), R656: rrrrr11111110011 | wwww010001000100 -/
  | floorfSul (reg2 : Reg) (reg3 : RegPair)
  /-- FLOORF.SUW (form 1), R657: rrrrr11111110011 | wwwww10001000000 -/
  | floorfSuw (reg2 reg3 : Reg)
  /-- FLOORF.SW (form 1), R658: rrrrr11111100011 | wwwww10001000000 -/
  | floorfSw (reg2 reg3 : Reg)
  /-- ROUNDF.DL (form 1), R659: rrrr011111100000 | wwww010001010100 -/
  | roundfDl (reg2 reg3 : RegPair)
  /-- ROUNDF.DUL (form 1), R660: rrrr011111110000 | wwww010001010100 -/
  | roundfDul (reg2 reg3 : RegPair)
  /-- ROUNDF.DUW (form 1), R661: rrrr011111110000 | wwwww10001010000 -/
  | roundfDuw (reg2 : RegPair) (reg3 : Reg)
  /-- ROUNDF.DW (form 1), R662: rrrr011111100000 | wwwww10001010000 -/
  | roundfDw (reg2 : RegPair) (reg3 : Reg)
  /-- ROUNDF.SL (form 1), R663: rrrrr11111100000 | wwww010001000100 -/
  | roundfSl (reg2 : Reg) (reg3 : RegPair)
  /-- ROUNDF.SUL (form 1), R664: rrrrr11111110000 | wwww010001000100 -/
  | roundfSul (reg2 : Reg) (reg3 : RegPair)
  /-- ROUNDF.SUW (form 1), R665: rrrrr11111110000 | wwwww10001000000 -/
  | roundfSuw (reg2 reg3 : Reg)
  /-- ROUNDF.SW (form 1), R666: rrrrr11111100000 | wwwww10001000000 -/
  | roundfSw (reg2 reg3 : Reg)
  /-- TRNCF.DL (form 1), R667: rrrr011111100001 | wwww010001010100 -/
  | trncfDl (reg2 reg3 : RegPair)
  /-- TRNCF.DUL (form 1), R668: rrrr011111110001 | wwww010001010100 -/
  | trncfDul (reg2 reg3 : RegPair)
  /-- TRNCF.DUW (form 1), R669: rrrr011111110001 | wwwww10001010000 -/
  | trncfDuw (reg2 : RegPair) (reg3 : Reg)
  /-- TRNCF.DW (form 1), R670: rrrr011111100001 | wwwww10001010000 -/
  | trncfDw (reg2 : RegPair) (reg3 : Reg)
  /-- TRNCF.SL (form 1), R671: rrrrr11111100001 | wwww010001000100 -/
  | trncfSl (reg2 : Reg) (reg3 : RegPair)
  /-- TRNCF.SUL (form 1), R672: rrrrr11111110001 | wwww010001000100 -/
  | trncfSul (reg2 : Reg) (reg3 : RegPair)
  /-- TRNCF.SUW (form 1), R673: rrrrr11111110001 | wwwww10001000000 -/
  | trncfSuw (reg2 reg3 : Reg)
  /-- TRNCF.SW (form 1), R674: rrrrr11111100001 | wwwww10001000000 -/
  | trncfSw (reg2 reg3 : Reg)
  /-- CVTF.DL (form 1), R675: rrrr011111100100 | wwww010001010100 -/
  | cvtfDl (reg2 reg3 : RegPair)
  /-- CVTF.DUL (form 1), R676: rrrr011111110100 | wwww010001010100 -/
  | cvtfDul (reg2 reg3 : RegPair)
  /-- CVTF.DUW (form 1), R677: rrrr011111110100 | wwwww10001010000 -/
  | cvtfDuw (reg2 : RegPair) (reg3 : Reg)
  /-- CVTF.DW (form 1), R678: rrrr011111100100 | wwwww10001010000 -/
  | cvtfDw (reg2 : RegPair) (reg3 : Reg)
  /-- CVTF.SL (form 1), R679: rrrrr11111100100 | wwww010001000100 -/
  | cvtfSl (reg2 : Reg) (reg3 : RegPair)
  /-- CVTF.SUL (form 1), R680: rrrrr11111110100 | wwww010001000100 -/
  | cvtfSul (reg2 : Reg) (reg3 : RegPair)
  /-- CVTF.SUW (form 1), R681: rrrrr11111110100 | wwwww10001000000 -/
  | cvtfSuw (reg2 reg3 : Reg)
  /-- CVTF.SW (form 1), R682: rrrrr11111100100 | wwwww10001000000 -/
  | cvtfSw (reg2 reg3 : Reg)
  /-- CVTF.DS (form 1), R683: rrrr011111100011 | wwwww10001010010 -/
  | cvtfDs (reg2 : RegPair) (reg3 : Reg)
  /-- CVTF.HS (form 1), R684: rrrrr11111100010 | wwwww10001000010 -/
  | cvtfHs (reg2 reg3 : Reg)
  /-- CVTF.LD (form 1), R685: rrrr011111100001 | wwww010001010010 -/
  | cvtfLd (reg2 reg3 : RegPair)
  /-- CVTF.LS (form 1), R686: rrrr011111100001 | wwwww10001000010 -/
  | cvtfLs (reg2 : RegPair) (reg3 : Reg)
  /-- CVTF.SD (form 1), R687: rrrrr11111100010 | wwww010001010010 -/
  | cvtfSd (reg2 : Reg) (reg3 : RegPair)
  /-- CVTF.SH (form 1), R688: rrrrr11111100011 | wwwww10001000010 -/
  | cvtfSh (reg2 reg3 : Reg)
  /-- CVTF.ULD (form 1), R689: rrrr011111110001 | wwww010001010010 -/
  | cvtfUld (reg2 reg3 : RegPair)
  /-- CVTF.ULS (form 1), R690: rrrr011111110001 | wwwww10001000010 -/
  | cvtfUls (reg2 : RegPair) (reg3 : Reg)
  /-- CVTF.UWD (form 1), R691: rrrrr11111110000 | wwww010001010010 -/
  | cvtfUwd (reg2 : Reg) (reg3 : RegPair)
  /-- CVTF.UWS (form 1), R692: rrrrr11111110000 | wwwww10001000010 -/
  | cvtfUws (reg2 reg3 : Reg)
  /-- CVTF.WD (form 1), R693: rrrrr11111100000 | wwww010001010010 -/
  | cvtfWd (reg2 : Reg) (reg3 : RegPair)
  /-- CVTF.WS (form 1), R694: rrrrr11111100000 | wwwww10001000010 -/
  | cvtfWs (reg2 reg3 : Reg)
  /-- MOVV.W4 (form 1), R710: rrrrr11111111110 | wwwww10110100000 -/
  | movvW4 (wreg2 wreg3 : VReg)
  /-- FLPV.S4 (form 1), R711: rrrrr111111110ii | wwwww10110100000 -/
  | flpvS4 (imm2 : BitVec 2) (wreg2 wreg3 : VReg)
  /-- SHFLV.W4 (form 1), R712: 00000111101RRRRR | wwwww11010I11101 | rrrrriiiiiiiiiii -/
  | shflvW4 (imm12 : BitVec 12) (wreg1 wreg2 wreg3 : VReg)
  /-- LDV.W (form 1), R713: 00000111101RRRRR | wwwww00iiii11101 | ddddddddddddddxx -/
  | ldvW (imm4 : BitVec 4) (disp16 : BitVec 14) (reg1 : Reg) (wreg3 : VReg)
  /-- LDV.DW (form 1), R714: 00000111101RRRRR | wwwww0110ii11101 | dddddddddddddxxx -/
  | ldvDw (imm2 : BitVec 2) (disp16 : BitVec 13) (reg1 : Reg) (wreg3 : VReg)
  /-- LDV.QW (form 1), R715: 00000111101RRRRR | wwwww01010011101 | ddddddddddddxxxx -/
  | ldvQw (disp16 : BitVec 12) (reg1 : Reg) (wreg3 : VReg)
  /-- LDVZ.H4 (form 1), R716: 00000111101RRRRR | wwwww01111011101 | dddddddddddddxxx -/
  | ldvzH4 (disp16 : BitVec 13) (reg1 : Reg) (wreg3 : VReg)
  /-- STV.W (form 1), R717: 00000111101RRRRR | wwwww0100ii11101 | ddddddddddddddxx -/
  | stvW (imm2 : BitVec 2) (disp16 : BitVec 14) (reg1 : Reg) (wreg3 : VReg)
  /-- STV.DW (form 1), R718: 00000111101RRRRR | wwwww01110i11101 | dddddddddddddxxx -/
  | stvDw (imm1 : BitVec 1) (disp16 : BitVec 13) (reg1 : Reg) (wreg3 : VReg)
  /-- STV.QW (form 1), R719: 00000111101RRRRR | wwwww01010111101 | ddddddddddddxxxx -/
  | stvQw (disp16 : BitVec 12) (reg1 : Reg) (wreg3 : VReg)
  /-- STVZ.H4 (form 1), R720: 00000111101RRRRR | wwwww01111111101 | dddddddddddddxxx -/
  | stvzH4 (disp16 : BitVec 13) (reg1 : Reg) (wreg3 : VReg)
  /-- CMOVF.W4 (form 1), R721: 00000111101RRRRR | wwwww11000011101 | rrrrrxxxxxxWWWWW -/
  | cmovfW4 (wreg1 wreg2 wreg3 wreg4 : VReg)
  /-- TRFSRV.W4 (form 1), R722: rrrrr11111111111 | 00iii10110100000 -/
  | trfsrvW4 (imm3 : BitVec 3) (wreg2 : VReg)
  /-- CMPF.S4 (form 1), R723: rrrrr111111RRRRR | wwwww101100FFFF0 -/
  | cmpfS4 (fcond : BitVec 4) (wreg1 wreg2 wreg3 : VReg)
  /-- ABSF.S4 (form 1), R725: rrrrr11111110000 | wwwww10110100000 -/
  | absfS4 (wreg2 wreg3 : VReg)
  /-- NEGF.S4 (form 1), R726: rrrrr11111110001 | wwwww10110100000 -/
  | negfS4 (wreg2 wreg3 : VReg)
  /-- ADDF.S4 (form 1), R727: rrrrr111111RRRRR | wwwww10110100100 -/
  | addfS4 (wreg1 wreg2 wreg3 : VReg)
  /-- SUBF.S4 (form 1), R728: rrrrr111111RRRRR | wwwww10110100110 -/
  | subfS4 (wreg1 wreg2 wreg3 : VReg)
  /-- MULF.S4 (form 1), R729: rrrrr111111RRRRR | wwwww10110101000 -/
  | mulfS4 (wreg1 wreg2 wreg3 : VReg)
  /-- DIVF.S4 (form 1), R730: rrrrr111111RRRRR | wwwww10110101110 -/
  | divfS4 (wreg1 wreg2 wreg3 : VReg)
  /-- MAXF.S4 (form 1), R731: rrrrr111111RRRRR | wwwww10110101010 -/
  | maxfS4 (wreg1 wreg2 wreg3 : VReg)
  /-- MINF.S4 (form 1), R732: rrrrr111111RRRRR | wwwww10110101100 -/
  | minfS4 (wreg1 wreg2 wreg3 : VReg)
  /-- SQRTF.S4 (form 1), R733: rrrrr11111110010 | wwwww10110100000 -/
  | sqrtfS4 (wreg2 wreg3 : VReg)
  /-- RECIPF.S4 (form 1), R734: rrrrr11111110011 | wwwww10110100000 -/
  | recipfS4 (wreg2 wreg3 : VReg)
  /-- RSQRTF.S4 (form 1), R735: rrrrr11111110100 | wwwww10110100000 -/
  | rsqrtfS4 (wreg2 wreg3 : VReg)
  /-- FMAF.S4 (form 1), R736: rrrrr111111RRRRR | wwwww10011000000 -/
  | fmafS4 (wreg1 wreg2 wreg3 : VReg)
  /-- FMSF.S4 (form 1), R737: rrrrr111111RRRRR | wwwww10011000010 -/
  | fmsfS4 (wreg1 wreg2 wreg3 : VReg)
  /-- FNMAF.S4 (form 1), R738: rrrrr111111RRRRR | wwwww10011000100 -/
  | fnmafS4 (wreg1 wreg2 wreg3 : VReg)
  /-- FNMSF.S4 (form 1), R739: rrrrr111111RRRRR | wwwww10011000110 -/
  | fnmsfS4 (wreg1 wreg2 wreg3 : VReg)
  /-- ROUNDF.SW4 (form 1), R761: rrrrr11111100000 | wwwww10110100000 -/
  | roundfSw4 (wreg2 wreg3 : VReg)
  /-- ROUNDF.SUW4 (form 1), R762: rrrrr11111100001 | wwwww10110100000 -/
  | roundfSuw4 (wreg2 wreg3 : VReg)
  /-- TRNCF.SW4 (form 1), R763: rrrrr11111100010 | wwwww10110100000 -/
  | trncfSw4 (wreg2 wreg3 : VReg)
  /-- TRNCF.SUW4 (form 1), R764: rrrrr11111100011 | wwwww10110100000 -/
  | trncfSuw4 (wreg2 wreg3 : VReg)
  /-- CEILF.SW4 (form 1), R765: rrrrr11111100100 | wwwww10110100000 -/
  | ceilfSw4 (wreg2 wreg3 : VReg)
  /-- CEILF.SUW4 (form 1), R766: rrrrr11111100101 | wwwww10110100000 -/
  | ceilfSuw4 (wreg2 wreg3 : VReg)
  /-- FLOORF.SW4 (form 1), R767: rrrrr11111100110 | wwwww10110100000 -/
  | floorfSw4 (wreg2 wreg3 : VReg)
  /-- FLOORF.SUW4 (form 1), R768: rrrrr11111100111 | wwwww10110100000 -/
  | floorfSuw4 (wreg2 wreg3 : VReg)
  /-- CVTF.SW4 (form 1), R769: rrrrr11111101000 | wwwww10110100000 -/
  | cvtfSw4 (wreg2 wreg3 : VReg)
  /-- CVTF.SUW4 (form 1), R770: rrrrr11111101001 | wwwww10110100000 -/
  | cvtfSuw4 (wreg2 wreg3 : VReg)
  /-- CVTF.WS4 (form 1), R771: rrrrr11111101010 | wwwww10110100000 -/
  | cvtfWs4 (wreg2 wreg3 : VReg)
  /-- CVTF.UWS4 (form 1), R772: rrrrr11111101011 | wwwww10110100000 -/
  | cvtfUws4 (wreg2 wreg3 : VReg)
  /-- CVTF.HS4 (form 1), R773: rrrrr11111101100 | wwwww10110100000 -/
  | cvtfHs4 (wreg2 wreg3 : VReg)
  /-- CVTF.SH4 (form 1), R774: rrrrr11111101101 | wwwww10110100000 -/
  | cvtfSh4 (wreg2 wreg3 : VReg)
  /-- ADDSUBF.S4 (form 1), R776: rrrrr111111RRRRR | wwwww10111010000 -/
  | addsubfS4 (wreg1 wreg2 wreg3 : VReg)
  /-- SUBADDF.S4 (form 1), R777: rrrrr111111RRRRR | wwwww10111010010 -/
  | subaddfS4 (wreg1 wreg2 wreg3 : VReg)
  /-- ADDSUBNF.S4 (form 1), R778: rrrrr111111RRRRR | wwwww10111011000 -/
  | addsubnfS4 (wreg1 wreg2 wreg3 : VReg)
  /-- SUBADDNF.S4 (form 1), R779: rrrrr111111RRRRR | wwwww10111011010 -/
  | subaddnfS4 (wreg1 wreg2 wreg3 : VReg)
  /-- ADDXF.S4 (form 1), R780: rrrrr111111RRRRR | wwwww10111000100 -/
  | addxfS4 (wreg1 wreg2 wreg3 : VReg)
  /-- SUBXF.S4 (form 1), R781: rrrrr111111RRRRR | wwwww10111000110 -/
  | subxfS4 (wreg1 wreg2 wreg3 : VReg)
  /-- MULXF.S4 (form 1), R782: rrrrr111111RRRRR | wwwww10111001000 -/
  | mulxfS4 (wreg1 wreg2 wreg3 : VReg)
  /-- ADDSUBXF.S4 (form 1), R783: rrrrr111111RRRRR | wwwww10111010100 -/
  | addsubxfS4 (wreg1 wreg2 wreg3 : VReg)
  /-- SUBADDXF.S4 (form 1), R784: rrrrr111111RRRRR | wwwww10111010110 -/
  | subaddxfS4 (wreg1 wreg2 wreg3 : VReg)
  /-- ADDSUBNXF.S4 (form 1), R785: rrrrr111111RRRRR | wwwww10111011100 -/
  | addsubnxfS4 (wreg1 wreg2 wreg3 : VReg)
  /-- SUBADDNXF.S4 (form 1), R786: rrrrr111111RRRRR | wwwww10111011110 -/
  | subaddnxfS4 (wreg1 wreg2 wreg3 : VReg)
  /-- ADDRF.S4 (form 1), R787: rrrrr111111RRRRR | wwwww10110110100 -/
  | addrfS4 (wreg1 wreg2 wreg3 : VReg)
  /-- SUBRF.S4 (form 1), R788: rrrrr111111RRRRR | wwwww10110110110 -/
  | subrfS4 (wreg1 wreg2 wreg3 : VReg)
  /-- MULRF.S4 (form 1), R789: rrrrr111111RRRRR | wwwww10110111000 -/
  | mulrfS4 (wreg1 wreg2 wreg3 : VReg)
  /-- MAXRF.S4 (form 1), R790: rrrrr111111RRRRR | wwwww10110111010 -/
  | maxrfS4 (wreg1 wreg2 wreg3 : VReg)
  /-- MINRF.S4 (form 1), R791: rrrrr111111RRRRR | wwwww10110111100 -/
  | minrfS4 (wreg1 wreg2 wreg3 : VReg)
  /-- HVTRAP (form 1), R537: encoding lost, 30_encoding.md R324 -/
  | hvtrap (vector5 : BitVec 5)
  /-- LDM.GSR (form 1), R544: encoding lost, 30_encoding.md R324 -/
  | ldmGsr (reg1 : Reg)
  /-- STM.GSR (form 1), R545: encoding lost, 30_encoding.md R324 -/
  | stmGsr (reg1 : Reg)
deriving DecidableEq, Repr

end Sys2Proof
end

