-- ==== Sys2Proof/WellFormed.lean ====
section
/-!
DEFINITION. Well-formed instructions: the prohibitions of the [Opcode] items ("do not specify r0" and the like) that make the
prohibited pattern the encoding of another instruction or of none (30_encoding.md R318; the `exclude` items of the opcode table).
An instruction that breaks one has no encoding of its own.
-/

namespace Sys2Proof

/-- 30_encoding.md R318: the operand values a constructor's own encoding admits. -/
def Instr.wellFormed : Instr → Bool
  | .movF1 _ reg2 => !(reg2 == 0)
  | .movF2 _ reg2 => !(reg2 == 0)
  | .movea _ _ reg2 => !(reg2 == 0)
  | .movhi _ _ reg2 => !(reg2 == 0)
  | .adf cccc _ _ _ => !(cccc == 13)
  | .sbf cccc _ _ _ => !(cccc == 13)
  | .divhF1 reg1 reg2 => !(reg2 == 0) && !(reg1 == 0)
  | .sataddF1 _ reg2 => !(reg2 == 0)
  | .sataddF2 _ reg2 => !(reg2 == 0)
  | .satsubF1 _ reg2 => !(reg2 == 0)
  | .satsubi _ _ reg2 => !(reg2 == 0)
  | .satsubr _ reg2 => !(reg2 == 0)
  | .mulhF1 _ reg2 => !(reg2 == 0)
  | .mulhF2 _ reg2 => !(reg2 == 0)
  | .mulhi _ _ reg2 => !(reg2 == 0)
  | .bcondF2 cccc _ => !(cccc == 5)
  | .jarlF1 _ reg2 => !(reg2 == 0)
  | .jarlF2 _ reg1 => !(reg1 == 0)
  | .jarlF3 _ reg3 => !(reg3 == 0)
  | .loop _ reg1 => !(reg1 == 0)
  | .ldBuF1 _ _ reg2 => !(reg2 == 0)
  | .ldHuF1 _ _ reg2 => !(reg2 == 0)
  | .sldBu _ reg2 => !(reg2 == 0)
  | .sldHu _ reg2 => !(reg2 == 0)
  | .switch reg1 => !(reg1 == 0)
  | .disposeF2 _ _ reg1 => !(reg1 == 0)
  | .fetrap vector4 => !(vector4 == 0)
  | .cache cacheop reg1 => !(cacheop == 126 && reg1 == 31)
  | .cmovfD _ _ _ reg3 => !(reg3 == 0)
  | .cmovfS _ _ _ reg3 => !(reg3 == 0)
  | .addF1 _ _ => true
  | .addF2 _ _ => true
  | .addi _ _ _ => true
  | .cmpF1 _ _ => true
  | .cmpF2 _ _ => true
  | .movF3 _ _ => true
  | .sub _ _ => true
  | .subr _ _ => true
  | .div _ _ _ => true
  | .divhF2 _ _ _ => true
  | .divhu _ _ _ => true
  | .divq _ _ _ => true
  | .divqu _ _ _ => true
  | .divu _ _ _ => true
  | .sataddF3 _ _ _ => true
  | .satsubF2 _ _ _ => true
  | .mulF1 _ _ _ => true
  | .mulF2 _ _ _ => true
  | .muluF1 _ _ _ => true
  | .muluF2 _ _ _ => true
  | .mac _ _ _ _ => true
  | .macu _ _ _ _ => true
  | .and _ _ => true
  | .andi _ _ _ => true
  | .not _ _ => true
  | .or _ _ => true
  | .ori _ _ _ => true
  | .tst _ _ => true
  | .xor _ _ => true
  | .xori _ _ _ => true
  | .bcondF1 _ _ => true
  | .jmpF1 _ => true
  | .jmpF2 _ _ => true
  | .jrF1 _ => true
  | .jrF2 _ => true
  | .binsF1 _ _ _ _ => true
  | .binsF2 _ _ _ _ => true
  | .binsF3 _ _ _ _ => true
  | .bsh _ _ => true
  | .bsw _ _ => true
  | .clipB _ _ => true
  | .clipBu _ _ => true
  | .clipH _ _ => true
  | .clipHu _ _ => true
  | .cmovF1 _ _ _ _ => true
  | .cmovF2 _ _ _ _ => true
  | .hsh _ _ => true
  | .hsw _ _ => true
  | .rotlF1 _ _ _ => true
  | .rotlF2 _ _ _ => true
  | .sarF1 _ _ => true
  | .sarF2 _ _ => true
  | .sarF3 _ _ _ => true
  | .sasf _ _ => true
  | .setf _ _ => true
  | .shlF1 _ _ => true
  | .shlF2 _ _ => true
  | .shlF3 _ _ _ => true
  | .shrF1 _ _ => true
  | .shrF2 _ _ => true
  | .shrF3 _ _ _ => true
  | .sxb _ => true
  | .sxh _ => true
  | .zxb _ => true
  | .zxh _ => true
  | .sch0l _ _ => true
  | .sch0r _ _ => true
  | .sch1l _ _ => true
  | .sch1r _ _ => true
  | .clr1F1 _ _ _ => true
  | .clr1F2 _ _ => true
  | .not1F1 _ _ _ => true
  | .not1F2 _ _ => true
  | .set1F1 _ _ _ => true
  | .set1F2 _ _ => true
  | .tst1F1 _ _ _ => true
  | .tst1F2 _ _ => true
  | .ldBF1 _ _ _ => true
  | .ldBF2 _ _ _ => true
  | .ldBF3 _ _ => true
  | .ldBF4 _ _ => true
  | .ldBuF2 _ _ _ => true
  | .ldBuF3 _ _ => true
  | .ldBuF4 _ _ => true
  | .ldDw _ _ _ => true
  | .ldHF1 _ _ _ => true
  | .ldHF2 _ _ _ => true
  | .ldHF3 _ _ => true
  | .ldHF4 _ _ => true
  | .ldHuF2 _ _ _ => true
  | .ldHuF3 _ _ => true
  | .ldHuF4 _ _ => true
  | .ldWF1 _ _ _ => true
  | .ldWF2 _ _ _ => true
  | .ldWF3 _ _ => true
  | .ldWF4 _ _ => true
  | .sldB _ _ => true
  | .sldH _ _ => true
  | .sldW _ _ => true
  | .stBF1 _ _ _ => true
  | .stBF2 _ _ _ => true
  | .stBF3 _ _ => true
  | .stBF4 _ _ => true
  | .stDw _ _ _ => true
  | .stHF1 _ _ _ => true
  | .stHF2 _ _ _ => true
  | .stHF3 _ _ => true
  | .stHF4 _ _ => true
  | .stWF1 _ _ _ => true
  | .stWF2 _ _ _ => true
  | .stWF3 _ _ => true
  | .stWF4 _ _ => true
  | .sstB _ _ => true
  | .sstH _ _ => true
  | .sstW _ _ => true
  | .callt _ => true
  | .ctret => true
  | .prepareF1 _ _ => true
  | .prepareF2a _ _ => true
  | .prepareF2b _ _ _ => true
  | .prepareF2c _ _ _ => true
  | .prepareF2d _ _ _ => true
  | .disposeF1 _ _ => true
  | .pushsp _ _ => true
  | .popsp _ _ => true
  | .caxi _ _ _ => true
  | .cll => true
  | .ldlBu _ _ => true
  | .ldlHu _ _ => true
  | .ldlW _ _ => true
  | .stcB _ _ => true
  | .stcH _ _ => true
  | .stcW _ _ => true
  | .nop => true
  | .rieF1 => true
  | .rieF2 _ _ => true
  | .di => true
  | .ei => true
  | .eiret => true
  | .feret => true
  | .trap _ => true
  | .syscall _ => true
  | .halt => true
  | .snooze => true
  | .ldsr _ _ _ => true
  | .stsr _ _ _ => true
  | .ldmMp _ _ _ => true
  | .stmMp _ _ _ => true
  | .resbank => true
  | .synce => true
  | .synci => true
  | .syncm => true
  | .syncp => true
  | .pref _ _ => true
  | .absfD _ _ => true
  | .absfS _ _ => true
  | .negfD _ _ => true
  | .negfS _ _ => true
  | .addfD _ _ _ => true
  | .addfS _ _ _ => true
  | .subfD _ _ _ => true
  | .subfS _ _ _ => true
  | .mulfD _ _ _ => true
  | .mulfS _ _ _ => true
  | .divfD _ _ _ => true
  | .divfS _ _ _ => true
  | .maxfD _ _ _ => true
  | .maxfS _ _ _ => true
  | .minfD _ _ _ => true
  | .minfS _ _ _ => true
  | .sqrtfD _ _ => true
  | .sqrtfS _ _ => true
  | .recipfD _ _ => true
  | .recipfS _ _ => true
  | .rsqrtfD _ _ => true
  | .rsqrtfS _ _ => true
  | .fmafS _ _ _ => true
  | .fmsfS _ _ _ => true
  | .fnmafS _ _ _ => true
  | .fnmsfS _ _ _ => true
  | .cmpfD _ _ _ _ => true
  | .cmpfS _ _ _ _ => true
  | .trfsr _ => true
  | .ceilfDl _ _ => true
  | .ceilfDul _ _ => true
  | .ceilfDuw _ _ => true
  | .ceilfDw _ _ => true
  | .ceilfSl _ _ => true
  | .ceilfSul _ _ => true
  | .ceilfSuw _ _ => true
  | .ceilfSw _ _ => true
  | .floorfDl _ _ => true
  | .floorfDul _ _ => true
  | .floorfDuw _ _ => true
  | .floorfDw _ _ => true
  | .floorfSl _ _ => true
  | .floorfSul _ _ => true
  | .floorfSuw _ _ => true
  | .floorfSw _ _ => true
  | .roundfDl _ _ => true
  | .roundfDul _ _ => true
  | .roundfDuw _ _ => true
  | .roundfDw _ _ => true
  | .roundfSl _ _ => true
  | .roundfSul _ _ => true
  | .roundfSuw _ _ => true
  | .roundfSw _ _ => true
  | .trncfDl _ _ => true
  | .trncfDul _ _ => true
  | .trncfDuw _ _ => true
  | .trncfDw _ _ => true
  | .trncfSl _ _ => true
  | .trncfSul _ _ => true
  | .trncfSuw _ _ => true
  | .trncfSw _ _ => true
  | .cvtfDl _ _ => true
  | .cvtfDul _ _ => true
  | .cvtfDuw _ _ => true
  | .cvtfDw _ _ => true
  | .cvtfSl _ _ => true
  | .cvtfSul _ _ => true
  | .cvtfSuw _ _ => true
  | .cvtfSw _ _ => true
  | .cvtfDs _ _ => true
  | .cvtfHs _ _ => true
  | .cvtfLd _ _ => true
  | .cvtfLs _ _ => true
  | .cvtfSd _ _ => true
  | .cvtfSh _ _ => true
  | .cvtfUld _ _ => true
  | .cvtfUls _ _ => true
  | .cvtfUwd _ _ => true
  | .cvtfUws _ _ => true
  | .cvtfWd _ _ => true
  | .cvtfWs _ _ => true
  | .movvW4 _ _ => true
  | .flpvS4 _ _ _ => true
  | .shflvW4 _ _ _ _ => true
  | .ldvW _ _ _ _ => true
  | .ldvDw _ _ _ _ => true
  | .ldvQw _ _ _ => true
  | .ldvzH4 _ _ _ => true
  | .stvW _ _ _ _ => true
  | .stvDw _ _ _ _ => true
  | .stvQw _ _ _ => true
  | .stvzH4 _ _ _ => true
  | .cmovfW4 _ _ _ _ => true
  | .trfsrvW4 _ _ => true
  | .cmpfS4 _ _ _ _ => true
  | .absfS4 _ _ => true
  | .negfS4 _ _ => true
  | .addfS4 _ _ _ => true
  | .subfS4 _ _ _ => true
  | .mulfS4 _ _ _ => true
  | .divfS4 _ _ _ => true
  | .maxfS4 _ _ _ => true
  | .minfS4 _ _ _ => true
  | .sqrtfS4 _ _ => true
  | .recipfS4 _ _ => true
  | .rsqrtfS4 _ _ => true
  | .fmafS4 _ _ _ => true
  | .fmsfS4 _ _ _ => true
  | .fnmafS4 _ _ _ => true
  | .fnmsfS4 _ _ _ => true
  | .roundfSw4 _ _ => true
  | .roundfSuw4 _ _ => true
  | .trncfSw4 _ _ => true
  | .trncfSuw4 _ _ => true
  | .ceilfSw4 _ _ => true
  | .ceilfSuw4 _ _ => true
  | .floorfSw4 _ _ => true
  | .floorfSuw4 _ _ => true
  | .cvtfSw4 _ _ => true
  | .cvtfSuw4 _ _ => true
  | .cvtfWs4 _ _ => true
  | .cvtfUws4 _ _ => true
  | .cvtfHs4 _ _ => true
  | .cvtfSh4 _ _ => true
  | .addsubfS4 _ _ _ => true
  | .subaddfS4 _ _ _ => true
  | .addsubnfS4 _ _ _ => true
  | .subaddnfS4 _ _ _ => true
  | .addxfS4 _ _ _ => true
  | .subxfS4 _ _ _ => true
  | .mulxfS4 _ _ _ => true
  | .addsubxfS4 _ _ _ => true
  | .subaddxfS4 _ _ _ => true
  | .addsubnxfS4 _ _ _ => true
  | .subaddnxfS4 _ _ _ => true
  | .addrfS4 _ _ _ => true
  | .subrfS4 _ _ _ => true
  | .mulrfS4 _ _ _ => true
  | .maxrfS4 _ _ _ => true
  | .minrfS4 _ _ _ => true
  | .hvtrap _ => true
  | .ldmGsr _ => true
  | .stmGsr _ => true

end Sys2Proof
end

