-- ==== Sys2Proof/Decode.lean ====
section
/-!
DEFINITION. The instruction decoder and encoder (30_encoding.md). An instruction's bits are numbered as in R300: the first
halfword is bits 15-0, the second bits 31-16, and so on; the word is held as a natural number.
The decoder is total: it answers an instruction, or says by name why there is none.
-/

namespace Sys2Proof

noncomputable section

/-- One row of the opcode table: the length in bytes, the fixed bits (mask and value), the bit ranges of each operand (high part
first), the patterns that belong to another row although they match (R318), and the constructor. -/
structure OpRow where
  len   : Nat
  mask  : Nat
  mtch  : Nat
  flds  : List (List (Nat × Nat))
  excl  : List (Nat × Nat)
  build : List Nat → Option Instr

/-- Bits `hi` to `lo` of an instruction word. -/
def fieldBits (w hi lo : Nat) : Nat := (w >>> lo) % 2 ^ (hi - lo + 1)

/-- The number of bits of an operand spread over several ranges. -/
def rangesWidth : List (Nat × Nat) → Nat
  | [] => 0
  | (hi, lo) :: rest => (hi - lo + 1) + rangesWidth rest

/-- An operand assembled from its bit ranges, high part first (R320). -/
def takeRanges (w : Nat) : List (Nat × Nat) → Nat
  | [] => 0
  | (hi, lo) :: rest => fieldBits w hi lo * 2 ^ rangesWidth rest + takeRanges w rest

/-- An operand's bits put back into their places. -/
def putRanges (v : Nat) : List (Nat × Nat) → Nat
  | [] => 0
  | (hi, lo) :: rest => ((v >>> rangesWidth rest) % 2 ^ (hi - lo + 1)) <<< lo + putRanges v rest

/-- The word has the row's fixed bits and is not one of the patterns another instruction owns (R318). -/
def OpRow.owns (r : OpRow) (w : Nat) : Bool :=
  (w &&& r.mask) == r.mtch && r.excl.all fun e => !((w &&& e.1) == e.2)

/-- The operands of a word under a row. -/
def OpRow.operands (r : OpRow) (w : Nat) : List Nat := r.flds.map (takeRanges w)

/-- The word a row gives for operands. -/
def OpRow.word (r : OpRow) (ops : List Nat) : Nat :=
  r.mtch + ((r.flds.zip ops).map fun p => putRanges p.2 p.1).sum

/-- Rows 0 to 39 of the opcode table (spec/opcode_table.json, in its order). -/
def opRows0 : List OpRow := [
  ⟨2, 0x7E0, 0x1C0, [[(4, 0)], [(15, 11)]], [],
    fun | [a, b] => some (.addF1 (.ofNat _ a) (.ofNat _ b)) | _ => none⟩,
  ⟨2, 0x7E0, 0x240, [[(4, 0)], [(15, 11)]], [],
    fun | [a, b] => some (.addF2 (.ofNat _ a) (.ofNat _ b)) | _ => none⟩,
  ⟨4, 0x7E0, 0x600, [[(31, 16)], [(4, 0)], [(15, 11)]], [],
    fun | [a, b, c] => some (.addi (.ofNat _ a) (.ofNat _ b) (.ofNat _ c)) | _ => none⟩,
  ⟨2, 0x7E0, 0x1E0, [[(4, 0)], [(15, 11)]], [],
    fun | [a, b] => some (.cmpF1 (.ofNat _ a) (.ofNat _ b)) | _ => none⟩,
  ⟨2, 0x7E0, 0x260, [[(4, 0)], [(15, 11)]], [],
    fun | [a, b] => some (.cmpF2 (.ofNat _ a) (.ofNat _ b)) | _ => none⟩,
  ⟨2, 0x7E0, 0x0, [[(4, 0)], [(15, 11)]], [(0xF800, 0x0)],
    fun | [a, b] => some (.movF1 (.ofNat _ a) (.ofNat _ b)) | _ => none⟩,
  ⟨2, 0x7E0, 0x200, [[(4, 0)], [(15, 11)]], [(0xF800, 0x0)],
    fun | [a, b] => some (.movF2 (.ofNat _ a) (.ofNat _ b)) | _ => none⟩,
  ⟨6, 0xFFE0, 0x620, [[(47, 32), (31, 16)], [(4, 0)]], [],
    fun | [a, b] => some (.movF3 (.ofNat _ a) (.ofNat _ b)) | _ => none⟩,
  ⟨4, 0x7E0, 0x620, [[(31, 16)], [(4, 0)], [(15, 11)]], [(0xF800, 0x0)],
    fun | [a, b, c] => some (.movea (.ofNat _ a) (.ofNat _ b) (.ofNat _ c)) | _ => none⟩,
  ⟨4, 0x7E0, 0x640, [[(31, 16)], [(4, 0)], [(15, 11)]], [(0xF800, 0x0)],
    fun | [a, b, c] => some (.movhi (.ofNat _ a) (.ofNat _ b) (.ofNat _ c)) | _ => none⟩,
  ⟨2, 0x7E0, 0x1A0, [[(4, 0)], [(15, 11)]], [],
    fun | [a, b] => some (.sub (.ofNat _ a) (.ofNat _ b)) | _ => none⟩,
  ⟨2, 0x7E0, 0x180, [[(4, 0)], [(15, 11)]], [],
    fun | [a, b] => some (.subr (.ofNat _ a) (.ofNat _ b)) | _ => none⟩,
  ⟨4, 0x7E107E0, 0x3A007E0, [[(20, 17)], [(4, 0)], [(15, 11)], [(31, 27)]], [(0x1E0000, 0x1A0000)],
    fun | [a, b, c, d] => some (.adf (.ofNat _ a) (.ofNat _ b) (.ofNat _ c) (.ofNat _ d)) | _ => none⟩,
  ⟨4, 0x7E107E0, 0x38007E0, [[(20, 17)], [(4, 0)], [(15, 11)], [(31, 27)]], [(0x1E0000, 0x1A0000)],
    fun | [a, b, c, d] => some (.sbf (.ofNat _ a) (.ofNat _ b) (.ofNat _ c) (.ofNat _ d)) | _ => none⟩,
  ⟨4, 0x7FF07E0, 0x2C007E0, [[(4, 0)], [(15, 11)], [(31, 27)]], [],
    fun | [a, b, c] => some (.div (.ofNat _ a) (.ofNat _ b) (.ofNat _ c)) | _ => none⟩,
  ⟨2, 0x7E0, 0x40, [[(4, 0)], [(15, 11)]], [(0xF800, 0x0), (0x1F, 0x0)],
    fun | [a, b] => some (.divhF1 (.ofNat _ a) (.ofNat _ b)) | _ => none⟩,
  ⟨4, 0x7FF07E0, 0x28007E0, [[(4, 0)], [(15, 11)], [(31, 27)]], [],
    fun | [a, b, c] => some (.divhF2 (.ofNat _ a) (.ofNat _ b) (.ofNat _ c)) | _ => none⟩,
  ⟨4, 0x7FF07E0, 0x28207E0, [[(4, 0)], [(15, 11)], [(31, 27)]], [],
    fun | [a, b, c] => some (.divhu (.ofNat _ a) (.ofNat _ b) (.ofNat _ c)) | _ => none⟩,
  ⟨4, 0x7FF07E0, 0x2FC07E0, [[(4, 0)], [(15, 11)], [(31, 27)]], [],
    fun | [a, b, c] => some (.divq (.ofNat _ a) (.ofNat _ b) (.ofNat _ c)) | _ => none⟩,
  ⟨4, 0x7FF07E0, 0x2FE07E0, [[(4, 0)], [(15, 11)], [(31, 27)]], [],
    fun | [a, b, c] => some (.divqu (.ofNat _ a) (.ofNat _ b) (.ofNat _ c)) | _ => none⟩,
  ⟨4, 0x7FF07E0, 0x2C207E0, [[(4, 0)], [(15, 11)], [(31, 27)]], [],
    fun | [a, b, c] => some (.divu (.ofNat _ a) (.ofNat _ b) (.ofNat _ c)) | _ => none⟩,
  ⟨2, 0x7E0, 0xC0, [[(4, 0)], [(15, 11)]], [(0xF800, 0x0)],
    fun | [a, b] => some (.sataddF1 (.ofNat _ a) (.ofNat _ b)) | _ => none⟩,
  ⟨2, 0x7E0, 0x220, [[(4, 0)], [(15, 11)]], [(0xF800, 0x0)],
    fun | [a, b] => some (.sataddF2 (.ofNat _ a) (.ofNat _ b)) | _ => none⟩,
  ⟨4, 0x7FF07E0, 0x3BA07E0, [[(4, 0)], [(15, 11)], [(31, 27)]], [],
    fun | [a, b, c] => some (.sataddF3 (.ofNat _ a) (.ofNat _ b) (.ofNat _ c)) | _ => none⟩,
  ⟨2, 0x7E0, 0xA0, [[(4, 0)], [(15, 11)]], [(0xF800, 0x0)],
    fun | [a, b] => some (.satsubF1 (.ofNat _ a) (.ofNat _ b)) | _ => none⟩,
  ⟨4, 0x7FF07E0, 0x39A07E0, [[(4, 0)], [(15, 11)], [(31, 27)]], [],
    fun | [a, b, c] => some (.satsubF2 (.ofNat _ a) (.ofNat _ b) (.ofNat _ c)) | _ => none⟩,
  ⟨4, 0x7E0, 0x660, [[(31, 16)], [(4, 0)], [(15, 11)]], [(0xF800, 0x0)],
    fun | [a, b, c] => some (.satsubi (.ofNat _ a) (.ofNat _ b) (.ofNat _ c)) | _ => none⟩,
  ⟨2, 0x7E0, 0x80, [[(4, 0)], [(15, 11)]], [(0xF800, 0x0)],
    fun | [a, b] => some (.satsubr (.ofNat _ a) (.ofNat _ b)) | _ => none⟩,
  ⟨4, 0x7FF07E0, 0x22007E0, [[(4, 0)], [(15, 11)], [(31, 27)]], [],
    fun | [a, b, c] => some (.mulF1 (.ofNat _ a) (.ofNat _ b) (.ofNat _ c)) | _ => none⟩,
  ⟨4, 0x7C307E0, 0x24007E0, [[(21, 18), (4, 0)], [(15, 11)], [(31, 27)]], [],
    fun | [a, b, c] => some (.mulF2 (.ofNat _ a) (.ofNat _ b) (.ofNat _ c)) | _ => none⟩,
  ⟨2, 0x7E0, 0xE0, [[(4, 0)], [(15, 11)]], [(0xF800, 0x0)],
    fun | [a, b] => some (.mulhF1 (.ofNat _ a) (.ofNat _ b)) | _ => none⟩,
  ⟨2, 0x7E0, 0x2E0, [[(4, 0)], [(15, 11)]], [(0xF800, 0x0)],
    fun | [a, b] => some (.mulhF2 (.ofNat _ a) (.ofNat _ b)) | _ => none⟩,
  ⟨4, 0x7E0, 0x6E0, [[(31, 16)], [(4, 0)], [(15, 11)]], [(0xF800, 0x0)],
    fun | [a, b, c] => some (.mulhi (.ofNat _ a) (.ofNat _ b) (.ofNat _ c)) | _ => none⟩,
  ⟨4, 0x7FF07E0, 0x22207E0, [[(4, 0)], [(15, 11)], [(31, 27)]], [],
    fun | [a, b, c] => some (.muluF1 (.ofNat _ a) (.ofNat _ b) (.ofNat _ c)) | _ => none⟩,
  ⟨4, 0x7C307E0, 0x24207E0, [[(21, 18), (4, 0)], [(15, 11)], [(31, 27)]], [],
    fun | [a, b, c] => some (.muluF2 (.ofNat _ a) (.ofNat _ b) (.ofNat _ c)) | _ => none⟩,
  ⟨4, 0xFE107E0, 0x3C007E0, [[(4, 0)], [(15, 11)], [(31, 28)], [(20, 17)]], [],
    fun | [a, b, c, d] => some (.mac (.ofNat _ a) (.ofNat _ b) (.ofNat _ c) (.ofNat _ d)) | _ => none⟩,
  ⟨4, 0xFE107E0, 0x3E007E0, [[(4, 0)], [(15, 11)], [(31, 28)], [(20, 17)]], [],
    fun | [a, b, c, d] => some (.macu (.ofNat _ a) (.ofNat _ b) (.ofNat _ c) (.ofNat _ d)) | _ => none⟩,
  ⟨2, 0x7E0, 0x140, [[(4, 0)], [(15, 11)]], [],
    fun | [a, b] => some (.and (.ofNat _ a) (.ofNat _ b)) | _ => none⟩,
  ⟨4, 0x7E0, 0x6C0, [[(31, 16)], [(4, 0)], [(15, 11)]], [],
    fun | [a, b, c] => some (.andi (.ofNat _ a) (.ofNat _ b) (.ofNat _ c)) | _ => none⟩,
  ⟨2, 0x7E0, 0x20, [[(4, 0)], [(15, 11)]], [],
    fun | [a, b] => some (.not (.ofNat _ a) (.ofNat _ b)) | _ => none⟩]

/-- Rows 40 to 79 of the opcode table (spec/opcode_table.json, in its order). -/
def opRows1 : List OpRow := [
  ⟨2, 0x7E0, 0x100, [[(4, 0)], [(15, 11)]], [],
    fun | [a, b] => some (.or (.ofNat _ a) (.ofNat _ b)) | _ => none⟩,
  ⟨4, 0x7E0, 0x680, [[(31, 16)], [(4, 0)], [(15, 11)]], [],
    fun | [a, b, c] => some (.ori (.ofNat _ a) (.ofNat _ b) (.ofNat _ c)) | _ => none⟩,
  ⟨2, 0x7E0, 0x160, [[(4, 0)], [(15, 11)]], [],
    fun | [a, b] => some (.tst (.ofNat _ a) (.ofNat _ b)) | _ => none⟩,
  ⟨2, 0x7E0, 0x120, [[(4, 0)], [(15, 11)]], [],
    fun | [a, b] => some (.xor (.ofNat _ a) (.ofNat _ b)) | _ => none⟩,
  ⟨4, 0x7E0, 0x6A0, [[(31, 16)], [(4, 0)], [(15, 11)]], [],
    fun | [a, b, c] => some (.xori (.ofNat _ a) (.ofNat _ b) (.ofNat _ c)) | _ => none⟩,
  ⟨2, 0x780, 0x580, [[(3, 0)], [(15, 11), (6, 4)]], [],
    fun | [a, b] => some (.bcondF1 (.ofNat _ a) (.ofNat _ b)) | _ => none⟩,
  ⟨4, 0x1FFE0, 0x107E0, [[(3, 0)], [(4, 4), (31, 17)]], [(0xF, 0x5)],
    fun | [a, b] => some (.bcondF2 (.ofNat _ a) (.ofNat _ b)) | _ => none⟩,
  ⟨4, 0x107C0, 0x780, [[(5, 0), (31, 17)], [(15, 11)]], [(0xF800, 0x0)],
    fun | [a, b] => some (.jarlF1 (.ofNat _ a) (.ofNat _ b)) | _ => none⟩,
  ⟨6, 0x1FFE0, 0x2E0, [[(47, 32), (31, 17)], [(4, 0)]], [(0x1F, 0x0)],
    fun | [a, b] => some (.jarlF2 (.ofNat _ a) (.ofNat _ b)) | _ => none⟩,
  ⟨4, 0x7FFFFE0, 0x160C7E0, [[(4, 0)], [(31, 27)]], [(0xF8000000, 0x0)],
    fun | [a, b] => some (.jarlF3 (.ofNat _ a) (.ofNat _ b)) | _ => none⟩,
  ⟨2, 0xFFE0, 0x60, [[(4, 0)]], [],
    fun | [a] => some (.jmpF1 (.ofNat _ a)) | _ => none⟩,
  ⟨6, 0x1FFE0, 0x6E0, [[(47, 32), (31, 17)], [(4, 0)]], [],
    fun | [a, b] => some (.jmpF2 (.ofNat _ a) (.ofNat _ b)) | _ => none⟩,
  ⟨4, 0x1FFC0, 0x780, [[(5, 0), (31, 17)]], [],
    fun | [a] => some (.jrF1 (.ofNat _ a)) | _ => none⟩,
  ⟨6, 0x1FFFF, 0x2E0, [[(47, 32), (31, 17)]], [],
    fun | [a] => some (.jrF2 (.ofNat _ a)) | _ => none⟩,
  ⟨4, 0x1FFE0, 0x106E0, [[(31, 17)], [(4, 0)]], [(0x1F, 0x0)],
    fun | [a, b] => some (.loop (.ofNat _ a) (.ofNat _ b)) | _ => none⟩,
  ⟨4, 0x7F107E0, 0x9007E0, [[(31, 28)], [(27, 27), (19, 17)], [(4, 0)], [(15, 11)]], [],
    fun | [a, b, c, d] => some (.binsF1 (.ofNat _ a) (.ofNat _ b) (.ofNat _ c) (.ofNat _ d)) | _ => none⟩,
  ⟨4, 0x7F107E0, 0xB007E0, [[(31, 28)], [(27, 27), (19, 17)], [(4, 0)], [(15, 11)]], [],
    fun | [a, b, c, d] => some (.binsF2 (.ofNat _ a) (.ofNat _ b) (.ofNat _ c) (.ofNat _ d)) | _ => none⟩,
  ⟨4, 0x7F107E0, 0xD007E0, [[(31, 28)], [(27, 27), (19, 17)], [(4, 0)], [(15, 11)]], [],
    fun | [a, b, c, d] => some (.binsF3 (.ofNat _ a) (.ofNat _ b) (.ofNat _ c) (.ofNat _ d)) | _ => none⟩,
  ⟨4, 0x7FF07FF, 0x34207E0, [[(15, 11)], [(31, 27)]], [],
    fun | [a, b] => some (.bsh (.ofNat _ a) (.ofNat _ b)) | _ => none⟩,
  ⟨4, 0x7FF07FF, 0x34007E0, [[(15, 11)], [(31, 27)]], [],
    fun | [a, b] => some (.bsw (.ofNat _ a) (.ofNat _ b)) | _ => none⟩,
  ⟨4, 0xFFFF07E0, 0x807E0, [[(4, 0)], [(15, 11)]], [],
    fun | [a, b] => some (.clipB (.ofNat _ a) (.ofNat _ b)) | _ => none⟩,
  ⟨4, 0xFFFF07E0, 0xA07E0, [[(4, 0)], [(15, 11)]], [],
    fun | [a, b] => some (.clipBu (.ofNat _ a) (.ofNat _ b)) | _ => none⟩,
  ⟨4, 0xFFFF07E0, 0xC07E0, [[(4, 0)], [(15, 11)]], [],
    fun | [a, b] => some (.clipH (.ofNat _ a) (.ofNat _ b)) | _ => none⟩,
  ⟨4, 0xFFFF07E0, 0xE07E0, [[(4, 0)], [(15, 11)]], [],
    fun | [a, b] => some (.clipHu (.ofNat _ a) (.ofNat _ b)) | _ => none⟩,
  ⟨4, 0x7E107E0, 0x32007E0, [[(20, 17)], [(4, 0)], [(15, 11)], [(31, 27)]], [],
    fun | [a, b, c, d] => some (.cmovF1 (.ofNat _ a) (.ofNat _ b) (.ofNat _ c) (.ofNat _ d)) | _ => none⟩,
  ⟨4, 0x7E107E0, 0x30007E0, [[(20, 17)], [(4, 0)], [(15, 11)], [(31, 27)]], [],
    fun | [a, b, c, d] => some (.cmovF2 (.ofNat _ a) (.ofNat _ b) (.ofNat _ c) (.ofNat _ d)) | _ => none⟩,
  ⟨4, 0x7FF07FF, 0x34607E0, [[(15, 11)], [(31, 27)]], [],
    fun | [a, b] => some (.hsh (.ofNat _ a) (.ofNat _ b)) | _ => none⟩,
  ⟨4, 0x7FF07FF, 0x34407E0, [[(15, 11)], [(31, 27)]], [],
    fun | [a, b] => some (.hsw (.ofNat _ a) (.ofNat _ b)) | _ => none⟩,
  ⟨4, 0x7FF07E0, 0xC407E0, [[(4, 0)], [(15, 11)], [(31, 27)]], [],
    fun | [a, b, c] => some (.rotlF1 (.ofNat _ a) (.ofNat _ b) (.ofNat _ c)) | _ => none⟩,
  ⟨4, 0x7FF07E0, 0xC607E0, [[(4, 0)], [(15, 11)], [(31, 27)]], [],
    fun | [a, b, c] => some (.rotlF2 (.ofNat _ a) (.ofNat _ b) (.ofNat _ c)) | _ => none⟩,
  ⟨4, 0xFFFF07E0, 0xA007E0, [[(4, 0)], [(15, 11)]], [],
    fun | [a, b] => some (.sarF1 (.ofNat _ a) (.ofNat _ b)) | _ => none⟩,
  ⟨2, 0x7E0, 0x2A0, [[(4, 0)], [(15, 11)]], [],
    fun | [a, b] => some (.sarF2 (.ofNat _ a) (.ofNat _ b)) | _ => none⟩,
  ⟨4, 0x7FF07E0, 0xA207E0, [[(4, 0)], [(15, 11)], [(31, 27)]], [],
    fun | [a, b, c] => some (.sarF3 (.ofNat _ a) (.ofNat _ b) (.ofNat _ c)) | _ => none⟩,
  ⟨4, 0xFFFF07F0, 0x20007E0, [[(3, 0)], [(15, 11)]], [],
    fun | [a, b] => some (.sasf (.ofNat _ a) (.ofNat _ b)) | _ => none⟩,
  ⟨4, 0xFFFF07F0, 0x7E0, [[(3, 0)], [(15, 11)]], [],
    fun | [a, b] => some (.setf (.ofNat _ a) (.ofNat _ b)) | _ => none⟩,
  ⟨4, 0xFFFF07E0, 0xC007E0, [[(4, 0)], [(15, 11)]], [],
    fun | [a, b] => some (.shlF1 (.ofNat _ a) (.ofNat _ b)) | _ => none⟩,
  ⟨2, 0x7E0, 0x2C0, [[(4, 0)], [(15, 11)]], [],
    fun | [a, b] => some (.shlF2 (.ofNat _ a) (.ofNat _ b)) | _ => none⟩,
  ⟨4, 0x7FF07E0, 0xC207E0, [[(4, 0)], [(15, 11)], [(31, 27)]], [],
    fun | [a, b, c] => some (.shlF3 (.ofNat _ a) (.ofNat _ b) (.ofNat _ c)) | _ => none⟩,
  ⟨4, 0xFFFF07E0, 0x8007E0, [[(4, 0)], [(15, 11)]], [],
    fun | [a, b] => some (.shrF1 (.ofNat _ a) (.ofNat _ b)) | _ => none⟩,
  ⟨2, 0x7E0, 0x280, [[(4, 0)], [(15, 11)]], [],
    fun | [a, b] => some (.shrF2 (.ofNat _ a) (.ofNat _ b)) | _ => none⟩]

/-- Rows 80 to 119 of the opcode table (spec/opcode_table.json, in its order). -/
def opRows2 : List OpRow := [
  ⟨4, 0x7FF07E0, 0x8207E0, [[(4, 0)], [(15, 11)], [(31, 27)]], [],
    fun | [a, b, c] => some (.shrF3 (.ofNat _ a) (.ofNat _ b) (.ofNat _ c)) | _ => none⟩,
  ⟨2, 0xFFE0, 0xA0, [[(4, 0)]], [],
    fun | [a] => some (.sxb (.ofNat _ a)) | _ => none⟩,
  ⟨2, 0xFFE0, 0xE0, [[(4, 0)]], [],
    fun | [a] => some (.sxh (.ofNat _ a)) | _ => none⟩,
  ⟨2, 0xFFE0, 0x80, [[(4, 0)]], [],
    fun | [a] => some (.zxb (.ofNat _ a)) | _ => none⟩,
  ⟨2, 0xFFE0, 0xC0, [[(4, 0)]], [],
    fun | [a] => some (.zxh (.ofNat _ a)) | _ => none⟩,
  ⟨4, 0x7FF07FF, 0x36407E0, [[(15, 11)], [(31, 27)]], [],
    fun | [a, b] => some (.sch0l (.ofNat _ a) (.ofNat _ b)) | _ => none⟩,
  ⟨4, 0x7FF07FF, 0x36007E0, [[(15, 11)], [(31, 27)]], [],
    fun | [a, b] => some (.sch0r (.ofNat _ a) (.ofNat _ b)) | _ => none⟩,
  ⟨4, 0x7FF07FF, 0x36607E0, [[(15, 11)], [(31, 27)]], [],
    fun | [a, b] => some (.sch1l (.ofNat _ a) (.ofNat _ b)) | _ => none⟩,
  ⟨4, 0x7FF07FF, 0x36207E0, [[(15, 11)], [(31, 27)]], [],
    fun | [a, b] => some (.sch1r (.ofNat _ a) (.ofNat _ b)) | _ => none⟩,
  ⟨4, 0xC7E0, 0x87C0, [[(13, 11)], [(31, 16)], [(4, 0)]], [],
    fun | [a, b, c] => some (.clr1F1 (.ofNat _ a) (.ofNat _ b) (.ofNat _ c)) | _ => none⟩,
  ⟨4, 0xFFFF07E0, 0xE407E0, [[(4, 0)], [(15, 11)]], [],
    fun | [a, b] => some (.clr1F2 (.ofNat _ a) (.ofNat _ b)) | _ => none⟩,
  ⟨4, 0xC7E0, 0x47C0, [[(13, 11)], [(31, 16)], [(4, 0)]], [],
    fun | [a, b, c] => some (.not1F1 (.ofNat _ a) (.ofNat _ b) (.ofNat _ c)) | _ => none⟩,
  ⟨4, 0xFFFF07E0, 0xE207E0, [[(4, 0)], [(15, 11)]], [],
    fun | [a, b] => some (.not1F2 (.ofNat _ a) (.ofNat _ b)) | _ => none⟩,
  ⟨4, 0xC7E0, 0x7C0, [[(13, 11)], [(31, 16)], [(4, 0)]], [],
    fun | [a, b, c] => some (.set1F1 (.ofNat _ a) (.ofNat _ b) (.ofNat _ c)) | _ => none⟩,
  ⟨4, 0xFFFF07E0, 0xE007E0, [[(4, 0)], [(15, 11)]], [],
    fun | [a, b] => some (.set1F2 (.ofNat _ a) (.ofNat _ b)) | _ => none⟩,
  ⟨4, 0xC7E0, 0xC7C0, [[(13, 11)], [(31, 16)], [(4, 0)]], [],
    fun | [a, b, c] => some (.tst1F1 (.ofNat _ a) (.ofNat _ b) (.ofNat _ c)) | _ => none⟩,
  ⟨4, 0xFFFF07E0, 0xE607E0, [[(4, 0)], [(15, 11)]], [],
    fun | [a, b] => some (.tst1F2 (.ofNat _ a) (.ofNat _ b)) | _ => none⟩,
  ⟨4, 0x7E0, 0x700, [[(31, 16)], [(4, 0)], [(15, 11)]], [],
    fun | [a, b, c] => some (.ldBF1 (.ofNat _ a) (.ofNat _ b) (.ofNat _ c)) | _ => none⟩,
  ⟨6, 0xFFFE0, 0x50780, [[(47, 32), (26, 20)], [(4, 0)], [(31, 27)]], [],
    fun | [a, b, c] => some (.ldBF2 (.ofNat _ a) (.ofNat _ b) (.ofNat _ c)) | _ => none⟩,
  ⟨4, 0x7FFFFE0, 0x37017E0, [[(4, 0)], [(31, 27)]], [],
    fun | [a, b] => some (.ldBF3 (.ofNat _ a) (.ofNat _ b)) | _ => none⟩,
  ⟨4, 0x7FFFFE0, 0x37027E0, [[(4, 0)], [(31, 27)]], [],
    fun | [a, b] => some (.ldBF4 (.ofNat _ a) (.ofNat _ b)) | _ => none⟩,
  ⟨4, 0x107C0, 0x10780, [[(31, 17), (5, 5)], [(4, 0)], [(15, 11)]], [(0xF800, 0x0)],
    fun | [a, b, c] => some (.ldBuF1 (.ofNat _ a) (.ofNat _ b) (.ofNat _ c)) | _ => none⟩,
  ⟨6, 0xFFFE0, 0x507A0, [[(47, 32), (26, 20)], [(4, 0)], [(31, 27)]], [],
    fun | [a, b, c] => some (.ldBuF2 (.ofNat _ a) (.ofNat _ b) (.ofNat _ c)) | _ => none⟩,
  ⟨4, 0x7FFFFE0, 0x3701FE0, [[(4, 0)], [(31, 27)]], [],
    fun | [a, b] => some (.ldBuF3 (.ofNat _ a) (.ofNat _ b)) | _ => none⟩,
  ⟨4, 0x7FFFFE0, 0x3702FE0, [[(4, 0)], [(31, 27)]], [],
    fun | [a, b] => some (.ldBuF4 (.ofNat _ a) (.ofNat _ b)) | _ => none⟩,
  ⟨6, 0x1FFFE0, 0x907A0, [[(47, 32), (26, 21)], [(4, 0)], [(31, 27)]], [],
    fun | [a, b, c] => some (.ldDw (.ofNat _ a) (.ofNat _ b) (.ofNat _ c)) | _ => none⟩,
  ⟨4, 0x107E0, 0x720, [[(31, 17)], [(4, 0)], [(15, 11)]], [],
    fun | [a, b, c] => some (.ldHF1 (.ofNat _ a) (.ofNat _ b) (.ofNat _ c)) | _ => none⟩,
  ⟨6, 0x1FFFE0, 0x70780, [[(47, 32), (26, 21)], [(4, 0)], [(31, 27)]], [],
    fun | [a, b, c] => some (.ldHF2 (.ofNat _ a) (.ofNat _ b) (.ofNat _ c)) | _ => none⟩,
  ⟨4, 0x7FFFFE0, 0x37417E0, [[(4, 0)], [(31, 27)]], [],
    fun | [a, b] => some (.ldHF3 (.ofNat _ a) (.ofNat _ b)) | _ => none⟩,
  ⟨4, 0x7FFFFE0, 0x37427E0, [[(4, 0)], [(31, 27)]], [],
    fun | [a, b] => some (.ldHF4 (.ofNat _ a) (.ofNat _ b)) | _ => none⟩,
  ⟨4, 0x107E0, 0x107E0, [[(31, 17)], [(4, 0)], [(15, 11)]], [(0xF800, 0x0)],
    fun | [a, b, c] => some (.ldHuF1 (.ofNat _ a) (.ofNat _ b) (.ofNat _ c)) | _ => none⟩,
  ⟨6, 0x1FFFE0, 0x707A0, [[(47, 32), (26, 21)], [(4, 0)], [(31, 27)]], [],
    fun | [a, b, c] => some (.ldHuF2 (.ofNat _ a) (.ofNat _ b) (.ofNat _ c)) | _ => none⟩,
  ⟨4, 0x7FFFFE0, 0x3741FE0, [[(4, 0)], [(31, 27)]], [],
    fun | [a, b] => some (.ldHuF3 (.ofNat _ a) (.ofNat _ b)) | _ => none⟩,
  ⟨4, 0x7FFFFE0, 0x3742FE0, [[(4, 0)], [(31, 27)]], [],
    fun | [a, b] => some (.ldHuF4 (.ofNat _ a) (.ofNat _ b)) | _ => none⟩,
  ⟨4, 0x107E0, 0x10720, [[(31, 17)], [(4, 0)], [(15, 11)]], [],
    fun | [a, b, c] => some (.ldWF1 (.ofNat _ a) (.ofNat _ b) (.ofNat _ c)) | _ => none⟩,
  ⟨6, 0x1FFFE0, 0x90780, [[(47, 32), (26, 21)], [(4, 0)], [(31, 27)]], [],
    fun | [a, b, c] => some (.ldWF2 (.ofNat _ a) (.ofNat _ b) (.ofNat _ c)) | _ => none⟩,
  ⟨4, 0x7FFFFE0, 0x37817E0, [[(4, 0)], [(31, 27)]], [],
    fun | [a, b] => some (.ldWF3 (.ofNat _ a) (.ofNat _ b)) | _ => none⟩,
  ⟨4, 0x7FFFFE0, 0x37827E0, [[(4, 0)], [(31, 27)]], [],
    fun | [a, b] => some (.ldWF4 (.ofNat _ a) (.ofNat _ b)) | _ => none⟩,
  ⟨2, 0x780, 0x300, [[(6, 0)], [(15, 11)]], [],
    fun | [a, b] => some (.sldB (.ofNat _ a) (.ofNat _ b)) | _ => none⟩,
  ⟨2, 0x7F0, 0x60, [[(3, 0)], [(15, 11)]], [(0xF800, 0x0)],
    fun | [a, b] => some (.sldBu (.ofNat _ a) (.ofNat _ b)) | _ => none⟩]

/-- Rows 120 to 159 of the opcode table (spec/opcode_table.json, in its order). -/
def opRows3 : List OpRow := [
  ⟨2, 0x780, 0x400, [[(6, 0)], [(15, 11)]], [],
    fun | [a, b] => some (.sldH (.ofNat _ a) (.ofNat _ b)) | _ => none⟩,
  ⟨2, 0x7F0, 0x70, [[(3, 0)], [(15, 11)]], [(0xF800, 0x0)],
    fun | [a, b] => some (.sldHu (.ofNat _ a) (.ofNat _ b)) | _ => none⟩,
  ⟨2, 0x781, 0x500, [[(6, 1)], [(15, 11)]], [],
    fun | [a, b] => some (.sldW (.ofNat _ a) (.ofNat _ b)) | _ => none⟩,
  ⟨4, 0x7E0, 0x740, [[(31, 16)], [(4, 0)], [(15, 11)]], [],
    fun | [a, b, c] => some (.stBF1 (.ofNat _ a) (.ofNat _ b) (.ofNat _ c)) | _ => none⟩,
  ⟨6, 0xFFFE0, 0xD0780, [[(47, 32), (26, 20)], [(4, 0)], [(31, 27)]], [],
    fun | [a, b, c] => some (.stBF2 (.ofNat _ a) (.ofNat _ b) (.ofNat _ c)) | _ => none⟩,
  ⟨4, 0x7FFFFE0, 0x37217E0, [[(4, 0)], [(31, 27)]], [],
    fun | [a, b] => some (.stBF3 (.ofNat _ a) (.ofNat _ b)) | _ => none⟩,
  ⟨4, 0x7FFFFE0, 0x37227E0, [[(4, 0)], [(31, 27)]], [],
    fun | [a, b] => some (.stBF4 (.ofNat _ a) (.ofNat _ b)) | _ => none⟩,
  ⟨6, 0x1FFFE0, 0xF07A0, [[(47, 32), (26, 21)], [(4, 0)], [(31, 27)]], [],
    fun | [a, b, c] => some (.stDw (.ofNat _ a) (.ofNat _ b) (.ofNat _ c)) | _ => none⟩,
  ⟨4, 0x107E0, 0x760, [[(31, 17)], [(4, 0)], [(15, 11)]], [],
    fun | [a, b, c] => some (.stHF1 (.ofNat _ a) (.ofNat _ b) (.ofNat _ c)) | _ => none⟩,
  ⟨6, 0x1FFFE0, 0xD07A0, [[(47, 32), (26, 21)], [(4, 0)], [(31, 27)]], [],
    fun | [a, b, c] => some (.stHF2 (.ofNat _ a) (.ofNat _ b) (.ofNat _ c)) | _ => none⟩,
  ⟨4, 0x7FFFFE0, 0x37617E0, [[(4, 0)], [(31, 27)]], [],
    fun | [a, b] => some (.stHF3 (.ofNat _ a) (.ofNat _ b)) | _ => none⟩,
  ⟨4, 0x7FFFFE0, 0x37627E0, [[(4, 0)], [(31, 27)]], [],
    fun | [a, b] => some (.stHF4 (.ofNat _ a) (.ofNat _ b)) | _ => none⟩,
  ⟨4, 0x107E0, 0x10760, [[(31, 17)], [(4, 0)], [(15, 11)]], [],
    fun | [a, b, c] => some (.stWF1 (.ofNat _ a) (.ofNat _ b) (.ofNat _ c)) | _ => none⟩,
  ⟨6, 0x1FFFE0, 0xF0780, [[(47, 32), (26, 21)], [(4, 0)], [(31, 27)]], [],
    fun | [a, b, c] => some (.stWF2 (.ofNat _ a) (.ofNat _ b) (.ofNat _ c)) | _ => none⟩,
  ⟨4, 0x7FFFFE0, 0x37A17E0, [[(4, 0)], [(31, 27)]], [],
    fun | [a, b] => some (.stWF3 (.ofNat _ a) (.ofNat _ b)) | _ => none⟩,
  ⟨4, 0x7FFFFE0, 0x37A27E0, [[(4, 0)], [(31, 27)]], [],
    fun | [a, b] => some (.stWF4 (.ofNat _ a) (.ofNat _ b)) | _ => none⟩,
  ⟨2, 0x780, 0x380, [[(6, 0)], [(15, 11)]], [],
    fun | [a, b] => some (.sstB (.ofNat _ a) (.ofNat _ b)) | _ => none⟩,
  ⟨2, 0x780, 0x480, [[(6, 0)], [(15, 11)]], [],
    fun | [a, b] => some (.sstH (.ofNat _ a) (.ofNat _ b)) | _ => none⟩,
  ⟨2, 0x781, 0x501, [[(6, 1)], [(15, 11)]], [],
    fun | [a, b] => some (.sstW (.ofNat _ a) (.ofNat _ b)) | _ => none⟩,
  ⟨2, 0xFFC0, 0x200, [[(5, 0)]], [],
    fun | [a] => some (.callt (.ofNat _ a)) | _ => none⟩,
  ⟨4, 0xFFFFFFFF, 0x14407E0, [], [],
    fun | [] => some (.ctret) | _ => none⟩,
  ⟨2, 0xFFE0, 0x40, [[(4, 0)]], [(0x1F, 0x0)],
    fun | [a] => some (.switch (.ofNat _ a)) | _ => none⟩,
  ⟨4, 0x1FFFC0, 0x10780, [[(31, 21), (0, 0)], [(5, 1)]], [],
    fun | [a, b] => some (.prepareF1 (.ofNat _ a) (.ofNat _ b)) | _ => none⟩,
  ⟨4, 0x1FFFC0, 0x30780, [[(31, 21), (0, 0)], [(5, 1)]], [],
    fun | [a, b] => some (.prepareF2a (.ofNat _ a) (.ofNat _ b)) | _ => none⟩,
  ⟨6, 0x1FFFC0, 0xB0780, [[(31, 21), (0, 0)], [(5, 1)], [(47, 32)]], [],
    fun | [a, b, c] => some (.prepareF2b (.ofNat _ a) (.ofNat _ b) (.ofNat _ c)) | _ => none⟩,
  ⟨6, 0x1FFFC0, 0x130780, [[(31, 21), (0, 0)], [(5, 1)], [(47, 32)]], [],
    fun | [a, b, c] => some (.prepareF2c (.ofNat _ a) (.ofNat _ b) (.ofNat _ c)) | _ => none⟩,
  ⟨8, 0x1FFFC0, 0x1B0780, [[(31, 21), (0, 0)], [(5, 1)], [(63, 48), (47, 32)]], [],
    fun | [a, b, c] => some (.prepareF2d (.ofNat _ a) (.ofNat _ b) (.ofNat _ c)) | _ => none⟩,
  ⟨4, 0x1FFFC0, 0x640, [[(31, 21), (0, 0)], [(5, 1)]], [],
    fun | [a, b] => some (.disposeF1 (.ofNat _ a) (.ofNat _ b)) | _ => none⟩,
  ⟨4, 0xFFC0, 0x640, [[(31, 21), (0, 0)], [(5, 1)], [(20, 16)]], [(0x1F0000, 0x0)],
    fun | [a, b, c] => some (.disposeF2 (.ofNat _ a) (.ofNat _ b) (.ofNat _ c)) | _ => none⟩,
  ⟨4, 0x7FFFFE0, 0x16047E0, [[(4, 0)], [(31, 27)]], [],
    fun | [a, b] => some (.pushsp (.ofNat _ a) (.ofNat _ b)) | _ => none⟩,
  ⟨4, 0x7FFFFE0, 0x16067E0, [[(4, 0)], [(31, 27)]], [],
    fun | [a, b] => some (.popsp (.ofNat _ a) (.ofNat _ b)) | _ => none⟩,
  ⟨4, 0x7FF07E0, 0xEE07E0, [[(4, 0)], [(15, 11)], [(31, 27)]], [],
    fun | [a, b, c] => some (.caxi (.ofNat _ a) (.ofNat _ b) (.ofNat _ c)) | _ => none⟩,
  ⟨4, 0xFFFFFFFF, 0xF160FFFF, [], [],
    fun | [] => some (.cll) | _ => none⟩,
  ⟨4, 0x7FFFFE0, 0x3700FE0, [[(4, 0)], [(31, 27)]], [],
    fun | [a, b] => some (.ldlBu (.ofNat _ a) (.ofNat _ b)) | _ => none⟩,
  ⟨4, 0x7FFFFE0, 0x3740FE0, [[(4, 0)], [(31, 27)]], [],
    fun | [a, b] => some (.ldlHu (.ofNat _ a) (.ofNat _ b)) | _ => none⟩,
  ⟨4, 0x7FFFFE0, 0x37807E0, [[(4, 0)], [(31, 27)]], [],
    fun | [a, b] => some (.ldlW (.ofNat _ a) (.ofNat _ b)) | _ => none⟩,
  ⟨4, 0x7FFFFE0, 0x37207E0, [[(4, 0)], [(31, 27)]], [],
    fun | [a, b] => some (.stcB (.ofNat _ a) (.ofNat _ b)) | _ => none⟩,
  ⟨4, 0x7FFFFE0, 0x37607E0, [[(4, 0)], [(31, 27)]], [],
    fun | [a, b] => some (.stcH (.ofNat _ a) (.ofNat _ b)) | _ => none⟩,
  ⟨4, 0x7FFFFE0, 0x37A07E0, [[(4, 0)], [(31, 27)]], [],
    fun | [a, b] => some (.stcW (.ofNat _ a) (.ofNat _ b)) | _ => none⟩,
  ⟨2, 0xFFFF, 0x0, [], [],
    fun | [] => some (.nop) | _ => none⟩]

/-- Rows 160 to 199 of the opcode table (spec/opcode_table.json, in its order). -/
def opRows4 : List OpRow := [
  ⟨2, 0xFFFF, 0x40, [], [],
    fun | [] => some (.rieF1) | _ => none⟩,
  ⟨4, 0xFFFF07F0, 0x7F0, [[(15, 11)], [(3, 0)]], [],
    fun | [a, b] => some (.rieF2 (.ofNat _ a) (.ofNat _ b)) | _ => none⟩,
  ⟨4, 0xFFFFFFFF, 0x16007E0, [], [],
    fun | [] => some (.di) | _ => none⟩,
  ⟨4, 0xFFFFFFFF, 0x16087E0, [], [],
    fun | [] => some (.ei) | _ => none⟩,
  ⟨4, 0xFFFFFFFF, 0x14807E0, [], [],
    fun | [] => some (.eiret) | _ => none⟩,
  ⟨4, 0xFFFFFFFF, 0x14A07E0, [], [],
    fun | [] => some (.feret) | _ => none⟩,
  ⟨2, 0x87FF, 0x40, [[(14, 11)]], [(0x7800, 0x0)],
    fun | [a] => some (.fetrap (.ofNat _ a)) | _ => none⟩,
  ⟨4, 0xFFFFFFE0, 0x10007E0, [[(4, 0)]], [],
    fun | [a] => some (.trap (.ofNat _ a)) | _ => none⟩,
  ⟨4, 0xC7FFFFE0, 0x160D7E0, [[(29, 27), (4, 0)]], [],
    fun | [a] => some (.syscall (.ofNat _ a)) | _ => none⟩,
  ⟨4, 0xFFFFFFFF, 0x12007E0, [], [],
    fun | [] => some (.halt) | _ => none⟩,
  ⟨4, 0xFFFFFFFF, 0x1200FE0, [], [],
    fun | [] => some (.snooze) | _ => none⟩,
  ⟨4, 0x7FF07E0, 0x2007E0, [[(15, 11)], [(31, 27)], [(4, 0)]], [],
    fun | [a, b, c] => some (.ldsr (.ofNat _ a) (.ofNat _ b) (.ofNat _ c)) | _ => none⟩,
  ⟨4, 0x7FF07E0, 0x4007E0, [[(4, 0)], [(31, 27)], [(15, 11)]], [],
    fun | [a, b, c] => some (.stsr (.ofNat _ a) (.ofNat _ b) (.ofNat _ c)) | _ => none⟩,
  ⟨4, 0x7FF07E0, 0x16607E0, [[(15, 11)], [(31, 27)], [(4, 0)]], [],
    fun | [a, b, c] => some (.ldmMp (.ofNat _ a) (.ofNat _ b) (.ofNat _ c)) | _ => none⟩,
  ⟨4, 0x7FF07E0, 0x16407E0, [[(15, 11)], [(31, 27)], [(4, 0)]], [],
    fun | [a, b, c] => some (.stmMp (.ofNat _ a) (.ofNat _ b) (.ofNat _ c)) | _ => none⟩,
  ⟨4, 0xFFFFFFFF, 0x816007E0, [], [],
    fun | [] => some (.resbank) | _ => none⟩,
  ⟨2, 0xFFFF, 0x1D, [], [],
    fun | [] => some (.synce) | _ => none⟩,
  ⟨2, 0xFFFF, 0x1C, [], [],
    fun | [] => some (.synci) | _ => none⟩,
  ⟨2, 0xFFFF, 0x1E, [], [],
    fun | [] => some (.syncm) | _ => none⟩,
  ⟨2, 0xFFFF, 0x1F, [], [],
    fun | [] => some (.syncp) | _ => none⟩,
  ⟨4, 0x7FFE7E0, 0x160E7E0, [[(12, 11), (31, 27)], [(4, 0)]], [(0xF800181F, 0xF000181F)],
    fun | [a, b] => some (.cache (.ofNat _ a) (.ofNat _ b)) | _ => none⟩,
  ⟨4, 0x7FFFFE0, 0x160DFE0, [[(31, 27)], [(4, 0)]], [],
    fun | [a, b] => some (.pref (.ofNat _ a) (.ofNat _ b)) | _ => none⟩,
  ⟨4, 0xFFF0FFF, 0x45807E0, [[(15, 12)], [(31, 28)]], [],
    fun | [a, b] => some (.absfD (.ofNat _ a) (.ofNat _ b)) | _ => none⟩,
  ⟨4, 0x7FF07FF, 0x44807E0, [[(15, 11)], [(31, 27)]], [],
    fun | [a, b] => some (.absfS (.ofNat _ a) (.ofNat _ b)) | _ => none⟩,
  ⟨4, 0xFFF0FFF, 0x45807E1, [[(15, 12)], [(31, 28)]], [],
    fun | [a, b] => some (.negfD (.ofNat _ a) (.ofNat _ b)) | _ => none⟩,
  ⟨4, 0x7FF07FF, 0x44807E1, [[(15, 11)], [(31, 27)]], [],
    fun | [a, b] => some (.negfS (.ofNat _ a) (.ofNat _ b)) | _ => none⟩,
  ⟨4, 0xFFF0FE1, 0x47007E0, [[(4, 1)], [(15, 12)], [(31, 28)]], [],
    fun | [a, b, c] => some (.addfD (.ofNat _ a) (.ofNat _ b) (.ofNat _ c)) | _ => none⟩,
  ⟨4, 0x7FF07E0, 0x46007E0, [[(4, 0)], [(15, 11)], [(31, 27)]], [],
    fun | [a, b, c] => some (.addfS (.ofNat _ a) (.ofNat _ b) (.ofNat _ c)) | _ => none⟩,
  ⟨4, 0xFFF0FE1, 0x47207E0, [[(4, 1)], [(15, 12)], [(31, 28)]], [],
    fun | [a, b, c] => some (.subfD (.ofNat _ a) (.ofNat _ b) (.ofNat _ c)) | _ => none⟩,
  ⟨4, 0x7FF07E0, 0x46207E0, [[(4, 0)], [(15, 11)], [(31, 27)]], [],
    fun | [a, b, c] => some (.subfS (.ofNat _ a) (.ofNat _ b) (.ofNat _ c)) | _ => none⟩,
  ⟨4, 0xFFF0FE1, 0x47407E0, [[(4, 1)], [(15, 12)], [(31, 28)]], [],
    fun | [a, b, c] => some (.mulfD (.ofNat _ a) (.ofNat _ b) (.ofNat _ c)) | _ => none⟩,
  ⟨4, 0x7FF07E0, 0x46407E0, [[(4, 0)], [(15, 11)], [(31, 27)]], [],
    fun | [a, b, c] => some (.mulfS (.ofNat _ a) (.ofNat _ b) (.ofNat _ c)) | _ => none⟩,
  ⟨4, 0xFFF0FE1, 0x47E07E0, [[(4, 1)], [(15, 12)], [(31, 28)]], [],
    fun | [a, b, c] => some (.divfD (.ofNat _ a) (.ofNat _ b) (.ofNat _ c)) | _ => none⟩,
  ⟨4, 0x7FF07E0, 0x46E07E0, [[(4, 0)], [(15, 11)], [(31, 27)]], [],
    fun | [a, b, c] => some (.divfS (.ofNat _ a) (.ofNat _ b) (.ofNat _ c)) | _ => none⟩,
  ⟨4, 0xFFF0FE1, 0x47807E0, [[(4, 1)], [(15, 12)], [(31, 28)]], [],
    fun | [a, b, c] => some (.maxfD (.ofNat _ a) (.ofNat _ b) (.ofNat _ c)) | _ => none⟩,
  ⟨4, 0x7FF07E0, 0x46807E0, [[(4, 0)], [(15, 11)], [(31, 27)]], [],
    fun | [a, b, c] => some (.maxfS (.ofNat _ a) (.ofNat _ b) (.ofNat _ c)) | _ => none⟩,
  ⟨4, 0xFFF0FE1, 0x47A07E0, [[(4, 1)], [(15, 12)], [(31, 28)]], [],
    fun | [a, b, c] => some (.minfD (.ofNat _ a) (.ofNat _ b) (.ofNat _ c)) | _ => none⟩,
  ⟨4, 0x7FF07E0, 0x46A07E0, [[(4, 0)], [(15, 11)], [(31, 27)]], [],
    fun | [a, b, c] => some (.minfS (.ofNat _ a) (.ofNat _ b) (.ofNat _ c)) | _ => none⟩,
  ⟨4, 0xFFF0FFF, 0x45E07E0, [[(15, 12)], [(31, 28)]], [],
    fun | [a, b] => some (.sqrtfD (.ofNat _ a) (.ofNat _ b)) | _ => none⟩,
  ⟨4, 0x7FF07FF, 0x44E07E0, [[(15, 11)], [(31, 27)]], [],
    fun | [a, b] => some (.sqrtfS (.ofNat _ a) (.ofNat _ b)) | _ => none⟩]

/-- Rows 200 to 239 of the opcode table (spec/opcode_table.json, in its order). -/
def opRows5 : List OpRow := [
  ⟨4, 0xFFF0FFF, 0x45E07E1, [[(15, 12)], [(31, 28)]], [],
    fun | [a, b] => some (.recipfD (.ofNat _ a) (.ofNat _ b)) | _ => none⟩,
  ⟨4, 0x7FF07FF, 0x44E07E1, [[(15, 11)], [(31, 27)]], [],
    fun | [a, b] => some (.recipfS (.ofNat _ a) (.ofNat _ b)) | _ => none⟩,
  ⟨4, 0xFFF0FFF, 0x45E07E2, [[(15, 12)], [(31, 28)]], [],
    fun | [a, b] => some (.rsqrtfD (.ofNat _ a) (.ofNat _ b)) | _ => none⟩,
  ⟨4, 0x7FF07FF, 0x44E07E2, [[(15, 11)], [(31, 27)]], [],
    fun | [a, b] => some (.rsqrtfS (.ofNat _ a) (.ofNat _ b)) | _ => none⟩,
  ⟨4, 0x7FF07E0, 0x4E007E0, [[(4, 0)], [(15, 11)], [(31, 27)]], [],
    fun | [a, b, c] => some (.fmafS (.ofNat _ a) (.ofNat _ b) (.ofNat _ c)) | _ => none⟩,
  ⟨4, 0x7FF07E0, 0x4E207E0, [[(4, 0)], [(15, 11)], [(31, 27)]], [],
    fun | [a, b, c] => some (.fmsfS (.ofNat _ a) (.ofNat _ b) (.ofNat _ c)) | _ => none⟩,
  ⟨4, 0x7FF07E0, 0x4E407E0, [[(4, 0)], [(15, 11)], [(31, 27)]], [],
    fun | [a, b, c] => some (.fnmafS (.ofNat _ a) (.ofNat _ b) (.ofNat _ c)) | _ => none⟩,
  ⟨4, 0x7FF07E0, 0x4E607E0, [[(4, 0)], [(15, 11)], [(31, 27)]], [],
    fun | [a, b, c] => some (.fnmsfS (.ofNat _ a) (.ofNat _ b) (.ofNat _ c)) | _ => none⟩,
  ⟨4, 0x87F10FE1, 0x43007E0, [[(30, 27)], [(19, 17)], [(4, 1)], [(15, 12)]], [],
    fun | [a, b, c, d] => some (.cmpfD (.ofNat _ a) (.ofNat _ b) (.ofNat _ c) (.ofNat _ d)) | _ => none⟩,
  ⟨4, 0x87F107E0, 0x42007E0, [[(30, 27)], [(19, 17)], [(4, 0)], [(15, 11)]], [],
    fun | [a, b, c, d] => some (.cmpfS (.ofNat _ a) (.ofNat _ b) (.ofNat _ c) (.ofNat _ d)) | _ => none⟩,
  ⟨4, 0xFF10FE1, 0x41007E0, [[(19, 17)], [(4, 1)], [(15, 12)], [(31, 28)]], [(0xF0000000, 0x0)],
    fun | [a, b, c, d] => some (.cmovfD (.ofNat _ a) (.ofNat _ b) (.ofNat _ c) (.ofNat _ d)) | _ => none⟩,
  ⟨4, 0x7F107E0, 0x40007E0, [[(19, 17)], [(4, 0)], [(15, 11)], [(31, 27)]], [(0xF8000000, 0x0)],
    fun | [a, b, c, d] => some (.cmovfS (.ofNat _ a) (.ofNat _ b) (.ofNat _ c) (.ofNat _ d)) | _ => none⟩,
  ⟨4, 0xFFF1FFFF, 0x40007E0, [[(19, 17)]], [],
    fun | [a] => some (.trfsr (.ofNat _ a)) | _ => none⟩,
  ⟨4, 0xFFF0FFF, 0x45407E2, [[(15, 12)], [(31, 28)]], [],
    fun | [a, b] => some (.ceilfDl (.ofNat _ a) (.ofNat _ b)) | _ => none⟩,
  ⟨4, 0xFFF0FFF, 0x45407F2, [[(15, 12)], [(31, 28)]], [],
    fun | [a, b] => some (.ceilfDul (.ofNat _ a) (.ofNat _ b)) | _ => none⟩,
  ⟨4, 0x7FF0FFF, 0x45007F2, [[(15, 12)], [(31, 27)]], [],
    fun | [a, b] => some (.ceilfDuw (.ofNat _ a) (.ofNat _ b)) | _ => none⟩,
  ⟨4, 0x7FF0FFF, 0x45007E2, [[(15, 12)], [(31, 27)]], [],
    fun | [a, b] => some (.ceilfDw (.ofNat _ a) (.ofNat _ b)) | _ => none⟩,
  ⟨4, 0xFFF07FF, 0x44407E2, [[(15, 11)], [(31, 28)]], [],
    fun | [a, b] => some (.ceilfSl (.ofNat _ a) (.ofNat _ b)) | _ => none⟩,
  ⟨4, 0xFFF07FF, 0x44407F2, [[(15, 11)], [(31, 28)]], [],
    fun | [a, b] => some (.ceilfSul (.ofNat _ a) (.ofNat _ b)) | _ => none⟩,
  ⟨4, 0x7FF07FF, 0x44007F2, [[(15, 11)], [(31, 27)]], [],
    fun | [a, b] => some (.ceilfSuw (.ofNat _ a) (.ofNat _ b)) | _ => none⟩,
  ⟨4, 0x7FF07FF, 0x44007E2, [[(15, 11)], [(31, 27)]], [],
    fun | [a, b] => some (.ceilfSw (.ofNat _ a) (.ofNat _ b)) | _ => none⟩,
  ⟨4, 0xFFF0FFF, 0x45407E3, [[(15, 12)], [(31, 28)]], [],
    fun | [a, b] => some (.floorfDl (.ofNat _ a) (.ofNat _ b)) | _ => none⟩,
  ⟨4, 0xFFF0FFF, 0x45407F3, [[(15, 12)], [(31, 28)]], [],
    fun | [a, b] => some (.floorfDul (.ofNat _ a) (.ofNat _ b)) | _ => none⟩,
  ⟨4, 0x7FF0FFF, 0x45007F3, [[(15, 12)], [(31, 27)]], [],
    fun | [a, b] => some (.floorfDuw (.ofNat _ a) (.ofNat _ b)) | _ => none⟩,
  ⟨4, 0x7FF0FFF, 0x45007E3, [[(15, 12)], [(31, 27)]], [],
    fun | [a, b] => some (.floorfDw (.ofNat _ a) (.ofNat _ b)) | _ => none⟩,
  ⟨4, 0xFFF07FF, 0x44407E3, [[(15, 11)], [(31, 28)]], [],
    fun | [a, b] => some (.floorfSl (.ofNat _ a) (.ofNat _ b)) | _ => none⟩,
  ⟨4, 0xFFF07FF, 0x44407F3, [[(15, 11)], [(31, 28)]], [],
    fun | [a, b] => some (.floorfSul (.ofNat _ a) (.ofNat _ b)) | _ => none⟩,
  ⟨4, 0x7FF07FF, 0x44007F3, [[(15, 11)], [(31, 27)]], [],
    fun | [a, b] => some (.floorfSuw (.ofNat _ a) (.ofNat _ b)) | _ => none⟩,
  ⟨4, 0x7FF07FF, 0x44007E3, [[(15, 11)], [(31, 27)]], [],
    fun | [a, b] => some (.floorfSw (.ofNat _ a) (.ofNat _ b)) | _ => none⟩,
  ⟨4, 0xFFF0FFF, 0x45407E0, [[(15, 12)], [(31, 28)]], [],
    fun | [a, b] => some (.roundfDl (.ofNat _ a) (.ofNat _ b)) | _ => none⟩,
  ⟨4, 0xFFF0FFF, 0x45407F0, [[(15, 12)], [(31, 28)]], [],
    fun | [a, b] => some (.roundfDul (.ofNat _ a) (.ofNat _ b)) | _ => none⟩,
  ⟨4, 0x7FF0FFF, 0x45007F0, [[(15, 12)], [(31, 27)]], [],
    fun | [a, b] => some (.roundfDuw (.ofNat _ a) (.ofNat _ b)) | _ => none⟩,
  ⟨4, 0x7FF0FFF, 0x45007E0, [[(15, 12)], [(31, 27)]], [],
    fun | [a, b] => some (.roundfDw (.ofNat _ a) (.ofNat _ b)) | _ => none⟩,
  ⟨4, 0xFFF07FF, 0x44407E0, [[(15, 11)], [(31, 28)]], [],
    fun | [a, b] => some (.roundfSl (.ofNat _ a) (.ofNat _ b)) | _ => none⟩,
  ⟨4, 0xFFF07FF, 0x44407F0, [[(15, 11)], [(31, 28)]], [],
    fun | [a, b] => some (.roundfSul (.ofNat _ a) (.ofNat _ b)) | _ => none⟩,
  ⟨4, 0x7FF07FF, 0x44007F0, [[(15, 11)], [(31, 27)]], [],
    fun | [a, b] => some (.roundfSuw (.ofNat _ a) (.ofNat _ b)) | _ => none⟩,
  ⟨4, 0x7FF07FF, 0x44007E0, [[(15, 11)], [(31, 27)]], [],
    fun | [a, b] => some (.roundfSw (.ofNat _ a) (.ofNat _ b)) | _ => none⟩,
  ⟨4, 0xFFF0FFF, 0x45407E1, [[(15, 12)], [(31, 28)]], [],
    fun | [a, b] => some (.trncfDl (.ofNat _ a) (.ofNat _ b)) | _ => none⟩,
  ⟨4, 0xFFF0FFF, 0x45407F1, [[(15, 12)], [(31, 28)]], [],
    fun | [a, b] => some (.trncfDul (.ofNat _ a) (.ofNat _ b)) | _ => none⟩,
  ⟨4, 0x7FF0FFF, 0x45007F1, [[(15, 12)], [(31, 27)]], [],
    fun | [a, b] => some (.trncfDuw (.ofNat _ a) (.ofNat _ b)) | _ => none⟩]

/-- Rows 240 to 279 of the opcode table (spec/opcode_table.json, in its order); the sub-ops of LDV.QW and STVZ.H4 are the product's. -/
def opRows6 (e : Enc) : List OpRow := [
  ⟨4, 0x7FF0FFF, 0x45007E1, [[(15, 12)], [(31, 27)]], [],
    fun | [a, b] => some (.trncfDw (.ofNat _ a) (.ofNat _ b)) | _ => none⟩,
  ⟨4, 0xFFF07FF, 0x44407E1, [[(15, 11)], [(31, 28)]], [],
    fun | [a, b] => some (.trncfSl (.ofNat _ a) (.ofNat _ b)) | _ => none⟩,
  ⟨4, 0xFFF07FF, 0x44407F1, [[(15, 11)], [(31, 28)]], [],
    fun | [a, b] => some (.trncfSul (.ofNat _ a) (.ofNat _ b)) | _ => none⟩,
  ⟨4, 0x7FF07FF, 0x44007F1, [[(15, 11)], [(31, 27)]], [],
    fun | [a, b] => some (.trncfSuw (.ofNat _ a) (.ofNat _ b)) | _ => none⟩,
  ⟨4, 0x7FF07FF, 0x44007E1, [[(15, 11)], [(31, 27)]], [],
    fun | [a, b] => some (.trncfSw (.ofNat _ a) (.ofNat _ b)) | _ => none⟩,
  ⟨4, 0xFFF0FFF, 0x45407E4, [[(15, 12)], [(31, 28)]], [],
    fun | [a, b] => some (.cvtfDl (.ofNat _ a) (.ofNat _ b)) | _ => none⟩,
  ⟨4, 0xFFF0FFF, 0x45407F4, [[(15, 12)], [(31, 28)]], [],
    fun | [a, b] => some (.cvtfDul (.ofNat _ a) (.ofNat _ b)) | _ => none⟩,
  ⟨4, 0x7FF0FFF, 0x45007F4, [[(15, 12)], [(31, 27)]], [],
    fun | [a, b] => some (.cvtfDuw (.ofNat _ a) (.ofNat _ b)) | _ => none⟩,
  ⟨4, 0x7FF0FFF, 0x45007E4, [[(15, 12)], [(31, 27)]], [],
    fun | [a, b] => some (.cvtfDw (.ofNat _ a) (.ofNat _ b)) | _ => none⟩,
  ⟨4, 0xFFF07FF, 0x44407E4, [[(15, 11)], [(31, 28)]], [],
    fun | [a, b] => some (.cvtfSl (.ofNat _ a) (.ofNat _ b)) | _ => none⟩,
  ⟨4, 0xFFF07FF, 0x44407F4, [[(15, 11)], [(31, 28)]], [],
    fun | [a, b] => some (.cvtfSul (.ofNat _ a) (.ofNat _ b)) | _ => none⟩,
  ⟨4, 0x7FF07FF, 0x44007F4, [[(15, 11)], [(31, 27)]], [],
    fun | [a, b] => some (.cvtfSuw (.ofNat _ a) (.ofNat _ b)) | _ => none⟩,
  ⟨4, 0x7FF07FF, 0x44007E4, [[(15, 11)], [(31, 27)]], [],
    fun | [a, b] => some (.cvtfSw (.ofNat _ a) (.ofNat _ b)) | _ => none⟩,
  ⟨4, 0x7FF0FFF, 0x45207E3, [[(15, 12)], [(31, 27)]], [],
    fun | [a, b] => some (.cvtfDs (.ofNat _ a) (.ofNat _ b)) | _ => none⟩,
  ⟨4, 0x7FF07FF, 0x44207E2, [[(15, 11)], [(31, 27)]], [],
    fun | [a, b] => some (.cvtfHs (.ofNat _ a) (.ofNat _ b)) | _ => none⟩,
  ⟨4, 0xFFF0FFF, 0x45207E1, [[(15, 12)], [(31, 28)]], [],
    fun | [a, b] => some (.cvtfLd (.ofNat _ a) (.ofNat _ b)) | _ => none⟩,
  ⟨4, 0x7FF0FFF, 0x44207E1, [[(15, 12)], [(31, 27)]], [],
    fun | [a, b] => some (.cvtfLs (.ofNat _ a) (.ofNat _ b)) | _ => none⟩,
  ⟨4, 0xFFF07FF, 0x45207E2, [[(15, 11)], [(31, 28)]], [],
    fun | [a, b] => some (.cvtfSd (.ofNat _ a) (.ofNat _ b)) | _ => none⟩,
  ⟨4, 0x7FF07FF, 0x44207E3, [[(15, 11)], [(31, 27)]], [],
    fun | [a, b] => some (.cvtfSh (.ofNat _ a) (.ofNat _ b)) | _ => none⟩,
  ⟨4, 0xFFF0FFF, 0x45207F1, [[(15, 12)], [(31, 28)]], [],
    fun | [a, b] => some (.cvtfUld (.ofNat _ a) (.ofNat _ b)) | _ => none⟩,
  ⟨4, 0x7FF0FFF, 0x44207F1, [[(15, 12)], [(31, 27)]], [],
    fun | [a, b] => some (.cvtfUls (.ofNat _ a) (.ofNat _ b)) | _ => none⟩,
  ⟨4, 0xFFF07FF, 0x45207F0, [[(15, 11)], [(31, 28)]], [],
    fun | [a, b] => some (.cvtfUwd (.ofNat _ a) (.ofNat _ b)) | _ => none⟩,
  ⟨4, 0x7FF07FF, 0x44207F0, [[(15, 11)], [(31, 27)]], [],
    fun | [a, b] => some (.cvtfUws (.ofNat _ a) (.ofNat _ b)) | _ => none⟩,
  ⟨4, 0xFFF07FF, 0x45207E0, [[(15, 11)], [(31, 28)]], [],
    fun | [a, b] => some (.cvtfWd (.ofNat _ a) (.ofNat _ b)) | _ => none⟩,
  ⟨4, 0x7FF07FF, 0x44207E0, [[(15, 11)], [(31, 27)]], [],
    fun | [a, b] => some (.cvtfWs (.ofNat _ a) (.ofNat _ b)) | _ => none⟩,
  ⟨4, 0x7FF07FF, 0x5A007FE, [[(15, 11)], [(31, 27)]], [],
    fun | [a, b] => some (.movvW4 (.ofNat _ a) (.ofNat _ b)) | _ => none⟩,
  ⟨4, 0x7FF07FC, 0x5A007F8, [[(1, 0)], [(15, 11)], [(31, 27)]], [],
    fun | [a, b, c] => some (.flpvS4 (.ofNat _ a) (.ofNat _ b) (.ofNat _ c)) | _ => none⟩,
  ⟨6, 0x7DFFFE0, 0x69D07A0, [[(21, 21), (42, 32)], [(4, 0)], [(47, 43)], [(31, 27)]], [],
    fun | [a, b, c, d] => some (.shflvW4 (.ofNat _ a) (.ofNat _ b) (.ofNat _ c) (.ofNat _ d)) | _ => none⟩,
  ⟨6, 0x61FFFE0, 0x1D07A0, [[(24, 21)], [(47, 34)], [(4, 0)], [(31, 27)]], [],
    fun | [a, b, c, d] => some (.ldvW (.ofNat _ a) (.ofNat _ b) (.ofNat _ c) (.ofNat _ d)) | _ => none⟩,
  ⟨6, 0x79FFFE0, 0x31D07A0, [[(22, 21)], [(47, 35)], [(4, 0)], [(31, 27)]], [],
    fun | [a, b, c, d] => some (.ldvDw (.ofNat _ a) (.ofNat _ b) (.ofNat _ c) (.ofNat _ d)) | _ => none⟩,
  ⟨6, 0x7FFFFE0, 0x1D07A0 + e.ldvQw.toNat <<< 21, [[(47, 36)], [(4, 0)], [(31, 27)]], [],
    fun | [a, b, c] => some (.ldvQw (.ofNat _ a) (.ofNat _ b) (.ofNat _ c)) | _ => none⟩,
  ⟨6, 0x7FFFFE0, 0x3DD07A0, [[(47, 35)], [(4, 0)], [(31, 27)]], [],
    fun | [a, b, c] => some (.ldvzH4 (.ofNat _ a) (.ofNat _ b) (.ofNat _ c)) | _ => none⟩,
  ⟨6, 0x79FFFE0, 0x21D07A0, [[(22, 21)], [(47, 34)], [(4, 0)], [(31, 27)]], [],
    fun | [a, b, c, d] => some (.stvW (.ofNat _ a) (.ofNat _ b) (.ofNat _ c) (.ofNat _ d)) | _ => none⟩,
  ⟨6, 0x7DFFFE0, 0x39D07A0, [[(21, 21)], [(47, 35)], [(4, 0)], [(31, 27)]], [],
    fun | [a, b, c, d] => some (.stvDw (.ofNat _ a) (.ofNat _ b) (.ofNat _ c) (.ofNat _ d)) | _ => none⟩,
  ⟨6, 0x7FFFFE0, 0x2BD07A0, [[(47, 36)], [(4, 0)], [(31, 27)]], [],
    fun | [a, b, c] => some (.stvQw (.ofNat _ a) (.ofNat _ b) (.ofNat _ c)) | _ => none⟩,
  ⟨6, 0x7FFFFE0, 0x1D07A0 + e.stvzH4.toNat <<< 21, [[(47, 35)], [(4, 0)], [(31, 27)]], [],
    fun | [a, b, c] => some (.stvzH4 (.ofNat _ a) (.ofNat _ b) (.ofNat _ c)) | _ => none⟩,
  ⟨6, 0x7FFFFE0, 0x61D07A0, [[(4, 0)], [(47, 43)], [(31, 27)], [(36, 32)]], [],
    fun | [a, b, c, d] => some (.cmovfW4 (.ofNat _ a) (.ofNat _ b) (.ofNat _ c) (.ofNat _ d)) | _ => none⟩,
  ⟨4, 0xC7FF07FF, 0x5A007FF, [[(29, 27)], [(15, 11)]], [],
    fun | [a, b] => some (.trfsrvW4 (.ofNat _ a) (.ofNat _ b)) | _ => none⟩,
  ⟨4, 0x7E107E0, 0x58007E0, [[(20, 17)], [(4, 0)], [(15, 11)], [(31, 27)]], [],
    fun | [a, b, c, d] => some (.cmpfS4 (.ofNat _ a) (.ofNat _ b) (.ofNat _ c) (.ofNat _ d)) | _ => none⟩,
  ⟨4, 0x7FF07FF, 0x5A007F0, [[(15, 11)], [(31, 27)]], [],
    fun | [a, b] => some (.absfS4 (.ofNat _ a) (.ofNat _ b)) | _ => none⟩]

/-- Rows 280 to 319 of the opcode table (spec/opcode_table.json, in its order); the selectors of RECIPF.S4 and RSQRTF.S4 are the
product's. -/
def opRows7 (e : Enc) : List OpRow := [
  ⟨4, 0x7FF07FF, 0x5A007F1, [[(15, 11)], [(31, 27)]], [],
    fun | [a, b] => some (.negfS4 (.ofNat _ a) (.ofNat _ b)) | _ => none⟩,
  ⟨4, 0x7FF07E0, 0x5A407E0, [[(4, 0)], [(15, 11)], [(31, 27)]], [],
    fun | [a, b, c] => some (.addfS4 (.ofNat _ a) (.ofNat _ b) (.ofNat _ c)) | _ => none⟩,
  ⟨4, 0x7FF07E0, 0x5A607E0, [[(4, 0)], [(15, 11)], [(31, 27)]], [],
    fun | [a, b, c] => some (.subfS4 (.ofNat _ a) (.ofNat _ b) (.ofNat _ c)) | _ => none⟩,
  ⟨4, 0x7FF07E0, 0x5A807E0, [[(4, 0)], [(15, 11)], [(31, 27)]], [],
    fun | [a, b, c] => some (.mulfS4 (.ofNat _ a) (.ofNat _ b) (.ofNat _ c)) | _ => none⟩,
  ⟨4, 0x7FF07E0, 0x5AE07E0, [[(4, 0)], [(15, 11)], [(31, 27)]], [],
    fun | [a, b, c] => some (.divfS4 (.ofNat _ a) (.ofNat _ b) (.ofNat _ c)) | _ => none⟩,
  ⟨4, 0x7FF07E0, 0x5AA07E0, [[(4, 0)], [(15, 11)], [(31, 27)]], [],
    fun | [a, b, c] => some (.maxfS4 (.ofNat _ a) (.ofNat _ b) (.ofNat _ c)) | _ => none⟩,
  ⟨4, 0x7FF07E0, 0x5AC07E0, [[(4, 0)], [(15, 11)], [(31, 27)]], [],
    fun | [a, b, c] => some (.minfS4 (.ofNat _ a) (.ofNat _ b) (.ofNat _ c)) | _ => none⟩,
  ⟨4, 0x7FF07FF, 0x5A007F2, [[(15, 11)], [(31, 27)]], [],
    fun | [a, b] => some (.sqrtfS4 (.ofNat _ a) (.ofNat _ b)) | _ => none⟩,
  ⟨4, 0x7FF07FF, 0x5A007E0 + e.recipfS4.toNat, [[(15, 11)], [(31, 27)]], [],
    fun | [a, b] => some (.recipfS4 (.ofNat _ a) (.ofNat _ b)) | _ => none⟩,
  ⟨4, 0x7FF07FF, 0x5A007E0 + e.rsqrtfS4.toNat, [[(15, 11)], [(31, 27)]], [],
    fun | [a, b] => some (.rsqrtfS4 (.ofNat _ a) (.ofNat _ b)) | _ => none⟩,
  ⟨4, 0x7FF07E0, 0x4C007E0, [[(4, 0)], [(15, 11)], [(31, 27)]], [],
    fun | [a, b, c] => some (.fmafS4 (.ofNat _ a) (.ofNat _ b) (.ofNat _ c)) | _ => none⟩,
  ⟨4, 0x7FF07E0, 0x4C207E0, [[(4, 0)], [(15, 11)], [(31, 27)]], [],
    fun | [a, b, c] => some (.fmsfS4 (.ofNat _ a) (.ofNat _ b) (.ofNat _ c)) | _ => none⟩,
  ⟨4, 0x7FF07E0, 0x4C407E0, [[(4, 0)], [(15, 11)], [(31, 27)]], [],
    fun | [a, b, c] => some (.fnmafS4 (.ofNat _ a) (.ofNat _ b) (.ofNat _ c)) | _ => none⟩,
  ⟨4, 0x7FF07E0, 0x4C607E0, [[(4, 0)], [(15, 11)], [(31, 27)]], [],
    fun | [a, b, c] => some (.fnmsfS4 (.ofNat _ a) (.ofNat _ b) (.ofNat _ c)) | _ => none⟩,
  ⟨4, 0x7FF07FF, 0x5A007E0, [[(15, 11)], [(31, 27)]], [],
    fun | [a, b] => some (.roundfSw4 (.ofNat _ a) (.ofNat _ b)) | _ => none⟩,
  ⟨4, 0x7FF07FF, 0x5A007E1, [[(15, 11)], [(31, 27)]], [],
    fun | [a, b] => some (.roundfSuw4 (.ofNat _ a) (.ofNat _ b)) | _ => none⟩,
  ⟨4, 0x7FF07FF, 0x5A007E2, [[(15, 11)], [(31, 27)]], [],
    fun | [a, b] => some (.trncfSw4 (.ofNat _ a) (.ofNat _ b)) | _ => none⟩,
  ⟨4, 0x7FF07FF, 0x5A007E3, [[(15, 11)], [(31, 27)]], [],
    fun | [a, b] => some (.trncfSuw4 (.ofNat _ a) (.ofNat _ b)) | _ => none⟩,
  ⟨4, 0x7FF07FF, 0x5A007E4, [[(15, 11)], [(31, 27)]], [],
    fun | [a, b] => some (.ceilfSw4 (.ofNat _ a) (.ofNat _ b)) | _ => none⟩,
  ⟨4, 0x7FF07FF, 0x5A007E5, [[(15, 11)], [(31, 27)]], [],
    fun | [a, b] => some (.ceilfSuw4 (.ofNat _ a) (.ofNat _ b)) | _ => none⟩,
  ⟨4, 0x7FF07FF, 0x5A007E6, [[(15, 11)], [(31, 27)]], [],
    fun | [a, b] => some (.floorfSw4 (.ofNat _ a) (.ofNat _ b)) | _ => none⟩,
  ⟨4, 0x7FF07FF, 0x5A007E7, [[(15, 11)], [(31, 27)]], [],
    fun | [a, b] => some (.floorfSuw4 (.ofNat _ a) (.ofNat _ b)) | _ => none⟩,
  ⟨4, 0x7FF07FF, 0x5A007E8, [[(15, 11)], [(31, 27)]], [],
    fun | [a, b] => some (.cvtfSw4 (.ofNat _ a) (.ofNat _ b)) | _ => none⟩,
  ⟨4, 0x7FF07FF, 0x5A007E9, [[(15, 11)], [(31, 27)]], [],
    fun | [a, b] => some (.cvtfSuw4 (.ofNat _ a) (.ofNat _ b)) | _ => none⟩,
  ⟨4, 0x7FF07FF, 0x5A007EA, [[(15, 11)], [(31, 27)]], [],
    fun | [a, b] => some (.cvtfWs4 (.ofNat _ a) (.ofNat _ b)) | _ => none⟩,
  ⟨4, 0x7FF07FF, 0x5A007EB, [[(15, 11)], [(31, 27)]], [],
    fun | [a, b] => some (.cvtfUws4 (.ofNat _ a) (.ofNat _ b)) | _ => none⟩,
  ⟨4, 0x7FF07FF, 0x5A007EC, [[(15, 11)], [(31, 27)]], [],
    fun | [a, b] => some (.cvtfHs4 (.ofNat _ a) (.ofNat _ b)) | _ => none⟩,
  ⟨4, 0x7FF07FF, 0x5A007ED, [[(15, 11)], [(31, 27)]], [],
    fun | [a, b] => some (.cvtfSh4 (.ofNat _ a) (.ofNat _ b)) | _ => none⟩,
  ⟨4, 0x7FF07E0, 0x5D007E0, [[(4, 0)], [(15, 11)], [(31, 27)]], [],
    fun | [a, b, c] => some (.addsubfS4 (.ofNat _ a) (.ofNat _ b) (.ofNat _ c)) | _ => none⟩,
  ⟨4, 0x7FF07E0, 0x5D207E0, [[(4, 0)], [(15, 11)], [(31, 27)]], [],
    fun | [a, b, c] => some (.subaddfS4 (.ofNat _ a) (.ofNat _ b) (.ofNat _ c)) | _ => none⟩,
  ⟨4, 0x7FF07E0, 0x5D807E0, [[(4, 0)], [(15, 11)], [(31, 27)]], [],
    fun | [a, b, c] => some (.addsubnfS4 (.ofNat _ a) (.ofNat _ b) (.ofNat _ c)) | _ => none⟩,
  ⟨4, 0x7FF07E0, 0x5DA07E0, [[(4, 0)], [(15, 11)], [(31, 27)]], [],
    fun | [a, b, c] => some (.subaddnfS4 (.ofNat _ a) (.ofNat _ b) (.ofNat _ c)) | _ => none⟩,
  ⟨4, 0x7FF07E0, 0x5C407E0, [[(4, 0)], [(15, 11)], [(31, 27)]], [],
    fun | [a, b, c] => some (.addxfS4 (.ofNat _ a) (.ofNat _ b) (.ofNat _ c)) | _ => none⟩,
  ⟨4, 0x7FF07E0, 0x5C607E0, [[(4, 0)], [(15, 11)], [(31, 27)]], [],
    fun | [a, b, c] => some (.subxfS4 (.ofNat _ a) (.ofNat _ b) (.ofNat _ c)) | _ => none⟩,
  ⟨4, 0x7FF07E0, 0x5C807E0, [[(4, 0)], [(15, 11)], [(31, 27)]], [],
    fun | [a, b, c] => some (.mulxfS4 (.ofNat _ a) (.ofNat _ b) (.ofNat _ c)) | _ => none⟩,
  ⟨4, 0x7FF07E0, 0x5D407E0, [[(4, 0)], [(15, 11)], [(31, 27)]], [],
    fun | [a, b, c] => some (.addsubxfS4 (.ofNat _ a) (.ofNat _ b) (.ofNat _ c)) | _ => none⟩,
  ⟨4, 0x7FF07E0, 0x5D607E0, [[(4, 0)], [(15, 11)], [(31, 27)]], [],
    fun | [a, b, c] => some (.subaddxfS4 (.ofNat _ a) (.ofNat _ b) (.ofNat _ c)) | _ => none⟩,
  ⟨4, 0x7FF07E0, 0x5DC07E0, [[(4, 0)], [(15, 11)], [(31, 27)]], [],
    fun | [a, b, c] => some (.addsubnxfS4 (.ofNat _ a) (.ofNat _ b) (.ofNat _ c)) | _ => none⟩,
  ⟨4, 0x7FF07E0, 0x5DE07E0, [[(4, 0)], [(15, 11)], [(31, 27)]], [],
    fun | [a, b, c] => some (.subaddnxfS4 (.ofNat _ a) (.ofNat _ b) (.ofNat _ c)) | _ => none⟩,
  ⟨4, 0x7FF07E0, 0x5B407E0, [[(4, 0)], [(15, 11)], [(31, 27)]], [],
    fun | [a, b, c] => some (.addrfS4 (.ofNat _ a) (.ofNat _ b) (.ofNat _ c)) | _ => none⟩]

/-- Rows 320 to 323 of the opcode table (spec/opcode_table.json, in its order). -/
def opRows8 : List OpRow := [
  ⟨4, 0x7FF07E0, 0x5B607E0, [[(4, 0)], [(15, 11)], [(31, 27)]], [],
    fun | [a, b, c] => some (.subrfS4 (.ofNat _ a) (.ofNat _ b) (.ofNat _ c)) | _ => none⟩,
  ⟨4, 0x7FF07E0, 0x5B807E0, [[(4, 0)], [(15, 11)], [(31, 27)]], [],
    fun | [a, b, c] => some (.mulrfS4 (.ofNat _ a) (.ofNat _ b) (.ofNat _ c)) | _ => none⟩,
  ⟨4, 0x7FF07E0, 0x5BA07E0, [[(4, 0)], [(15, 11)], [(31, 27)]], [],
    fun | [a, b, c] => some (.maxrfS4 (.ofNat _ a) (.ofNat _ b) (.ofNat _ c)) | _ => none⟩,
  ⟨4, 0x7FF07E0, 0x5BC07E0, [[(4, 0)], [(15, 11)], [(31, 27)]], [],
    fun | [a, b, c] => some (.minrfS4 (.ofNat _ a) (.ofNat _ b) (.ofNat _ c)) | _ => none⟩]

/-- The opcode table: every row whose encoding the sources give (R321 to R323), the four damaged FXU sub-opcodes as the product has
them (48_fxu.md R702, R703); a product may not give one of them a value that another row owns (92_eei_decisions.md D26). -/
def opRows (e : Enc) : List OpRow :=
  opRows0 ++ opRows1 ++ opRows2 ++ opRows3 ++ opRows4 ++ opRows5 ++ opRows6 e ++ opRows7 e ++ opRows8

/-- An instruction's row number in `opRows` and its operands in the order of the row's fields. -/
def Instr.parts : Instr → Nat × List Nat
  | .addF1 a b => (0, [a.toNat, b.toNat])
  | .addF2 a b => (1, [a.toNat, b.toNat])
  | .addi a b c => (2, [a.toNat, b.toNat, c.toNat])
  | .cmpF1 a b => (3, [a.toNat, b.toNat])
  | .cmpF2 a b => (4, [a.toNat, b.toNat])
  | .movF1 a b => (5, [a.toNat, b.toNat])
  | .movF2 a b => (6, [a.toNat, b.toNat])
  | .movF3 a b => (7, [a.toNat, b.toNat])
  | .movea a b c => (8, [a.toNat, b.toNat, c.toNat])
  | .movhi a b c => (9, [a.toNat, b.toNat, c.toNat])
  | .sub a b => (10, [a.toNat, b.toNat])
  | .subr a b => (11, [a.toNat, b.toNat])
  | .adf a b c d => (12, [a.toNat, b.toNat, c.toNat, d.toNat])
  | .sbf a b c d => (13, [a.toNat, b.toNat, c.toNat, d.toNat])
  | .div a b c => (14, [a.toNat, b.toNat, c.toNat])
  | .divhF1 a b => (15, [a.toNat, b.toNat])
  | .divhF2 a b c => (16, [a.toNat, b.toNat, c.toNat])
  | .divhu a b c => (17, [a.toNat, b.toNat, c.toNat])
  | .divq a b c => (18, [a.toNat, b.toNat, c.toNat])
  | .divqu a b c => (19, [a.toNat, b.toNat, c.toNat])
  | .divu a b c => (20, [a.toNat, b.toNat, c.toNat])
  | .sataddF1 a b => (21, [a.toNat, b.toNat])
  | .sataddF2 a b => (22, [a.toNat, b.toNat])
  | .sataddF3 a b c => (23, [a.toNat, b.toNat, c.toNat])
  | .satsubF1 a b => (24, [a.toNat, b.toNat])
  | .satsubF2 a b c => (25, [a.toNat, b.toNat, c.toNat])
  | .satsubi a b c => (26, [a.toNat, b.toNat, c.toNat])
  | .satsubr a b => (27, [a.toNat, b.toNat])
  | .mulF1 a b c => (28, [a.toNat, b.toNat, c.toNat])
  | .mulF2 a b c => (29, [a.toNat, b.toNat, c.toNat])
  | .mulhF1 a b => (30, [a.toNat, b.toNat])
  | .mulhF2 a b => (31, [a.toNat, b.toNat])
  | .mulhi a b c => (32, [a.toNat, b.toNat, c.toNat])
  | .muluF1 a b c => (33, [a.toNat, b.toNat, c.toNat])
  | .muluF2 a b c => (34, [a.toNat, b.toNat, c.toNat])
  | .mac a b c d => (35, [a.toNat, b.toNat, c.toNat, d.toNat])
  | .macu a b c d => (36, [a.toNat, b.toNat, c.toNat, d.toNat])
  | .and a b => (37, [a.toNat, b.toNat])
  | .andi a b c => (38, [a.toNat, b.toNat, c.toNat])
  | .not a b => (39, [a.toNat, b.toNat])
  | .or a b => (40, [a.toNat, b.toNat])
  | .ori a b c => (41, [a.toNat, b.toNat, c.toNat])
  | .tst a b => (42, [a.toNat, b.toNat])
  | .xor a b => (43, [a.toNat, b.toNat])
  | .xori a b c => (44, [a.toNat, b.toNat, c.toNat])
  | .bcondF1 a b => (45, [a.toNat, b.toNat])
  | .bcondF2 a b => (46, [a.toNat, b.toNat])
  | .jarlF1 a b => (47, [a.toNat, b.toNat])
  | .jarlF2 a b => (48, [a.toNat, b.toNat])
  | .jarlF3 a b => (49, [a.toNat, b.toNat])
  | .jmpF1 a => (50, [a.toNat])
  | .jmpF2 a b => (51, [a.toNat, b.toNat])
  | .jrF1 a => (52, [a.toNat])
  | .jrF2 a => (53, [a.toNat])
  | .loop a b => (54, [a.toNat, b.toNat])
  | .binsF1 a b c d => (55, [a.toNat, b.toNat, c.toNat, d.toNat])
  | .binsF2 a b c d => (56, [a.toNat, b.toNat, c.toNat, d.toNat])
  | .binsF3 a b c d => (57, [a.toNat, b.toNat, c.toNat, d.toNat])
  | .bsh a b => (58, [a.toNat, b.toNat])
  | .bsw a b => (59, [a.toNat, b.toNat])
  | .clipB a b => (60, [a.toNat, b.toNat])
  | .clipBu a b => (61, [a.toNat, b.toNat])
  | .clipH a b => (62, [a.toNat, b.toNat])
  | .clipHu a b => (63, [a.toNat, b.toNat])
  | .cmovF1 a b c d => (64, [a.toNat, b.toNat, c.toNat, d.toNat])
  | .cmovF2 a b c d => (65, [a.toNat, b.toNat, c.toNat, d.toNat])
  | .hsh a b => (66, [a.toNat, b.toNat])
  | .hsw a b => (67, [a.toNat, b.toNat])
  | .rotlF1 a b c => (68, [a.toNat, b.toNat, c.toNat])
  | .rotlF2 a b c => (69, [a.toNat, b.toNat, c.toNat])
  | .sarF1 a b => (70, [a.toNat, b.toNat])
  | .sarF2 a b => (71, [a.toNat, b.toNat])
  | .sarF3 a b c => (72, [a.toNat, b.toNat, c.toNat])
  | .sasf a b => (73, [a.toNat, b.toNat])
  | .setf a b => (74, [a.toNat, b.toNat])
  | .shlF1 a b => (75, [a.toNat, b.toNat])
  | .shlF2 a b => (76, [a.toNat, b.toNat])
  | .shlF3 a b c => (77, [a.toNat, b.toNat, c.toNat])
  | .shrF1 a b => (78, [a.toNat, b.toNat])
  | .shrF2 a b => (79, [a.toNat, b.toNat])
  | .shrF3 a b c => (80, [a.toNat, b.toNat, c.toNat])
  | .sxb a => (81, [a.toNat])
  | .sxh a => (82, [a.toNat])
  | .zxb a => (83, [a.toNat])
  | .zxh a => (84, [a.toNat])
  | .sch0l a b => (85, [a.toNat, b.toNat])
  | .sch0r a b => (86, [a.toNat, b.toNat])
  | .sch1l a b => (87, [a.toNat, b.toNat])
  | .sch1r a b => (88, [a.toNat, b.toNat])
  | .clr1F1 a b c => (89, [a.toNat, b.toNat, c.toNat])
  | .clr1F2 a b => (90, [a.toNat, b.toNat])
  | .not1F1 a b c => (91, [a.toNat, b.toNat, c.toNat])
  | .not1F2 a b => (92, [a.toNat, b.toNat])
  | .set1F1 a b c => (93, [a.toNat, b.toNat, c.toNat])
  | .set1F2 a b => (94, [a.toNat, b.toNat])
  | .tst1F1 a b c => (95, [a.toNat, b.toNat, c.toNat])
  | .tst1F2 a b => (96, [a.toNat, b.toNat])
  | .ldBF1 a b c => (97, [a.toNat, b.toNat, c.toNat])
  | .ldBF2 a b c => (98, [a.toNat, b.toNat, c.toNat])
  | .ldBF3 a b => (99, [a.toNat, b.toNat])
  | .ldBF4 a b => (100, [a.toNat, b.toNat])
  | .ldBuF1 a b c => (101, [a.toNat, b.toNat, c.toNat])
  | .ldBuF2 a b c => (102, [a.toNat, b.toNat, c.toNat])
  | .ldBuF3 a b => (103, [a.toNat, b.toNat])
  | .ldBuF4 a b => (104, [a.toNat, b.toNat])
  | .ldDw a b c => (105, [a.toNat, b.toNat, c.toNat])
  | .ldHF1 a b c => (106, [a.toNat, b.toNat, c.toNat])
  | .ldHF2 a b c => (107, [a.toNat, b.toNat, c.toNat])
  | .ldHF3 a b => (108, [a.toNat, b.toNat])
  | .ldHF4 a b => (109, [a.toNat, b.toNat])
  | .ldHuF1 a b c => (110, [a.toNat, b.toNat, c.toNat])
  | .ldHuF2 a b c => (111, [a.toNat, b.toNat, c.toNat])
  | .ldHuF3 a b => (112, [a.toNat, b.toNat])
  | .ldHuF4 a b => (113, [a.toNat, b.toNat])
  | .ldWF1 a b c => (114, [a.toNat, b.toNat, c.toNat])
  | .ldWF2 a b c => (115, [a.toNat, b.toNat, c.toNat])
  | .ldWF3 a b => (116, [a.toNat, b.toNat])
  | .ldWF4 a b => (117, [a.toNat, b.toNat])
  | .sldB a b => (118, [a.toNat, b.toNat])
  | .sldBu a b => (119, [a.toNat, b.toNat])
  | .sldH a b => (120, [a.toNat, b.toNat])
  | .sldHu a b => (121, [a.toNat, b.toNat])
  | .sldW a b => (122, [a.toNat, b.toNat])
  | .stBF1 a b c => (123, [a.toNat, b.toNat, c.toNat])
  | .stBF2 a b c => (124, [a.toNat, b.toNat, c.toNat])
  | .stBF3 a b => (125, [a.toNat, b.toNat])
  | .stBF4 a b => (126, [a.toNat, b.toNat])
  | .stDw a b c => (127, [a.toNat, b.toNat, c.toNat])
  | .stHF1 a b c => (128, [a.toNat, b.toNat, c.toNat])
  | .stHF2 a b c => (129, [a.toNat, b.toNat, c.toNat])
  | .stHF3 a b => (130, [a.toNat, b.toNat])
  | .stHF4 a b => (131, [a.toNat, b.toNat])
  | .stWF1 a b c => (132, [a.toNat, b.toNat, c.toNat])
  | .stWF2 a b c => (133, [a.toNat, b.toNat, c.toNat])
  | .stWF3 a b => (134, [a.toNat, b.toNat])
  | .stWF4 a b => (135, [a.toNat, b.toNat])
  | .sstB a b => (136, [a.toNat, b.toNat])
  | .sstH a b => (137, [a.toNat, b.toNat])
  | .sstW a b => (138, [a.toNat, b.toNat])
  | .callt a => (139, [a.toNat])
  | .ctret => (140, [])
  | .switch a => (141, [a.toNat])
  | .prepareF1 a b => (142, [a.toNat, b.toNat])
  | .prepareF2a a b => (143, [a.toNat, b.toNat])
  | .prepareF2b a b c => (144, [a.toNat, b.toNat, c.toNat])
  | .prepareF2c a b c => (145, [a.toNat, b.toNat, c.toNat])
  | .prepareF2d a b c => (146, [a.toNat, b.toNat, c.toNat])
  | .disposeF1 a b => (147, [a.toNat, b.toNat])
  | .disposeF2 a b c => (148, [a.toNat, b.toNat, c.toNat])
  | .pushsp a b => (149, [a.toNat, b.toNat])
  | .popsp a b => (150, [a.toNat, b.toNat])
  | .caxi a b c => (151, [a.toNat, b.toNat, c.toNat])
  | .cll => (152, [])
  | .ldlBu a b => (153, [a.toNat, b.toNat])
  | .ldlHu a b => (154, [a.toNat, b.toNat])
  | .ldlW a b => (155, [a.toNat, b.toNat])
  | .stcB a b => (156, [a.toNat, b.toNat])
  | .stcH a b => (157, [a.toNat, b.toNat])
  | .stcW a b => (158, [a.toNat, b.toNat])
  | .nop => (159, [])
  | .rieF1 => (160, [])
  | .rieF2 a b => (161, [a.toNat, b.toNat])
  | .di => (162, [])
  | .ei => (163, [])
  | .eiret => (164, [])
  | .feret => (165, [])
  | .fetrap a => (166, [a.toNat])
  | .trap a => (167, [a.toNat])
  | .syscall a => (168, [a.toNat])
  | .halt => (169, [])
  | .snooze => (170, [])
  | .ldsr a b c => (171, [a.toNat, b.toNat, c.toNat])
  | .stsr a b c => (172, [a.toNat, b.toNat, c.toNat])
  | .ldmMp a b c => (173, [a.toNat, b.toNat, c.toNat])
  | .stmMp a b c => (174, [a.toNat, b.toNat, c.toNat])
  | .resbank => (175, [])
  | .synce => (176, [])
  | .synci => (177, [])
  | .syncm => (178, [])
  | .syncp => (179, [])
  | .cache a b => (180, [a.toNat, b.toNat])
  | .pref a b => (181, [a.toNat, b.toNat])
  | .absfD a b => (182, [a.toNat, b.toNat])
  | .absfS a b => (183, [a.toNat, b.toNat])
  | .negfD a b => (184, [a.toNat, b.toNat])
  | .negfS a b => (185, [a.toNat, b.toNat])
  | .addfD a b c => (186, [a.toNat, b.toNat, c.toNat])
  | .addfS a b c => (187, [a.toNat, b.toNat, c.toNat])
  | .subfD a b c => (188, [a.toNat, b.toNat, c.toNat])
  | .subfS a b c => (189, [a.toNat, b.toNat, c.toNat])
  | .mulfD a b c => (190, [a.toNat, b.toNat, c.toNat])
  | .mulfS a b c => (191, [a.toNat, b.toNat, c.toNat])
  | .divfD a b c => (192, [a.toNat, b.toNat, c.toNat])
  | .divfS a b c => (193, [a.toNat, b.toNat, c.toNat])
  | .maxfD a b c => (194, [a.toNat, b.toNat, c.toNat])
  | .maxfS a b c => (195, [a.toNat, b.toNat, c.toNat])
  | .minfD a b c => (196, [a.toNat, b.toNat, c.toNat])
  | .minfS a b c => (197, [a.toNat, b.toNat, c.toNat])
  | .sqrtfD a b => (198, [a.toNat, b.toNat])
  | .sqrtfS a b => (199, [a.toNat, b.toNat])
  | .recipfD a b => (200, [a.toNat, b.toNat])
  | .recipfS a b => (201, [a.toNat, b.toNat])
  | .rsqrtfD a b => (202, [a.toNat, b.toNat])
  | .rsqrtfS a b => (203, [a.toNat, b.toNat])
  | .fmafS a b c => (204, [a.toNat, b.toNat, c.toNat])
  | .fmsfS a b c => (205, [a.toNat, b.toNat, c.toNat])
  | .fnmafS a b c => (206, [a.toNat, b.toNat, c.toNat])
  | .fnmsfS a b c => (207, [a.toNat, b.toNat, c.toNat])
  | .cmpfD a b c d => (208, [a.toNat, b.toNat, c.toNat, d.toNat])
  | .cmpfS a b c d => (209, [a.toNat, b.toNat, c.toNat, d.toNat])
  | .cmovfD a b c d => (210, [a.toNat, b.toNat, c.toNat, d.toNat])
  | .cmovfS a b c d => (211, [a.toNat, b.toNat, c.toNat, d.toNat])
  | .trfsr a => (212, [a.toNat])
  | .ceilfDl a b => (213, [a.toNat, b.toNat])
  | .ceilfDul a b => (214, [a.toNat, b.toNat])
  | .ceilfDuw a b => (215, [a.toNat, b.toNat])
  | .ceilfDw a b => (216, [a.toNat, b.toNat])
  | .ceilfSl a b => (217, [a.toNat, b.toNat])
  | .ceilfSul a b => (218, [a.toNat, b.toNat])
  | .ceilfSuw a b => (219, [a.toNat, b.toNat])
  | .ceilfSw a b => (220, [a.toNat, b.toNat])
  | .floorfDl a b => (221, [a.toNat, b.toNat])
  | .floorfDul a b => (222, [a.toNat, b.toNat])
  | .floorfDuw a b => (223, [a.toNat, b.toNat])
  | .floorfDw a b => (224, [a.toNat, b.toNat])
  | .floorfSl a b => (225, [a.toNat, b.toNat])
  | .floorfSul a b => (226, [a.toNat, b.toNat])
  | .floorfSuw a b => (227, [a.toNat, b.toNat])
  | .floorfSw a b => (228, [a.toNat, b.toNat])
  | .roundfDl a b => (229, [a.toNat, b.toNat])
  | .roundfDul a b => (230, [a.toNat, b.toNat])
  | .roundfDuw a b => (231, [a.toNat, b.toNat])
  | .roundfDw a b => (232, [a.toNat, b.toNat])
  | .roundfSl a b => (233, [a.toNat, b.toNat])
  | .roundfSul a b => (234, [a.toNat, b.toNat])
  | .roundfSuw a b => (235, [a.toNat, b.toNat])
  | .roundfSw a b => (236, [a.toNat, b.toNat])
  | .trncfDl a b => (237, [a.toNat, b.toNat])
  | .trncfDul a b => (238, [a.toNat, b.toNat])
  | .trncfDuw a b => (239, [a.toNat, b.toNat])
  | .trncfDw a b => (240, [a.toNat, b.toNat])
  | .trncfSl a b => (241, [a.toNat, b.toNat])
  | .trncfSul a b => (242, [a.toNat, b.toNat])
  | .trncfSuw a b => (243, [a.toNat, b.toNat])
  | .trncfSw a b => (244, [a.toNat, b.toNat])
  | .cvtfDl a b => (245, [a.toNat, b.toNat])
  | .cvtfDul a b => (246, [a.toNat, b.toNat])
  | .cvtfDuw a b => (247, [a.toNat, b.toNat])
  | .cvtfDw a b => (248, [a.toNat, b.toNat])
  | .cvtfSl a b => (249, [a.toNat, b.toNat])
  | .cvtfSul a b => (250, [a.toNat, b.toNat])
  | .cvtfSuw a b => (251, [a.toNat, b.toNat])
  | .cvtfSw a b => (252, [a.toNat, b.toNat])
  | .cvtfDs a b => (253, [a.toNat, b.toNat])
  | .cvtfHs a b => (254, [a.toNat, b.toNat])
  | .cvtfLd a b => (255, [a.toNat, b.toNat])
  | .cvtfLs a b => (256, [a.toNat, b.toNat])
  | .cvtfSd a b => (257, [a.toNat, b.toNat])
  | .cvtfSh a b => (258, [a.toNat, b.toNat])
  | .cvtfUld a b => (259, [a.toNat, b.toNat])
  | .cvtfUls a b => (260, [a.toNat, b.toNat])
  | .cvtfUwd a b => (261, [a.toNat, b.toNat])
  | .cvtfUws a b => (262, [a.toNat, b.toNat])
  | .cvtfWd a b => (263, [a.toNat, b.toNat])
  | .cvtfWs a b => (264, [a.toNat, b.toNat])
  | .movvW4 a b => (265, [a.toNat, b.toNat])
  | .flpvS4 a b c => (266, [a.toNat, b.toNat, c.toNat])
  | .shflvW4 a b c d => (267, [a.toNat, b.toNat, c.toNat, d.toNat])
  | .ldvW a b c d => (268, [a.toNat, b.toNat, c.toNat, d.toNat])
  | .ldvDw a b c d => (269, [a.toNat, b.toNat, c.toNat, d.toNat])
  | .ldvQw a b c => (270, [a.toNat, b.toNat, c.toNat])
  | .ldvzH4 a b c => (271, [a.toNat, b.toNat, c.toNat])
  | .stvW a b c d => (272, [a.toNat, b.toNat, c.toNat, d.toNat])
  | .stvDw a b c d => (273, [a.toNat, b.toNat, c.toNat, d.toNat])
  | .stvQw a b c => (274, [a.toNat, b.toNat, c.toNat])
  | .stvzH4 a b c => (275, [a.toNat, b.toNat, c.toNat])
  | .cmovfW4 a b c d => (276, [a.toNat, b.toNat, c.toNat, d.toNat])
  | .trfsrvW4 a b => (277, [a.toNat, b.toNat])
  | .cmpfS4 a b c d => (278, [a.toNat, b.toNat, c.toNat, d.toNat])
  | .absfS4 a b => (279, [a.toNat, b.toNat])
  | .negfS4 a b => (280, [a.toNat, b.toNat])
  | .addfS4 a b c => (281, [a.toNat, b.toNat, c.toNat])
  | .subfS4 a b c => (282, [a.toNat, b.toNat, c.toNat])
  | .mulfS4 a b c => (283, [a.toNat, b.toNat, c.toNat])
  | .divfS4 a b c => (284, [a.toNat, b.toNat, c.toNat])
  | .maxfS4 a b c => (285, [a.toNat, b.toNat, c.toNat])
  | .minfS4 a b c => (286, [a.toNat, b.toNat, c.toNat])
  | .sqrtfS4 a b => (287, [a.toNat, b.toNat])
  | .recipfS4 a b => (288, [a.toNat, b.toNat])
  | .rsqrtfS4 a b => (289, [a.toNat, b.toNat])
  | .fmafS4 a b c => (290, [a.toNat, b.toNat, c.toNat])
  | .fmsfS4 a b c => (291, [a.toNat, b.toNat, c.toNat])
  | .fnmafS4 a b c => (292, [a.toNat, b.toNat, c.toNat])
  | .fnmsfS4 a b c => (293, [a.toNat, b.toNat, c.toNat])
  | .roundfSw4 a b => (294, [a.toNat, b.toNat])
  | .roundfSuw4 a b => (295, [a.toNat, b.toNat])
  | .trncfSw4 a b => (296, [a.toNat, b.toNat])
  | .trncfSuw4 a b => (297, [a.toNat, b.toNat])
  | .ceilfSw4 a b => (298, [a.toNat, b.toNat])
  | .ceilfSuw4 a b => (299, [a.toNat, b.toNat])
  | .floorfSw4 a b => (300, [a.toNat, b.toNat])
  | .floorfSuw4 a b => (301, [a.toNat, b.toNat])
  | .cvtfSw4 a b => (302, [a.toNat, b.toNat])
  | .cvtfSuw4 a b => (303, [a.toNat, b.toNat])
  | .cvtfWs4 a b => (304, [a.toNat, b.toNat])
  | .cvtfUws4 a b => (305, [a.toNat, b.toNat])
  | .cvtfHs4 a b => (306, [a.toNat, b.toNat])
  | .cvtfSh4 a b => (307, [a.toNat, b.toNat])
  | .addsubfS4 a b c => (308, [a.toNat, b.toNat, c.toNat])
  | .subaddfS4 a b c => (309, [a.toNat, b.toNat, c.toNat])
  | .addsubnfS4 a b c => (310, [a.toNat, b.toNat, c.toNat])
  | .subaddnfS4 a b c => (311, [a.toNat, b.toNat, c.toNat])
  | .addxfS4 a b c => (312, [a.toNat, b.toNat, c.toNat])
  | .subxfS4 a b c => (313, [a.toNat, b.toNat, c.toNat])
  | .mulxfS4 a b c => (314, [a.toNat, b.toNat, c.toNat])
  | .addsubxfS4 a b c => (315, [a.toNat, b.toNat, c.toNat])
  | .subaddxfS4 a b c => (316, [a.toNat, b.toNat, c.toNat])
  | .addsubnxfS4 a b c => (317, [a.toNat, b.toNat, c.toNat])
  | .subaddnxfS4 a b c => (318, [a.toNat, b.toNat, c.toNat])
  | .addrfS4 a b c => (319, [a.toNat, b.toNat, c.toNat])
  | .subrfS4 a b c => (320, [a.toNat, b.toNat, c.toNat])
  | .mulrfS4 a b c => (321, [a.toNat, b.toNat, c.toNat])
  | .maxrfS4 a b c => (322, [a.toNat, b.toNat, c.toNat])
  | .minrfS4 a b c => (323, [a.toNat, b.toNat, c.toNat])
  | .hvtrap a => (1000, [a.toNat])
  | .ldmGsr a => (1000, [a.toNat])
  | .stmGsr a => (1000, [a.toNat])

/-- The word matches a lost encoding that the product supplies (R324). -/
def EncPat.owns (p : EncPat) (w : Nat) : Bool := (w &&& p.mask) == p.mtch

/-- The 5-bit field of a lost encoding. -/
def EncPat.field (p : EncPat) (w : Nat) : Nat := fieldBits w (p.lo + 4) p.lo

/-- A lost encoding with its field set. -/
def EncPat.word (p : EncPat) (v : Nat) : Nat := p.mtch + v <<< p.lo

/-- The three instructions of R324, read by the patterns the product supplies; consulted after the table, which no pattern may
overlap (92_eei_decisions.md D15). -/
def decodeLost (e : Enc) (w : Nat) : Option Instr :=
  match e.hvtrap.filter (·.owns w) with
  | some p => some (.hvtrap (.ofNat _ (p.field w)))
  | none =>
    match e.ldmGsr.filter (·.owns w) with
    | some p => some (.ldmGsr (.ofNat _ (p.field w)))
    | none =>
      match e.stmGsr.filter (·.owns w) with
      | some p => some (.stmGsr (.ofNat _ (p.field w)))
      | none => none

/-- The instruction that owns a word, if any (R318, R319). -/
def decodeWord (e : Enc) (w : Nat) : Option Instr :=
  match (opRows e).find? (·.owns w) with
  | some r => r.build (r.operands w)
  | none => decodeLost e w

/-- R301: the length in bytes, from the first two halfwords. PREPARE form (1) has hw2[4:0] = 00001, as the comment of R301 says; the
test hw2[2:0] = 001 printed beside it would cut LD.W and LD.DW with disp23 (01001) to four bytes, against the lengths the opcode
table gives them (R456, R453). DEDUCED (notes/assumptions/46.md). -/
def instrLength (hw1 hw2 : Nat) : Nat :=
  let op := fieldBits hw1 10 5
  let r2 := fieldBits hw1 15 11
  if op / 16 != 3 then
    if r2 == 0 && op == 0x17 then 6 else 2
  else if r2 == 0 && op == 0x31 then 6
  else if r2 == 0 && op == 0x37 then
    if hw2 % 2 == 0 then 6 else 4
  else if r2 == 0 && fieldBits hw1 10 6 == 0x1E && hw2 % 2 == 1 then
    if hw2 % 32 == 1 then 4
    else if hw2 % 8 == 3 then
      match fieldBits hw2 4 3 with
      | 0 => 4
      | 3 => 8
      | _ => 6
    else 6
  else 4

/-- Whether the length depends on the second halfword: every instruction of two halfwords or more (R301). -/
def needsSecondHalf (hw1 : Nat) : Bool :=
  fieldBits hw1 10 5 / 16 == 3 || (fieldBits hw1 15 11 == 0 && fieldBits hw1 10 5 == 0x17)

/-- The coprocessor that owns an encoding (R317). -/
inductive Coproc where
  | fpu
  | fxu
  | reserved
deriving DecidableEq, Repr

/-- R317, R581: the coprocessor whose opcode area holds a word, defined or not. -/
def coprocArea (w : Nat) : Option Coproc :=
  if fieldBits w 10 5 == 0x3F && fieldBits w 26 26 == 1 && fieldBits w 16 16 == 0 then
    match fieldBits w 25 23 with
    | 0 => some .fpu
    | 1 => if fieldBits w 22 21 == 2 then some .fxu else some .fpu
    | 3 => some .fxu
    | _ => some .reserved
  else if fieldBits w 15 5 == 0x3D && fieldBits w 20 16 == 0x1D then some .fxu
  else none

/-- What the decoder answers on bytes. -/
inductive Decoded where
  /-- An instruction, its length in bytes, and the bytes after it. -/
  | instr (i : Instr) (len : Nat) (rest : List Byte)
  /-- The bytes end before the instruction does. -/
  | truncated
  /-- No instruction owns the encoding (R319). -/
  | undefined (w : Nat)
deriving DecidableEq, Repr

/-- A little-endian number from bytes, the first byte lowest (20_memory.md R200). -/
def natOfBytes : List Byte → Nat
  | [] => 0
  | b :: bs => b.toNat + 256 * natOfBytes bs

/-- The first `n` bytes of a number, the lowest first. -/
def bytesOfNat : Nat → Nat → List Byte
  | 0, _ => []
  | n + 1, v => .ofNat 8 v :: bytesOfNat n (v / 256)

/-- Decodes the instruction at the head of a list of bytes (R300, R301, R319). -/
def decodeBytes (e : Enc) (bs : List Byte) : Decoded :=
  let hw1 := natOfBytes (bs.take 2)
  let hw2 := natOfBytes ((bs.drop 2).take 2)
  let n := instrLength hw1 hw2
  if bs.length < 2 || (needsSecondHalf hw1 && bs.length < 4) || bs.length < n then .truncated
  else
    let w := natOfBytes (bs.take n)
    match decodeWord e w with
    | some i => .instr i n (bs.drop n)
    | none => .undefined w

/-- The host's view of the decoder: the instruction read from a word of `nbits` bits, the bits above being 0. -/
def decodeTableWord (nbits w : Nat) : Option Instr :=
  match decodeBytes Enc.default (bytesOfNat 8 (w % 2 ^ nbits)) with
  | .instr i _ _ => some i
  | _ => none

/-! ## The encoder -/

/-- The word and the length of an instruction, written from the rows of the table; `none` for an encoding that is lost and not
supplied (R324). -/
def encodeWord (e : Enc) (i : Instr) : Option (Nat × Nat) :=
  match i with
  | .hvtrap v => e.hvtrap.map fun p => (p.word v.toNat, 4)
  | .ldmGsr r => e.ldmGsr.map fun p => (p.word r.toNat, 4)
  | .stmGsr r => e.stmGsr.map fun p => (p.word r.toNat, 4)
  | i => (opRows e)[i.parts.1]?.map fun r => (r.word i.parts.2, r.len)

/-- The bytes of an instruction, the first halfword at the lowest address, each halfword little-endian (R300). -/
def encodeBytes (e : Enc) (i : Instr) : Option (List Byte) :=
  (encodeWord e i).map fun p => bytesOfNat p.2 p.1

end

end Sys2Proof
end

