-- ==== Sys2Proof/Machine/Flags.lean ====
section
/-!
DEFINITION. Bit-field helpers and the flag computations of the integer instructions (40_arith_logic.md R350 to R353, 10_state.md
R27): every result is computed exactly on integers and then narrowed.
-/

namespace Sys2Proof.Machine

/-- A word with one bit replaced. -/
def putBit (w : Word) (i : Nat) (b : Bool) : Word :=
  if b then w ||| BitVec.twoPow 32 i else w &&& ~~~ BitVec.twoPow 32 i

/-- A word whose bits under `mask` are replaced by those of `v`. -/
def putMasked (w mask v : Word) : Word := (w &&& ~~~ mask) ||| (v &&& mask)

/-- The four flags an arithmetic instruction computes (10_state.md R27). -/
structure Flags where
  cy : Bool
  ov : Bool
  s : Bool
  z : Bool
deriving DecidableEq, Repr

/-- Bits 3-0 of the PSW: CY 3, OV 2, S 1, Z 0 (10_state.md R26). -/
def Flags.bits (f : Flags) : Word :=
  (BitVec.ofBool f.cy ++ BitVec.ofBool f.ov ++ BitVec.ofBool f.s ++ BitVec.ofBool f.z).setWidth 32

/-- S and Z of a 32-bit result. -/
def signFlag (r : Word) : Bool := r.msb
def zeroFlag (r : Word) : Bool := r == 0

/-- A result outside the signed 32-bit range. -/
def outOfRange (x : Int) : Bool := decide (x < -2 ^ 31) || decide (2 ^ 31 ≤ x)

/-- R350: AddF(a, b, c), the sum with carry-in and its flags. -/
def addF (a b : Word) (c : Bool) : Word × Flags :=
  let r := a + b + (BitVec.ofBool c).setWidth 32
  (r, ⟨decide (2 ^ 32 ≤ a.toNat + b.toNat + c.toNat), outOfRange (a.toInt + b.toInt + c.toNat), signFlag r, zeroFlag r⟩)

/-- R351: SubF(a, b, c), the difference with borrow-in and its flags. -/
def subF (a b : Word) (c : Bool) : Word × Flags :=
  let r := a - b - (BitVec.ofBool c).setWidth 32
  (r, ⟨decide (a.toNat < b.toNat + c.toNat), outOfRange (a.toInt - b.toInt - c.toNat), signFlag r, zeroFlag r⟩)

/-- R353: Sat(v), an exact integer brought into the signed 32-bit range. -/
def satWord (v : Int) : Word :=
  if 2 ^ 31 ≤ v then 0x7FFFFFFF else if v < -2 ^ 31 then 0x80000000 else BitVec.ofInt 32 v

/-- The flags of a saturating instruction (R371): CY and OV of the unsaturated sum or difference, S and Z of the result. -/
def satFlags (f : Flags) (r : Word) : Flags := ⟨f.cy, f.ov, signFlag r, zeroFlag r⟩

/-- R352: the flags of a logical result; CY is not written by the instructions that use them. -/
def logFlags (r : Word) : Flags := ⟨false, false, signFlag r, zeroFlag r⟩

/-- The flags of a shift (R416, R419, R420): CY is the last bit shifted out, OV is 0. -/
def shiftFlags (cy : Bool) (r : Word) : Flags := ⟨cy, false, signFlag r, zeroFlag r⟩

/-- R419: a logical shift left by `n` (0 to 31) and its flags. -/
def shlF (v : Word) (n : Nat) : Word × Flags :=
  let r := v <<< n
  (r, shiftFlags (decide (0 < n) && v.getLsbD (32 - n)) r)

/-- R420: a logical shift right by `n` (0 to 31) and its flags. -/
def shrF (v : Word) (n : Nat) : Word × Flags :=
  let r := v >>> n
  (r, shiftFlags (decide (0 < n) && v.getLsbD (n - 1)) r)

/-- R416: an arithmetic shift right by `n` (0 to 31) and its flags. -/
def sarF (v : Word) (n : Nat) : Word × Flags :=
  let r := v.sshiftRight n
  (r, shiftFlags (decide (0 < n) && v.getLsbD (n - 1)) r)

/-- R415: a rotation left by `n` (0 to 31) and its flags; a rotation by 0 gives CY = 0 (92_eei_decisions.md D16). -/
def rotlF (v : Word) (n : Nat) : Word × Flags :=
  let r := v <<< n ||| v >>> (32 - n)
  (r, shiftFlags (decide (0 < n) && r.getLsbD 0) r)

/-- The quotient and remainder of a division with their flags OV, S and Z; `none`: the quotient is not stored (R364 (b)). -/
structure Division where
  quotient : Option Word
  remainder : Word
  flags : Flags
deriving DecidableEq, Repr

/-- R365: signed division, the quotient truncated toward zero. -/
def divideSigned (a b : Int) : Division :=
  if b = 0 then ⟨none, 0, ⟨false, true, false, false⟩⟩
  else if a = -2 ^ 31 ∧ b = -1 then ⟨some 0x80000000, 0, ⟨false, true, true, false⟩⟩
  else
    let q := a.tdiv b
    ⟨some (BitVec.ofInt 32 q), BitVec.ofInt 32 (a - q * b), ⟨false, false, decide (q < 0), decide (q = 0)⟩⟩

/-- R370: unsigned division. -/
def divideUnsigned (a b : Nat) : Division :=
  if b = 0 then ⟨none, 0, ⟨false, true, false, false⟩⟩
  else
    let q := BitVec.ofNat 32 (a / b)
    ⟨some q, BitVec.ofNat 32 (a % b), ⟨false, false, signFlag q, zeroFlag q⟩⟩

end Sys2Proof.Machine
end

