-- ==== Sys2Proof/Machine/State.lean ====
section
/-!
DEFINITION. The machine's state as plain data: every piece of architectural state the spec names (10_state.md, 11_sysregs.md,
21_mpu.md), the environment's inputs and the CPU's outputs (60_exceptions.md R830), and the state after reset
(70_reset_and_hazards.md R930, R931). INVENTORY.md lists each field with its rule and its reset value.
-/

namespace Sys2Proof.Machine

/-- Why a step stops with a fault. There is no such reason: every exception of the spec is taken, every value that it leaves undefined is
free, and an access to a reserved address raises SYSERR (93_implementation_defined.md U2). -/
inductive Fault where
deriving DecidableEq, Repr

/-- Why a step has no meaning here. -/
inductive Refusal where
  /-- The instruction has no meaning in this model yet; `mnemonic` is its name in the opcode table. No meaning answers with it. Safe. -/
  | notModelled (mnemonic : String)
deriving DecidableEq, Repr

/-- One context's copy of the twenty multiplexed system registers (11_sysregs.md R122, 61_virtualization.md R885). -/
structure Ctx where
  eipc : Word
  eipsw : Word
  fepc : Word
  fepsw : Word
  psw : Word
  eiic : Word
  feic : Word
  eiwr : Word
  fewr : Word
  spid : Word
  spidlist : Word
  ebase : Word
  intbp : Word
  svlock : Word
  peid : Word
  mea : Word
  mei : Word
  intcfg : Word
  plmr : Word
  mpm : Word
deriving DecidableEq, Repr

/-- The system registers that exist once (11_sysregs.md R195, 10_state.md R35), but for the MPU and the counters. The read-only
registers whose value the product fixes (RBASE, PID, BMID, FXINFO) are in `State.prod`. -/
structure SysRegs where
  pswh : Word
  eipswh : Word
  fepswh : Word
  ctpc : Word
  ctpsw : Word
  ctbp : Word
  snzcfg : Word
  mctl : Word
  sccfg : Word
  scbp : Word
  hvcfg : Word
  gmcfg : Word
  hvsb : Word
  ispr : Word
  rbcr0 : Word
  rbcr1 : Word
  rbnr : Word
  rbip : Word
  dbgen : Word
  fpsr : Word
  fpepc : Word
  fxsr : Word
  fxxc : Word
  fxxp : Word
  ictagl : Word
  ictagh : Word
  icdatl : Word
  icdath : Word
  icctrl : Word
  iccfg : Word
  icerr : Word
  lscfg : Word
  l1rcfg : Word
  rdbcr : Word
deriving DecidableEq, Repr

/-- One MPU entry: MPLA, MPUA, MPAT (21_mpu.md R255). -/
structure MpuEntry where
  mpla : Word
  mpua : Word
  mpat : Word
deriving DecidableEq, Repr

/-- The MPU registers that exist once (21_mpu.md R250) and the entry file of both banks. -/
structure Mpu where
  mpcfg : Word
  mca : Word
  mcs : Word
  mcr : Word
  mci : Word
  mpidx : Word
  mpbk : Word
  mpid : Vector Word 8
  bank0 : Vector MpuEntry 32
  bank1 : Vector MpuEntry 32
deriving DecidableEq, Repr

/-- The timestamp counter and the performance counters (11_sysregs.md R150 to R157). -/
structure Counters where
  tscount : DWord
  tsctrl : Word
  pmumctrl : Word
  pmgmctrl : Word
  pmctrl : Vector Word 8
  pmcount : Vector Word 8
  pmsubcnd : Vector Word 8
deriving DecidableEq, Repr

/-- The link of LDL and STC (43_special_stack_atomic.md R518): LLbit, LLadr, LLsize in bytes. -/
structure Link where
  bit : Bool
  adr : Word
  size : Nat
deriving DecidableEq, Repr

/-- Whether the core runs (44_system.md R538, R539); a SNOOZE holds the number of steps left. -/
inductive Halt where
  | running
  | halted
  | snoozing (left : Nat)
deriving DecidableEq, Repr

/-- The context whose registers are in use: conventional and host mode, or guest mode (10_state.md R25). -/
inductive Mode where
  | host
  | guest
deriving DecidableEq, Repr

/-- A request on the FEINT input: its channel, the guest partition it is bound to (`none`: bound to host mode), and whether the
controller allows it as a background interrupt (60_exceptions.md R830). -/
structure FeRequest where
  channel : BitVec 4
  guest : Option (BitVec 3)
  background : Bool
deriving DecidableEq, Repr

/-- A request on the EIINT input (60_exceptions.md R830, 10_state.md R34 (c)); `table`: the channel selects the table reference
method; `bank`: it asks for a register bank, which the condition of 61_virtualization.md R904 does not read
(notes/assumptions/51.md). -/
structure EiRequest where
  channel : BitVec 11
  prio : BitVec 6
  table : Bool
  bank : Bool
  guest : Option (BitVec 3)
  background : Bool
deriving DecidableEq, Repr

/-- An error the environment reports for the instruction fetch of a step (60_exceptions.md R815, cause codes 11H and 13H). -/
inductive FetchError where
  | bus
  | safety
deriving DecidableEq, Repr

/-- A request on the SYSERR inputs of the bus system, terminating or pending (00_scope.md R14, 10_state.md R34 (c)): the cause code is
10H + `code` (93_implementation_defined.md U24); `guest`: it was detected during guest mode operation (70_reset_and_hazards.md
R944). -/
structure SyserrRequest where
  code : BitVec 4
  pending : Bool
  guest : Bool
deriving DecidableEq, Repr

/-- What the environment presents to a step (60_exceptions.md R830, 10_state.md R34 (c), 00_scope.md R14); `writes`: the bytes that
other bus masters and the devices of the memory map have changed since the last step, in order (20_memory.md R204, R215). -/
structure Env where
  reset : Bool
  fenmi : Bool
  fe : Option FeRequest
  ei : Option EiRequest
  syserr : Option SyserrRequest
  fetchError : Option FetchError
  linkLoss : Bool
  writes : List (Word × Byte)
deriving DecidableEq, Repr

/-- Nothing is presented. -/
def Env.none : Env := ⟨false, false, .none, .none, .none, .none, false, []⟩

/-- The interrupts by kind (60_exceptions.md R801, R831). -/
inductive IntKind where
  | fenmi
  | feint
  | eiint
  | bgfeint
  | bgeiint
  | gmfeint
  | gmeiint
deriving DecidableEq, Repr

/-- What an access carries to the bus beside its address (20_memory.md R202): the SPID, and GPID where it is made in guest mode. -/
structure AccessTag where
  spid : BitVec 5
  gpid : Option (BitVec 3)
deriving DecidableEq, Repr

/-- What a step tells the environment (60_exceptions.md R830) and the performance counters (11_sysregs.md R155). -/
inductive Event where
  /-- An interrupt was accepted. -/
  | accepted (k : IntKind)
  /-- The acknowledge response for an accepted interrupt was sent. -/
  | acknowledge (k : IntKind)
  /-- The end-of-handling notification of EIRET and FERET. -/
  | endOfHandling
  /-- A terminating SYSERR, or the MDP of the entry hardware, handled in the mode given. -/
  | terminating (hm : Mode)
  /-- A resumable exception, handled in the mode given: the instruction did not complete. -/
  | resumable (hm : Mode)
  /-- A pending exception, handled in the mode given: the instruction completed. -/
  | pending (hm : Mode)
  /-- The core read `size` bytes of which some lie in a device region (20_memory.md R202, R204). -/
  | deviceRead (tag : AccessTag) (adr : Word) (size : Nat)
  /-- The core wrote these bytes from `adr` upward, of which some lie in a device region. -/
  | deviceWrite (tag : AccessTag) (adr : Word) (data : List Byte)
deriving DecidableEq, Repr

/-- The machine's state. -/
structure State where
  /-- General-purpose registers; the slot of r0 is neither read nor written (10_state.md R20). -/
  gpr : Vector Word 32
  /-- Program counter (10_state.md R22). -/
  pc : Word
  /-- Vector registers (48_fxu.md R701). -/
  wr : Vector QWord 32
  /-- Host-context registers, the only ones in conventional mode. -/
  host : Ctx
  /-- Guest-context registers. -/
  guest : Ctx
  sys : SysRegs
  mpu : Mpu
  cnt : Counters
  link : Link
  halt : Halt
  /-- Address of the last instruction that completed, if any (70_reset_and_hazards.md R932). -/
  lastPc : Option Word
  /-- Memory: address and byte, addresses strictly rising, no byte equal to what an unlisted address reads as. -/
  mem : List Host.Cell
  /-- What the environment presents now. -/
  env : Env
  /-- What the environment will present before each of the next steps; when the list is empty, `env` stays. -/
  inputs : List Env
  /-- What the last step told the environment. -/
  out : List Event
  /-- The model's own: the counter at which free values are read. -/
  free : Nat
  /-- The product's parameters (00_scope.md R12). -/
  prod : Product
deriving DecidableEq, Repr

/-- The reset values of a context's registers (70_reset_and_hazards.md R931); zero where the spec gives none
(DESIGN CHOICE, notes/assumptions/2.md). -/
def Ctx.reset : Ctx where
  eipc := 0
  eipsw := 0x20
  fepc := 0
  fepsw := 0x20
  psw := 0x20
  eiic := 0
  feic := 0
  eiwr := 0
  fewr := 0
  spid := 0
  spidlist := 0
  ebase := 0
  intbp := 0
  svlock := 0
  peid := 0
  mea := 0
  mei := 0
  intcfg := 0x000F0000
  plmr := 0x10
  mpm := 0

/-- The host context after reset: PSW 00000020H, INTCFG 000F0000H, PLMR 10H; SPID, SPIDLIST and PEID from the product. -/
def Ctx.resetHost (p : Product) : Ctx :=
  { Ctx.reset with spid := p.spidReset.setWidth 32, spidlist := p.spidlist, peid := p.peid.setWidth 32 }

/-- The guest context after reset: GMPSW.EBV and GMINTCFG.EPL read 1 (11_sysregs.md R124, R128). -/
def Ctx.resetGuest : Ctx := { Ctx.reset with psw := 0x8020, intcfg := 0x000F0002 }

/-- The reset values of the registers of `SysRegs` (70_reset_and_hazards.md R931). HVCFG.HVE is fixed 0 on a core whose PID is not
07H or has HV = 0 (11_sysregs.md R103). -/
def SysRegs.reset (p : Product) : SysRegs where
  pswh := 0
  eipswh := 0
  fepswh := 0
  ctpc := 0
  ctpsw := 0
  ctbp := 0
  snzcfg := p.snzcfgReset.setWidth 32
  mctl := 0
  sccfg := 0
  scbp := 0
  hvcfg := if p.hveReset && p.pid.extractLsb' 24 8 == 7 && p.pid.getLsbD 23 then 1 else 0
  gmcfg := 0
  hvsb := 0
  ispr := 0
  rbcr0 := 0
  rbcr1 := p.rbcr1Reset.setWidth 32
  rbnr := 0
  rbip := 0
  dbgen := p.dbgenReset.setWidth 32
  fpsr := (p.fpsrReset &&& 0xFFCEFFFF) ||| 0x00200000
  fpepc := 0
  fxsr := (p.fxsrReset &&& 0x00CEFFFF) ||| 0x00200000
  fxxc := 0
  fxxp := 0
  ictagl := 0
  ictagh := 0
  icdatl := 0
  icdath := 0
  icctrl := p.icctrlReset
  iccfg := p.iccfg
  icerr := 0
  lscfg := p.lscfg
  l1rcfg := p.l1rcfg
  rdbcr := p.rdbcr

/-- The MPU after reset: MPCFG 0002001FH (with NBK of the product), every entry with E = 0 (21_mpu.md R251, R255). -/
def Mpu.reset (p : Product) : Mpu where
  mpcfg := if p.mpuTwoBanks then 0x0012001F else 0x0002001F
  mca := 0
  mcs := 0
  mcr := 0
  mci := 0
  mpidx := 0
  mpbk := 0
  mpid := .replicate 8 0
  bank0 := .replicate 32 ⟨0, 0, 0⟩
  bank1 := .replicate 32 ⟨0, 0, 0⟩

/-- The counters after reset (11_sysregs.md R150 to R157). -/
def Counters.reset : Counters where
  tscount := 0
  tsctrl := 0
  pmumctrl := 0
  pmgmctrl := 0
  pmctrl := .replicate 8 0
  pmcount := .replicate 8 0
  pmsubcnd := .replicate 8 0

/-- The reset address: RBASE31-9 with nine zero bits (70_reset_and_hazards.md R932). -/
def resetAddress (p : Product) : Word := p.rbase &&& 0xFFFFFE00

/-- The state after the first reset of a product, nothing in memory. LLbit is 0 (43_special_stack_atomic.md R518); the address and the
size of a link that is not there are 0: DESIGN CHOICE (notes/assumptions/2.md). -/
def State.resetOf (p : Product) : State where
  gpr := .replicate 32 0
  pc := resetAddress p
  wr := .replicate 32 0
  host := Ctx.resetHost p
  guest := Ctx.resetGuest
  sys := SysRegs.reset p
  mpu := Mpu.reset p
  cnt := Counters.reset
  link := ⟨false, 0, 0⟩
  halt := .running
  lastPc := none
  mem := []
  env := Env.none
  inputs := []
  out := []
  free := 0
  prod := p

/-- The machine right after reset: the first reset of the default product. -/
def State.reset : State := State.resetOf Product.default

end Sys2Proof.Machine
end

