-- ==== Sys2Proof/Machine/Memory.lean ====
section
/-!
DEFINITION. Memory as a list of (address, byte) pairs in one canonical form (20_memory.md R200 to R202): addresses strictly
rising, no byte equal to what an unlisted address reads as. Byte order is decided here, once: little-endian (R200).
-/

namespace Sys2Proof.Machine

/-- What a byte of memory that nothing has written reads as. The spec gives no initial contents.
DESIGN CHOICE, unsafe (notes/assumptions/3.md). -/
def Memory.unlisted : Byte := 0

/-- The byte at an address. -/
def Memory.read : List Host.Cell → Nat → Byte
  | [], _ => Memory.unlisted
  | (k, b) :: m, a => if a = k then b else Memory.read m a

/-- Memory with the byte at an address replaced, in canonical form. -/
def Memory.write : List Host.Cell → Nat → Byte → List Host.Cell
  | [], a, v => if v = Memory.unlisted then [] else [(a, v)]
  | (k, b) :: m, a, v =>
    if a < k then (if v = Memory.unlisted then (k, b) :: m else (a, v) :: (k, b) :: m)
    else if a = k then (if v = Memory.unlisted then m else (a, v) :: m)
    else (k, b) :: Memory.write m a v

/-- The canonical form: addresses strictly rising and inside the 2^32 bytes of R202, no byte equal to `Memory.unlisted`. -/
abbrev Memory.wf (m : List Host.Cell) : Prop :=
  m.Pairwise (fun c d => c.1 < d.1) ∧ ∀ c ∈ m, c.1 < 2 ^ 32 ∧ c.2 ≠ Memory.unlisted

/-- The memory of a state is in canonical form. -/
def State.memWf (s : State) : Prop := Memory.wf s.mem

/-- Address `b` is one of the `n` bytes at `a` (R200, R203: addresses wrap). -/
def storedBytes (a : Word) (n : Nat) (b : Word) : Prop := (b - a).toNat < n

/-- R518 (a): the linked range holds a byte (R203: addresses wrap). -/
def Link.covers (l : Link) (a : Word) : Bool := decide ((a - l.adr).toNat < l.size)

/-- R200: MemRead(a, 1). -/
def State.readByte (s : State) (a : Word) : Byte := Memory.read s.mem a.toNat

/-- R200: MemRead(a, 2), (4), (8), (16). Addresses wrap (R203). -/
def State.readHalf (s : State) (a : Word) : Half := s.readByte (a + 1) ++ s.readByte a
@[inherit_doc State.readHalf]
def State.readWord (s : State) (a : Word) : Word := s.readHalf (a + 2) ++ s.readHalf a
@[inherit_doc State.readHalf]
def State.readDWord (s : State) (a : Word) : DWord := s.readWord (a + 4) ++ s.readWord a
@[inherit_doc State.readHalf]
def State.readQWord (s : State) (a : Word) : QWord := s.readDWord (a + 8) ++ s.readDWord a

/-- R201: MemWrite(a, 1, v). -/
def State.writeByte (s : State) (a : Word) (v : Byte) : State := { s with mem := Memory.write s.mem a.toNat v }

/-- R201: MemWrite(a, 2, v), (4), (8), (16). -/
def State.writeHalf (s : State) (a : Word) (v : Half) : State :=
  (s.writeByte a (v.extractLsb' 0 8)).writeByte (a + 1) (v.extractLsb' 8 8)
@[inherit_doc State.writeHalf]
def State.writeWord (s : State) (a : Word) (v : Word) : State :=
  (s.writeHalf a (v.extractLsb' 0 16)).writeHalf (a + 2) (v.extractLsb' 16 16)
@[inherit_doc State.writeHalf]
def State.writeDWord (s : State) (a : Word) (v : DWord) : State :=
  (s.writeWord a (v.extractLsb' 0 32)).writeWord (a + 4) (v.extractLsb' 32 32)
@[inherit_doc State.writeHalf]
def State.writeQWord (s : State) (a : Word) (v : QWord) : State :=
  (s.writeDWord a (v.extractLsb' 0 64)).writeDWord (a + 8) (v.extractLsb' 64 64)

end Sys2Proof.Machine
end

