-- ==== Sys2Proof/Machine/Regs.lean ====
section
/-!
DEFINITION. The named accessors of registers, contexts, mode bits and flags. Every instruction reads and writes the state through
these.
-/

namespace Sys2Proof.Machine

/-! ## General and vector registers -/

/-- R20: x[r]; r0 reads 0. -/
def State.reg (s : State) (r : Reg) : Word := if r = 0 then 0 else s.gpr[r.toNat]

/-- R20: x[r] <- v; a write to r0 is discarded. -/
def State.setReg (s : State) (r : Reg) (v : Word) : State :=
  if r = 0 then s else { s with gpr := s.gpr.set r.toNat v }

/-- R20: the even register of a pair, and the odd one. -/
def RegPair.even (p : RegPair) : Reg := p ++ 0#1
@[inherit_doc RegPair.even]
def RegPair.odd (p : RegPair) : Reg := p ++ 1#1

/-- R20: a 64-bit operand, the even register the low word. -/
def State.regPair (s : State) (p : RegPair) : DWord := s.reg (RegPair.odd p) ++ s.reg (RegPair.even p)

/-- R20: a 64-bit result into a pair. -/
def State.setRegPair (s : State) (p : RegPair) (v : DWord) : State :=
  (s.setReg (RegPair.even p) (v.extractLsb' 0 32)).setReg (RegPair.odd p) (v.extractLsb' 32 32)

/-- R701: the vector register wr[r]. -/
def State.vreg (s : State) (r : VReg) : QWord := s.wr[r.toNat]
@[inherit_doc State.vreg]
def State.setVreg (s : State) (r : VReg) (v : QWord) : State := { s with wr := s.wr.set r.toNat v }

/-- R21: the stack pointer, the element pointer, the link pointer. -/
def sp : Reg := 3
@[inherit_doc sp]
def ep : Reg := 30
@[inherit_doc sp]
def lp : Reg := 31

/-! ## Program counter -/

/-- R22: bit 0 of pc is always 0. -/
def evenPc (a : Word) : Word := a &&& 0xFFFFFFFE

/-- R22: the end of an instruction of `n` bytes that does not branch. -/
def State.advance (s : State) (n : Nat) : State := { s with pc := evenPc (s.pc + BitVec.ofNat 32 n) }

/-- R22: a branch. -/
def State.jump (s : State) (a : Word) : State := { s with pc := evenPc a }

/-! ## Modes and contexts -/

/-- R24: HVCFG.HVE. -/
def State.hve (s : State) : Bool := s.sys.hvcfg.getLsbD 0

/-- R24: the context in use: guest mode needs HVE = 1 and PSWH.GM = 1. -/
def State.mode (s : State) : Mode := if s.hve && s.sys.pswh.getLsbD 31 then .guest else .host

/-- R24: PSWH.GPID. -/
def State.gpid (s : State) : BitVec 3 := s.sys.pswh.extractLsb' 8 3

/-- R25: a context's registers. -/
def State.ctx (s : State) : Mode → Ctx
  | .host => s.host
  | .guest => s.guest

/-- R25: a context's registers replaced. -/
def State.setCtx (s : State) (m : Mode) (c : Ctx) : State :=
  match m with
  | .host => { s with host := c }
  | .guest => { s with guest := c }

/-- R25: the registers that the bare names denote. -/
def State.cur (s : State) : Ctx := s.ctx s.mode

/-- R25: the PSW in use. -/
def State.psw (s : State) : Word := s.cur.psw

/-- The PSW in use replaced. -/
def State.setPsw (s : State) (w : Word) : State := s.setCtx s.mode { s.cur with psw := w }

/-- R24: PSW.UM. -/
def State.um (s : State) : Bool := s.psw.getLsbD 30

/-- R881: hypervisor privilege: HVE = 1, GM = 0, UM = 0. -/
def State.isHv (s : State) : Bool := s.hve && s.mode == .host && !s.um

/-- R92: the core is a RH850G4MH2 (PID bits 31-24 = 07H). -/
def State.isMh2 (s : State) : Bool := s.prod.pid.extractLsb' 24 8 == 7

/-- R103: the virtualization support function exists. -/
def State.hasHv (s : State) : Bool := s.isMh2 && s.prod.pid.getLsbD 23

/-- Bits 18-16 of PSW, the coprocessor use permissions the core can grant (R26): CU0 the FPU, CU1 the FXU, CU2 never. -/
def State.cuMask (s : State) : Word :=
  (if s.prod.hasFpu then 0x10000 else 0) ||| (if s.prod.hasFxu then 0x20000 else 0)

/-- R26: EIMASK can be other than 0 only while the context's INTCFG.EPL is 1. -/
def Ctx.eimaskMask (c : Ctx) : Word := if c.intcfg.getLsbD 1 then 0x03F00000 else 0

/-- R26, R128, R890: the writable bits of a context's PSW. -/
def State.pswMask (s : State) : Mode → Word
  | .host => 0x400080FF ||| s.host.eimaskMask ||| s.cuMask
  | .guest => 0x400000FF ||| s.guest.eimaskMask ||| (s.cuMask &&& s.sys.gmcfg)

/-- R26: a value as a context's PSW takes it: writable bits, and the fixed bits at their fixed values. -/
def State.fixPsw (s : State) (m : Mode) (v : Word) : Word :=
  (v &&& s.pswMask m) ||| (match m with | .host => 0 | .guest => 0x8000)

/-- R73: the writable bits of EIPSW and FEPSW of a context. -/
def Ctx.savedPswMask (c : Ctx) : Word := 0x400380FF ||| c.eimaskMask

/-! ## Flags -/

/-- The flags of the PSW in use (R26). -/
def State.cy (s : State) : Bool := s.psw.getLsbD 3
@[inherit_doc State.cy]
def State.ov (s : State) : Bool := s.psw.getLsbD 2
@[inherit_doc State.cy]
def State.sf (s : State) : Bool := s.psw.getLsbD 1
@[inherit_doc State.cy]
def State.zf (s : State) : Bool := s.psw.getLsbD 0
@[inherit_doc State.cy]
def State.sat (s : State) : Bool := s.psw.getLsbD 4

/-- CY, OV, S and Z replaced; the rest of the PSW is kept. -/
def State.setFlags (s : State) (f : Flags) : State := s.setPsw (putMasked s.psw 0xF f.bits)

/-- OV, S and Z replaced (R352); CY is kept. -/
def State.setFlagsNoCy (s : State) (f : Flags) : State := s.setPsw (putMasked s.psw 0x7 f.bits)

/-- Z replaced. -/
def State.setZ (s : State) (z : Bool) : State := s.setPsw (putBit s.psw 0 z)

/-- R27: SAT set when the instruction overflowed or saturated, else kept. -/
def State.setSat (s : State) (ov : Bool) : State := s.setPsw (if ov then putBit s.psw 4 true else s.psw)

/-- R29: Cond(cccc) on a PSW. -/
def condPsw (cccc : BitVec 4) (psw : Word) : Bool :=
  let cy := psw.getLsbD 3
  let ov := psw.getLsbD 2
  let s := psw.getLsbD 1
  let z := psw.getLsbD 0
  let sat := psw.getLsbD 4
  match cccc.toNat with
  | 0 => ov
  | 8 => !ov
  | 1 => cy
  | 9 => !cy
  | 2 => z
  | 10 => !z
  | 3 => cy || z
  | 11 => !(cy || z)
  | 4 => s
  | 12 => !s
  | 5 => true
  | 13 => sat
  | 6 => s ^^ ov
  | 14 => !(s ^^ ov)
  | 7 => (s ^^ ov) || z
  | _ => !((s ^^ ov) || z)

/-- R29: Cond(cccc) on the PSW in use. -/
def State.cond (s : State) (cccc : BitVec 4) : Bool := condPsw cccc s.psw

/-! ## Free values -/

/-- The counter of free values advanced past `n` uses. -/
def State.skipFree (s : State) (n : Nat) : State := { s with free := s.free + n }

end Sys2Proof.Machine
end

