-- ==== Sys2Proof/Machine/Mpu.lean ====
section
/-!
DEFINITION. The memory protection unit: matching, the two layers, the setting check (21_mpu.md).
-/

namespace Sys2Proof.Machine

/-- The two layers of protection (R258). -/
inductive Layer where
  | host
  | guest
deriving DecidableEq, Repr

/-- R254: the entries of the bank that MPBK selects. -/
def Mpu.bank (m : Mpu) : Vector MpuEntry 32 := if m.mpbk.getLsbD 0 then m.bank1 else m.bank0

/-- R251: MPCFG.HBE, the number of the first host management entry. -/
def Mpu.hbe (m : Mpu) : Nat := (m.mpcfg.extractLsb' 8 6).toNat

/-- R258: entry `e` belongs to a layer. -/
def Mpu.inLayer (m : Mpu) (l : Layer) (e : Nat) : Bool :=
  match l with
  | .guest => decide (e < m.hbe)
  | .host => decide (m.hbe ≤ e)

/-- R255: the permission bit of MPAT for a kind of access and a privilege. -/
def MpuEntry.permits (e : MpuEntry) (k : AccessKind) (user : Bool) : Bool :=
  match k, user with
  | .exec, false => e.mpat.getLsbD 5
  | .write, false => e.mpat.getLsbD 4
  | .read, false => e.mpat.getLsbD 3
  | .exec, true => e.mpat.getLsbD 2
  | .write, true => e.mpat.getLsbD 1
  | .read, true => e.mpat.getLsbD 0

/-- R262: some MPIDn that the entry names (bit `base + n` of MPAT) holds the SPID. -/
def Mpu.names (m : Mpu) (e : MpuEntry) (base : Nat) (spid : BitVec 5) : Bool :=
  (List.range 8).any fun n => e.mpat.getLsbD (base + n) && (m.mpid[n]?.getD 0).extractLsb' 0 5 == spid

/-- R262: the SPID may use the entry for this kind of access. -/
def Mpu.idAllows (m : Mpu) (e : MpuEntry) (k : AccessKind) (spid : BitVec 5) : Bool :=
  match k with
  | .write => e.mpat.getLsbD 15 || m.names e 24 spid
  | _ => e.mpat.getLsbD 14 || m.names e 16 spid

/-- R262: MPU_MATCH, for the bytes `lo` to `hi` of one access: the predicate that the rule states, or the product's own (R12). -/
def Mpu.matchEntry (m : Mpu) (rule : MatchRule) (e : MpuEntry) (lo hi : Nat) (k : AccessKind) (user : Bool) (spid : BitVec 5) :
    Bool :=
  match rule with
  | .stated =>
    e.mpat.getLsbD 7
      && decide (e.mpla.toNat ≤ lo) && decide (hi ≤ (e.mpua ||| 3).toNat)
      && e.permits k user && m.idAllows e k spid
  | .other n => Config.mpuMatch n ⟨e.mpla, e.mpua, e.mpat, m.mpid.toList, lo, hi, k, user, spid⟩

/-- R262: SetAllows over the entries numbered by `sel`. -/
def Mpu.setAllows (m : Mpu) (rule : MatchRule) (sel : Nat → Bool) (lo hi : Nat) (k : AccessKind) (user : Bool)
    (spid : BitVec 5) : Bool :=
  (List.range 32).any fun n => sel n && m.matchEntry rule (m.bank[n]?.getD ⟨0, 0, 0⟩) lo hi k user spid

/-- The SPID of a context (R90). -/
def Ctx.spid5 (c : Ctx) : BitVec 5 := c.spid.extractLsb' 0 5

/-- R252: MPM.MPE, MPM.SVP; R126: GMMPM.GMPE. -/
def Ctx.mpe (c : Ctx) : Bool := c.mpm.getLsbD 0
@[inherit_doc Ctx.mpe]
def Ctx.svp (c : Ctx) : Bool := c.mpm.getLsbD 1
@[inherit_doc Ctx.mpe]
def Ctx.gmpe (c : Ctx) : Bool := c.mpm.getLsbD 2

/-- R262: a layer denies an access made in a mode. In conventional mode all entries form the host layer. PSWH.GPID takes no part, as
R262 and 11_sysregs.md R84 say; 10_state.md R24 says that the MPU compares it: DESIGN CHOICE (notes/assumptions/49.md). -/
def State.layerDenies (s : State) (m : Mode) (l : Layer) (lo hi : Nat) (k : AccessKind) (user : Bool) : Bool :=
  match m, l with
  | .host, .guest => false
  | .host, .host =>
    s.host.mpe && (user || s.host.svp)
      && !s.mpu.setAllows s.prod.mpuMatch (fun e => !s.hve || s.mpu.inLayer .host e) lo hi k user s.host.spid5
  | .guest, .guest =>
    s.guest.mpe && (user || s.guest.svp)
      && !s.mpu.setAllows s.prod.mpuMatch (s.mpu.inLayer .guest) lo hi k user s.guest.spid5
  | .guest, .host => s.guest.gmpe && !s.mpu.setAllows s.prod.mpuMatch (s.mpu.inLayer .host) lo hi k user s.guest.spid5

/-- R262: the layer that a set of kinds of access violates, the guest layer first. -/
def State.mpuViolation (s : State) (m : Mode) (lo hi : Nat) (ks : List AccessKind) (user : Bool) : Option Layer :=
  if ks.any fun k => s.layerDenies m .guest lo hi k user then some .guest
  else if ks.any fun k => s.layerDenies m .host lo hi k user then some .host
  else none

/-- R275: bits 21-16 of the cause code of an operand violation: the directions the layer denies, by privilege. -/
def State.deniedBits (s : State) (m : Mode) (l : Layer) (lo hi : Nat) (ks : List AccessKind) (user : Bool) : Word :=
  let one (k : AccessKind) (bit : Nat) : Word :=
    if ks.contains k && s.layerDenies m l lo hi k user then BitVec.twoPow 32 (if user then bit - 3 else bit) else 0
  one .write 20 ||| one .read 19

/-- R275: the low half of the cause code. -/
def causeMip : Layer → Word
  | .guest => 0x90
  | .host => 0x98
@[inherit_doc causeMip]
def causeMdp : Layer → Word
  | .guest => 0x91
  | .host => 0x99
@[inherit_doc causeMip]
def causeMdpEntry : Layer → Word
  | .guest => 0x95
  | .host => 0x9D

/-- R263: the mode that handles a violation detected in a mode (GMCFG.GMP bit 0, GMCFG.HMP bit 1). -/
def State.mpuHandler (s : State) (m : Mode) (l : Layer) : Mode :=
  match m, l with
  | .host, _ => .host
  | .guest, .guest => if s.sys.gmcfg.getLsbD 0 then .host else .guest
  | .guest, .host => if s.sys.gmcfg.getLsbD 1 then .host else .guest

/-! ## The setting check (R259, R260) -/

/-- The raw result of a layer for one privilege: execute, write, read in bits 2, 1, 0. -/
def State.checkRaw (s : State) (sel : Nat → Bool) (user : Bool) : BitVec 3 :=
  let lo := s.mpu.mca.toNat
  let hi := lo + s.mpu.mcs.toNat - 1
  let one (k : AccessKind) : BitVec 1 :=
    BitVec.ofBool (s.mpu.setAllows s.prod.mpuMatch sel lo hi k user (s.mpu.mci.extractLsb' 0 5))
  one .exec ++ one .write ++ one .read

/-- R260: the area crosses 00000000H or 7FFFFFFFH. -/
def Mpu.checkCrosses (m : Mpu) : Bool :=
  let lo := m.mca.toNat
  let hi := lo + m.mcs.toNat - 1
  decide (2 ^ 32 ≤ hi) || (decide (lo ≤ 0x7FFFFFFF) && decide (0x7FFFFFFF < hi))

/-- R260: MCR from the four layer results and OV. -/
def mcrValue (ov : Bool) (hs hu gs gu s u : BitVec 3) : Word :=
  (0#2 ++ hs ++ hu ++ 0#2 ++ gs ++ gu ++ 0#7 ++ BitVec.ofBool ov ++ 0#2 ++ s ++ u).setWidth 32

/-- R260: what a check stores in MCR. -/
def State.checkResult (s : State) : Word :=
  let all : BitVec 3 := 7
  let no : BitVec 3 := 0
  match s.mode with
  | .host =>
    let sel := fun e => !s.hve || s.mpu.inLayer .host e
    let x := s.host.mpe && s.mpu.checkCrosses
    let hs := if !s.host.mpe || !s.host.svp then all else if x then no else s.checkRaw sel false
    let hu := if !s.host.mpe then all else if x then no else s.checkRaw sel true
    if s.hve then mcrValue x hs hu all all hs hu else mcrValue x no no no no hs hu
  | .guest =>
    let x := (s.guest.mpe || s.guest.gmpe) && s.mpu.checkCrosses
    let gs := if !s.guest.mpe || !s.guest.svp then all else if x then no else s.checkRaw (s.mpu.inLayer .guest) false
    let gu := if !s.guest.mpe then all else if x then no else s.checkRaw (s.mpu.inLayer .guest) true
    let hs := if !s.guest.gmpe then all else if x then no else s.checkRaw (s.mpu.inLayer .host) false
    let hu := if !s.guest.gmpe then all else if x then no else s.checkRaw (s.mpu.inLayer .host) true
    mcrValue x hs hu gs gu (hs &&& gs) (hu &&& gu)

end Sys2Proof.Machine
end

