-- ==== Sys2Proof/Machine/Ops.lean ====
section
/-!
DEFINITION. The shared operations: taking an exception and returning from one (60_exceptions.md R800 to R819), checked memory
access (42_load_store.md R450), privilege and coprocessor checks (61_virtualization.md R881).
-/

namespace Sys2Proof.Machine

/-- What an instruction answers. -/
abbrev Out := Host.Outcome State Fault Refusal

/-- The next state of an outcome, changed. -/
def mapNext (f : State → State) : Out → Out
  | .next s => .next (f s)
  | .fault r => .fault r
  | .refused r => .refused r

/-! ## Taking an exception -/

/-- The level of an exception (R800). -/
inductive Level where
  | ei
  | fe
deriving DecidableEq, Repr

/-- R804, R805: the PSW after an entry: UM 0, ID 1, EP as given, NP 1 for FE level; everything else retained. -/
def entryPsw (psw : Word) (l : Level) (epBit : Bool) : Word :=
  let w := putBit (putBit (putBit psw 30 false) 5 true) 6 epBit
  match l with
  | .ei => w
  | .fe => putBit w 7 true

/-- R804, R805: a context with pc and PSW saved and the PSW of the handler. -/
def Ctx.save (c : Ctx) (l : Level) (retpc : Word) (epBit : Bool) : Ctx :=
  match l with
  | .ei => { c with eipc := retpc, eipsw := c.psw, psw := entryPsw c.psw l epBit }
  | .fe => { c with fepc := retpc, fepsw := c.psw, psw := entryPsw c.psw l epBit }

/-- R804, R805: a context with the cause code. -/
def Ctx.setCause (c : Ctx) (l : Level) (cause : Word) : Ctx :=
  match l with
  | .ei => { c with eiic := cause }
  | .fe => { c with feic := cause }

/-- R804, R805, R886: PSWH saved by level and GM cleared, at an entry handled in host mode while HVE = 1. -/
def SysRegs.leaveGuest (y : SysRegs) (l : Level) : SysRegs :=
  match l with
  | .ei => { y with eipswh := y.pswh, pswh := putBit y.pswh 31 false }
  | .fe => { y with fepswh := y.pswh, pswh := putBit y.pswh 31 false }

/-- R518 (e): the link is lost. -/
def State.dropLink (s : State) : State := { s with link := { s.link with bit := false } }

/-- The first half of an entry: what is saved and the PSW of the handler (R804, R805, R821). -/
def State.saveContext (s : State) (l : Level) (retpc : Word) (hm : Mode) (epBit : Bool) : State :=
  let s1 := s.setCtx hm ((s.ctx hm).save l retpc epBit)
  match hm with
  | .host => { s1 with sys := if s.hve then s1.sys.leaveGuest l else s1.sys }
  | .guest => s1

/-- R807: the base address of the exception handlers. -/
def State.vectorBase (s : State) (hm : Mode) : Word :=
  match hm with
  | .host => (if s.host.psw.getLsbD 15 then s.host.ebase else s.prod.rbase) &&& 0xFFFFFE00
  | .guest => s.guest.ebase &&& 0xFFFFFE00

/-- R807: HandlerAddress, the direct vector method. -/
def State.handlerAddress (s : State) (hm : Mode) (offset : Word) : Word := s.vectorBase hm + offset

/-- R804, R805: the one operation of taking an exception: EntryEI and EntryFE. `epBit` is what PSW.EP becomes: 0 for an interrupt,
1 for any other exception. -/
def State.takeException (s : State) (l : Level) (cause offset retpc : Word) (hm : Mode) (epBit : Bool) : State :=
  let s1 := s.saveContext l retpc hm epBit
  let s2 := s1.setCtx hm ((s1.ctx hm).setCause l cause)
  { s2 with pc := evenPc (s2.handlerAddress hm offset), link := { s2.link with bit := false } }

/-- What the step tells the environment, one event more. -/
def State.emit (s : State) (e : Event) : State := { s with out := s.out ++ [e] }

/-- R800 (b): a resumable exception of the instruction at pc, handled in the mode given; EP becomes 1. -/
def State.raise (s : State) (l : Level) (cause offset : Word) (hm : Mode) : Out :=
  .next ((s.takeException l cause offset s.pc hm true).emit (.resumable hm))

/-- R800 (c): a pending exception, after the instruction; the saved pc is that of the next instruction. -/
def State.raisePending (s : State) (l : Level) (cause offset retpc : Word) (hm : Mode) : Out :=
  .next ((s.takeException l cause offset retpc hm true).emit (.pending hm))

/-- R810: reserved instruction exception. -/
def State.raiseRie (s : State) : Out := s.raise .fe 0x60 0x60 s.mode

/-- R811: privileged instruction exception. -/
def State.raisePie (s : State) : Out := s.raise .fe s.prod.causePie 0xA0 s.mode

/-- R812: coprocessor unusable exception. -/
def State.raiseUcpop (s : State) (n : Word) : Out := s.raise .fe (0x80 + n) 0x80 s.mode

/-- R814, R815: the mode that handles a SYSERR occurring in a mode (GMCFG.GSYSE bit 4). -/
def State.syserrHandler (s : State) (m : Mode) : Mode :=
  match m with
  | .host => .host
  | .guest => if s.sys.gmcfg.getLsbD 4 then .host else .guest

/-- R815: a resumable SYSERR. -/
def State.raiseSyserr (s : State) (cause : Word) : Out := s.raise .fe cause 0x10 (s.syserrHandler s.mode)

/-- R816: FPE; FPEPC takes the address of the instruction. -/
def State.raiseFpe (s : State) : Out :=
  let s1 := { s with sys := { s.sys with fpepc := evenPc s.pc } }
  s1.raise .ei 0x71 0x70 s.mode

/-- R817: FXE. -/
def State.raiseFxe (s : State) : Out := s.raise .ei 0x75 0x70 s.mode

/-! ## Returning from an exception -/

/-- R808 (b): ISPR with the set bit of the highest priority (the lowest number) cleared. -/
def clearHighest (w : Word) : Word := w &&& (w - 1)

/-- R808: EIRET (level EI) and FERET (level FE): pc and PSW restored, PSWH too when executed in host mode with HVE = 1; the ISPR
bit; the notification; the link. -/
def State.returnException (s : State) (l : Level) : State :=
  let m := s.mode
  let c := s.cur
  let epBefore := c.psw.getLsbD 6
  let (savedPc, savedPsw) := match l with
    | .ei => (c.eipc, c.eipsw)
    | .fe => (c.fepc, c.fepsw)
  let savedH := match l with
    | .ei => s.sys.eipswh
    | .fe => s.sys.fepswh
  let clears := l == Level.ei && m == Mode.host && !epBefore && !c.intcfg.getLsbD 0 && !c.intcfg.getLsbD 1
  let s1 := s.setCtx m { c with psw := s.fixPsw m savedPsw }
  let s2 := { s1 with
    sys := { s1.sys with
      pswh := if m == Mode.host && s.hve then savedH &&& 0x80000700 else s1.sys.pswh
      ispr := if clears then clearHighest s1.sys.ispr else s1.sys.ispr }
    pc := evenPc savedPc }
  let s3 := s2.dropLink
  if epBefore then s3 else s3.emit .endOfHandling

/-! ## Memory access -/

/-- One operand access: address, size in bytes, directions, whether misalignment raises MAE (20_memory.md R205, R206), whether the
instruction transfers a block (R275, bit BL), and what MEI takes (R822). -/
structure Access where
  adr : Word
  size : Nat
  kinds : List AccessKind
  aligned : Bool
  block : Bool
  mei : Word
deriving DecidableEq, Repr

/-- R822: the contents of MEI: LEN 31-28, REG 20-16, DS 11-9, U 8, ITYPE 5-1, RW 0. -/
def meiWord (len : BitVec 4) (r : Reg) (ds : BitVec 3) (u : Bool) (itype : BitVec 5) (rw : Bool) : Word :=
  len ++ 0#7 ++ r ++ 0#4 ++ ds ++ BitVec.ofBool u ++ 0#2 ++ itype ++ BitVec.ofBool rw

/-- R205: an address that is misaligned for a size; a double word needs a word boundary only. -/
def misaligned (a : Word) (size : Nat) : Bool := a.toNat % (if size = 8 then 4 else size) != 0

/-- R107, R108: MEA and MEI of a context. -/
def State.setMea (s : State) (m : Mode) (mea mei : Word) : State := s.setCtx m { s.ctx m with mea := mea, mei := mei }

/-- R813: misalignment exception. -/
def State.raiseMae (s : State) (x : Access) : Out :=
  (s.setMea s.mode x.adr x.mei).raise .fe s.prod.causeMae 0xC0 s.mode

/-- R275: the cause code of an operand MDP: MS 24, BL 23, RMW 22, the denied directions, the layer's code. -/
def State.mdpCause (s : State) (x : Access) (l : Layer) (user : Bool) : Word :=
  (if x.size == 8 && x.adr.getLsbD 2 then 0x01000000 else 0)
    ||| (if x.block then 0x00800000 else 0)
    ||| (if x.kinds.length == 2 then 0x00400000 else 0)
    ||| s.deniedBits s.mode l x.adr.toNat (x.adr.toNat + x.size - 1) x.kinds user
    ||| causeMdp l

/-- R814 (b): operand MDP of the instruction at pc. -/
def State.raiseMdp (s : State) (x : Access) (l : Layer) (user : Bool) : Out :=
  let hm := s.mpuHandler s.mode l
  (s.setMea hm x.adr x.mei).raise .fe (s.mdpCause x l user) 0x90 hm

/-- R204, 93_implementation_defined.md U2: an operand access to a reserved address raises SYSERR with the cause code of the product.
DESIGN CHOICE (notes/assumptions/21.md). -/
def State.reservedStop (s : State) (a : Word) (n : Nat) : Option Out :=
  if s.prod.touches .reserved a n then some (s.raiseSyserr s.prod.causeReserved) else none

/-- R202: what an access made now carries to the bus: the SPID of the context in use, and in guest mode PSWH.GPID. -/
def State.accessTag (s : State) : AccessTag where
  spid := s.cur.spid5
  gpid := match s.mode with
    | .host => none
    | .guest => some s.gpid

/-- R202, R204: what the environment is told of an access to a device region; the bytes written are those that `t`, the state after
the instruction, holds. -/
def deviceEvent (tag : AccessTag) (t : State) (a : Word) (n : Nat) : AccessKind → Event
  | .write => .deviceWrite tag a ((List.range n).map fun k => t.readByte (a + BitVec.ofNat 32 k))
  | _ => .deviceRead tag a n

/-- R202, R204: an access that is performed, then what follows it: one that touches a device region is reported, with the tag of the
state that makes it, ahead of the reports of what follows. The bytes of a device read as the environment has set them (`Env.writes`).
DESIGN CHOICE (notes/assumptions/21.md). -/
def State.noteDevice (s : State) (a : Word) (n : Nat) (ks : List AccessKind) (k : Out) : Out :=
  if s.prod.touches .device a n then mapNext (fun t => { t with out := ks.map (deviceEvent s.accessTag t a n) ++ t.out }) k else k

/-- R450: what stops an access: MAE, then MDP, then the SYSERR of a reserved address; `none`: the access is performed. `user` is the privilege the
MPU check uses. -/
def State.denied (s : State) (x : Access) (user : Bool) : Option Out :=
  if x.aligned && misaligned x.adr x.size then some (s.raiseMae x)
  else
    match s.mpuViolation s.mode x.adr.toNat (x.adr.toNat + x.size - 1) x.kinds user with
    | some l => some (s.raiseMdp x l user)
    | none => s.reservedStop x.adr x.size

/-- R450: an access checked with a privilege, then what follows it. -/
def State.checked (s : State) (x : Access) (user : Bool) (k : Out) : Out :=
  match s.denied x user with
  | some o => o
  | none => k

/-- R450: an access checked with the current privilege and performed, then what follows it. -/
def State.access (s : State) (x : Access) (k : Out) : Out := s.checked x s.um (s.noteDevice x.adr x.size x.kinds k)

/-! ## Privilege -/

/-- R881: an SV-privileged instruction: PIE in user mode. -/
def State.supervisor (s : State) (k : Out) : Out := if s.um then s.raisePie else k

/-- R881: an instruction of the virtualization support function that needs HV privilege: RIE while HVE = 0, PIE otherwise. -/
def State.hypervisor (s : State) (k : Out) : Out :=
  if !s.hve then s.raiseRie else if s.isHv then k else s.raisePie

/-- R812: an FPU instruction: UCPOP 80H while CU0 = 0. -/
def State.withFpu (s : State) (k : Out) : Out := if s.psw.getLsbD 16 then k else s.raiseUcpop 0

/-- R812: an FXU instruction: UCPOP 81H while CU1 = 0. -/
def State.withFxu (s : State) (k : Out) : Out := if s.psw.getLsbD 17 then k else s.raiseUcpop 1

end Sys2Proof.Machine
end

