-- ==== Sys2Proof/Machine/SysReg.lean ====
section
/-!
DEFINITION. The system registers: numbers, authorities, layouts, what a read gives and what a write does (11_sysregs.md,
21_mpu.md R250 to R260, 45_cache.md R572).
-/

namespace Sys2Proof.Machine

/-- The twenty multiplexed registers (R122). -/
inductive CtxReg where
  | eipc
  | eipsw
  | fepc
  | fepsw
  | psw
  | eiic
  | feic
  | eiwr
  | fewr
  | spid
  | spidlist
  | ebase
  | intbp
  | svlock
  | peid
  | mea
  | mei
  | intcfg
  | plmr
  | mpm
deriving DecidableEq, Repr

/-- The system registers (R195). `orig r` is a multiplexed register under its original number, `gm r` its guest copy under its
number of selID 9. -/
inductive SReg where
  | orig (r : CtxReg)
  | gm (r : CtxReg)
  | fpsr
  | fpepc
  | fpst
  | fpcc
  | fpcfg
  | pswh
  | ctpc
  | ctpsw
  | eipswh
  | fepswh
  | ctbp
  | snzcfg
  | rbase
  | mctl
  | pid
  | sccfg
  | scbp
  | hvcfg
  | gmcfg
  | hvsb
  | bmid
  | ispr
  | imsr
  | icsr
  | rbcr0
  | rbcr1
  | rbnr
  | rbip
  | dbgen
  | ictagl
  | ictagh
  | icdatl
  | icdath
  | icctrl
  | iccfg
  | icerr
  | mpcfg
  | mca
  | mcs
  | mcc
  | mcr
  | mci
  | mpidx
  | mpbk
  | mpla
  | mpua
  | mpat
  | mpid (n : Fin 8)
  | fxsr
  | fxst
  | fxinfo
  | fxcfg
  | fxxc
  | fxxp
  | tscountl
  | tscounth
  | tsctrl
  | pmumctrl
  | pmgmctrl
  | pmctrl (n : Fin 8)
  | pmcount (n : Fin 8)
  | pmsubcnd (n : Fin 8)
  | lscfg
  | l1rcfg
  | rdbcr
deriving DecidableEq, Repr

/-- R122: the numbers of the original registers. -/
def origReg (sel reg : Nat) : Option CtxReg :=
  match sel, reg with
  | 0, 0 => some .eipc
  | 0, 1 => some .eipsw
  | 0, 2 => some .fepc
  | 0, 3 => some .fepsw
  | 0, 5 => some .psw
  | 0, 13 => some .eiic
  | 0, 14 => some .feic
  | 0, 28 => some .eiwr
  | 0, 29 => some .fewr
  | 1, 0 => some .spid
  | 1, 1 => some .spidlist
  | 1, 3 => some .ebase
  | 1, 4 => some .intbp
  | 1, 8 => some .svlock
  | 2, 0 => some .peid
  | 2, 6 => some .mea
  | 2, 8 => some .mei
  | 2, 13 => some .intcfg
  | 2, 14 => some .plmr
  | 5, 0 => some .mpm
  | _, _ => none

/-- R122: the numbers of the guest copies in selID 9. -/
def guestReg (reg : Nat) : Option CtxReg :=
  match reg with
  | 0 => some .eipc
  | 1 => some .eipsw
  | 2 => some .fepc
  | 3 => some .fepsw
  | 5 => some .psw
  | 6 => some .mea
  | 8 => some .mei
  | 13 => some .eiic
  | 14 => some .feic
  | 16 => some .spid
  | 17 => some .spidlist
  | 19 => some .ebase
  | 20 => some .intbp
  | 21 => some .intcfg
  | 22 => some .plmr
  | 24 => some .svlock
  | 25 => some .mpm
  | 28 => some .eiwr
  | 29 => some .fewr
  | 30 => some .peid
  | _ => none

/-- R195: the registers that are not multiplexed. -/
def plainReg (p : Product) (sel reg : Nat) : Option SReg :=
  match sel, reg with
  | 0, 6 => some .fpsr
  | 0, 7 => some .fpepc
  | 0, 8 => some .fpst
  | 0, 9 => some .fpcc
  | 0, 10 => some .fpcfg
  | 0, 15 => some .pswh
  | 0, 16 => some .ctpc
  | 0, 17 => some .ctpsw
  | 0, 18 => some .eipswh
  | 0, 19 => some .fepswh
  | 0, 20 => some .ctbp
  | 0, 21 => some .snzcfg
  | 1, 2 => some .rbase
  | 1, 5 => some .mctl
  | 1, 6 => some .pid
  | 1, 11 => some .sccfg
  | 1, 12 => some .scbp
  | 1, 16 => some .hvcfg
  | 1, 17 => some .gmcfg
  | 1, 20 => some .hvsb
  | 2, 1 => some .bmid
  | 2, 10 => some .ispr
  | 2, 11 => some .imsr
  | 2, 12 => some .icsr
  | 2, 15 => some .rbcr0
  | 2, 16 => some .rbcr1
  | 2, 17 => some .rbnr
  | 2, 18 => some .rbip
  | 3, 0 => some .dbgen
  | 4, 16 => some .ictagl
  | 4, 17 => some .ictagh
  | 4, 18 => some .icdatl
  | 4, 19 => some .icdath
  | 4, 24 => some .icctrl
  | 4, 26 => some .iccfg
  | 4, 28 => some .icerr
  | 5, 2 => some .mpcfg
  | 5, 8 => some .mca
  | 5, 9 => some .mcs
  | 5, 10 => some .mcc
  | 5, 11 => some .mcr
  | 5, 12 => some .mci
  | 5, 16 => some .mpidx
  | 5, 17 => some .mpbk
  | 5, 20 => some .mpla
  | 5, 21 => some .mpua
  | 5, 22 => some .mpat
  | 10, 6 => some .fxsr
  | 10, 8 => some .fxst
  | 10, 9 => some .fxinfo
  | 10, 10 => some .fxcfg
  | 10, 12 => some .fxxc
  | 10, 13 => some .fxxp
  | 11, 0 => some .tscountl
  | 11, 1 => some .tscounth
  | 11, 2 => some .tsctrl
  | 11, 8 => some .pmumctrl
  | 11, 9 => some .pmgmctrl
  | 12, 2 => some .lscfg
  | 5, r => if 24 ≤ r then some (.mpid (Fin.ofNat 8 (r - 24))) else none
  | 13, r => if r = 12 then some .l1rcfg else if r = p.rdbcrRegid.toNat then some .rdbcr else none
  | 14, r =>
    if r < 8 then some (.pmctrl (Fin.ofNat 8 r))
    else if 16 ≤ r ∧ r < 24 then some (.pmcount (Fin.ofNat 8 (r - 16))) else none
  | 15, r => if r < 8 then some (.pmsubcnd (Fin.ofNat 8 r)) else none
  | _, _ => none

/-- R195: the register that a pair of numbers names, whatever the mode. -/
def sregOf (p : Product) (regID selID : BitVec 5) : Option SReg :=
  if selID = 9 then (guestReg regID.toNat).map .gm
  else
    match origReg selID.toNat regID.toNat with
    | some r => some (.orig r)
    | none => plainReg p selID.toNat regID.toNat

/-- R71: the register does not exist in the current HVE state: class (b) while HVE = 0, ICSR while HVE = 1. -/
def SReg.absent (r : SReg) (hve : Bool) : Bool :=
  match r with
  | .gm _ | .pswh | .eipswh | .fepswh | .gmcfg | .hvsb | .dbgen | .pmgmctrl => !hve
  | .icsr => hve
  | _ => false

/-- The authorities UM < SV < HV (R881); `channel n`: the procedure of R158. -/
inductive Auth where
  | um
  | sv
  | hv
  | channel (n : Fin 8)
deriving DecidableEq, Repr

/-- R195: the coprocessor whose permission an access needs. -/
def SReg.coproc : SReg → Option Nat
  | .fpsr | .fpepc | .fpst | .fpcc | .fpcfg => some 0
  | .fxsr | .fxst | .fxinfo | .fxcfg | .fxxc | .fxxp => some 1
  | _ => none

/-- R195: the authority an access needs. -/
def SReg.auth (r : SReg) (hve write : Bool) : Auth :=
  let raised := if hve then Auth.hv else Auth.sv
  match r with
  | .orig .psw | .orig .peid | .bmid | .ctpc | .ctpsw | .ctbp => .um
  | .fpst | .fpcc | .fpcfg | .fxst | .fxinfo | .fxcfg => .um
  | .pswh | .hvsb => if write then .hv else .um
  | .gm _ | .eipswh | .fepswh | .gmcfg | .dbgen | .pmgmctrl => .hv
  | .snzcfg | .hvcfg | .ictagl | .ictagh | .icdatl | .icdath | .mpbk | .tsctrl | .rdbcr => raised
  | .icctrl | .mpcfg | .mpid _ => if write then raised else .sv
  | .tscountl | .tscounth => if write then raised else .um
  | .pmctrl n | .pmcount n | .pmsubcnd n => .channel n
  | _ => .sv

/-- R70, R158: the mode has an authority. -/
def State.hasAuth (s : State) (a : Auth) : Bool :=
  match a with
  | .um => true
  | .sv => !s.um
  | .hv => if s.hve then s.isHv else !s.um
  | .channel n =>
    !(s.mode == .guest && !s.cnt.pmgmctrl.getLsbD n) && !(s.um && !s.cnt.pmumctrl.getLsbD n)

/-- What the access check of R70 answers: the register, an undefined register (R71), or the exception to raise. -/
inductive SrAccess where
  | reg (r : SReg)
  | undefined
  | pie
  | ucpop (n : Nat)
deriving DecidableEq, Repr

/-- R70: the access check of LDSR and STSR. -/
def State.srAccess (s : State) (regID selID : BitVec 5) (write : Bool) : SrAccess :=
  match (sregOf s.prod regID selID).filter fun r => !r.absent s.hve with
  | none => if s.um then .pie else .undefined
  | some r =>
    match r.coproc.filter fun n => !s.psw.getLsbD (16 + n) with
    | some n => .ucpop n
    | none => if s.hasAuth (r.auth s.hve write) then .reg r else .pie

/-! ## Reading -/

/-- A multiplexed register of a context. -/
def Ctx.get (c : Ctx) : CtxReg → Word
  | .eipc => c.eipc
  | .eipsw => c.eipsw
  | .fepc => c.fepc
  | .fepsw => c.fepsw
  | .psw => c.psw
  | .eiic => c.eiic
  | .feic => c.feic
  | .eiwr => c.eiwr
  | .fewr => c.fewr
  | .spid => c.spid
  | .spidlist => c.spidlist
  | .ebase => c.ebase
  | .intbp => c.intbp
  | .svlock => c.svlock
  | .peid => c.peid
  | .mea => c.mea
  | .mei => c.mei
  | .intcfg => c.intcfg
  | .plmr => c.plmr
  | .mpm => c.mpm

/-- R831: the kind of exception that a request on the FEINT input asks for in the current mode. DESIGN CHOICE (log 57): conventional
mode takes the row "host" of R831, so that a request bound to a guest asks for none while HVE = 0, where R830 lets the environment
present none. -/
def State.feKind (s : State) (q : FeRequest) : Option IntKind :=
  match q.guest with
  | none => some .feint
  | some g =>
    match s.mode with
    | .host => none
    | .guest => if g = s.gpid then some .gmfeint else if q.background then some .bgfeint else none

/-- R831: the same for the EIINT input. DESIGN CHOICE (log 57): a request bound to a guest asks for none while HVE = 0; R803 and
R821 call every EIINT of conventional mode host-bound. -/
def State.eiKind (s : State) (q : EiRequest) : Option IntKind :=
  match q.guest with
  | none => some .eiint
  | some g =>
    match s.mode with
    | .host => none
    | .guest => if g = s.gpid then some .gmeiint else if q.background then some .bgeiint else none

/-- R803: ISPR masks priority `p`: a bit of the same or a higher priority is set, or any bit where `p` is 16 or more. -/
def isprMasks (ispr : Word) (p : Nat) : Bool := (List.range 16).any fun q => ispr.getLsbD q && decide (q ≤ p)

/-- PSW.EIMASK (R74). -/
def Ctx.eimask (c : Ctx) : Nat := (c.psw.extractLsb' 20 6).toNat

/-- PLMR.PLM (R114). -/
def Ctx.plm (c : Ctx) : Nat := (c.plmr.extractLsb' 0 6).toNat

/-- PSW.ID and PSW.NP. -/
def Ctx.idBit (c : Ctx) : Bool := c.psw.getLsbD 5
@[inherit_doc Ctx.idBit]
def Ctx.npBit (c : Ctx) : Bool := c.psw.getLsbD 7

/-- R803: the first of the host's priority masks, ISPR or EIMASK by INTCFG.EPL. -/
def State.hostPrioMasks (s : State) (p : Nat) : Bool :=
  if s.host.intcfg.getLsbD 1 then decide (s.host.eimask ≤ p) else isprMasks s.sys.ispr p

/-- R111: a group of four mask bits for one request (EEIM 0, EPLM 1, EID 2, ENP 3): the first condition that masks. -/
def firstMask (prio plm idb np : Bool) (base : Nat) : Word :=
  if prio then BitVec.twoPow 32 base
  else if plm then BitVec.twoPow 32 (base + 1)
  else if idb then BitVec.twoPow 32 (base + 2)
  else if np then BitVec.twoPow 32 (base + 3)
  else 0

/-- R111: the bits of IMSR that a request on the EIINT input sets; the host group starts at bit 8 in guest mode. -/
def State.imsrEi (s : State) (q : EiRequest) : Word :=
  let p := q.prio.toNat
  let hostGroup (base : Nat) :=
    firstMask (s.hostPrioMasks p) (decide (s.host.plm ≤ p)) s.host.idBit s.host.npBit base
  let guestPrio := decide (s.guest.eimask ≤ p)
  let guestPlm := decide (s.guest.plm ≤ p)
  let guestGroup := firstMask guestPrio guestPlm s.guest.idBit s.guest.npBit 0
  match s.eiKind q with
  | some .eiint => hostGroup (if s.mode = .guest then 8 else 0)
  | some .gmeiint => guestGroup
  | some .bgeiint =>
    if guestPrio || guestPlm then guestGroup
    else guestGroup ||| firstMask false false s.host.idBit s.host.npBit 8
  | _ => 0

/-- R111: the bits of IMSR that a request on the FEINT input sets: FNP 4, HEID 10, HENP 11, HFNP 12. -/
def State.imsrFe (s : State) (q : FeRequest) : Word :=
  match s.feKind q with
  | some .feint => if s.host.npBit then BitVec.twoPow 32 (if s.mode = .guest then 12 else 4) else 0
  | some .gmfeint => if s.guest.npBit then BitVec.twoPow 32 4 else 0
  | some .bgfeint =>
    (if s.guest.npBit then BitVec.twoPow 32 4 else 0) ||| firstMask false false s.host.idBit s.host.npBit 8
  | _ => 0

/-- R111: IMSR, a function of the requests presented and of the masks. -/
def State.imsr (s : State) : Word :=
  (s.env.ei.map s.imsrEi).getD 0 ||| (s.env.fe.map s.imsrFe).getD 0

/-- R182, R186: the status view of FPSR and FXSR: XC in 13-8, IF in 5, XP in 4-0. -/
def statusView (w : Word) : Word :=
  (0#18 ++ w.extractLsb' 10 6 ++ 0#2 ++ w.extractLsb' 22 1 ++ w.extractLsb' 0 5).setWidth 32

/-- R184, R188: the configuration view: RM in 9-8, XE in 4-0. -/
def configView (w : Word) : Word := (0#22 ++ w.extractLsb' 18 2 ++ 0#3 ++ w.extractLsb' 5 5).setWidth 32

/-- A write through the status view. -/
def putStatus (w v : Word) : Word :=
  putMasked w 0x0040FC1F ((v &&& 0x3F00) <<< 2 ||| (v &&& 0x20) <<< 17 ||| (v &&& 0x1F))

/-- A write through the configuration view. -/
def putConfig (w v : Word) : Word := putMasked w 0x000C03E0 ((v &&& 0x300) <<< 10 ||| (v &&& 0x1F) <<< 5)

/-- R253: the entry number of MPIDX. -/
def Mpu.index (m : Mpu) : Nat := (m.mpidx.extractLsb' 0 5).toNat

/-- R255: an entry of the selected bank. -/
def Mpu.entry (m : Mpu) (e : Nat) : MpuEntry := m.bank[e]?.getD ⟨0, 0, 0⟩

/-- What a read of a register gives. -/
def State.readSr (s : State) (r : SReg) : Word :=
  match r with
  | .orig c => s.cur.get c
  | .gm c => s.guest.get c
  | .fpsr => s.sys.fpsr
  | .fpepc => s.sys.fpepc
  | .fpst => statusView s.sys.fpsr
  | .fpcc => (s.sys.fpsr.extractLsb' 24 8).setWidth 32
  | .fpcfg => configView s.sys.fpsr
  | .pswh => s.sys.pswh
  | .ctpc => s.sys.ctpc
  | .ctpsw => s.sys.ctpsw
  | .eipswh => s.sys.eipswh
  | .fepswh => s.sys.fepswh
  | .ctbp => s.sys.ctbp
  | .snzcfg => s.sys.snzcfg
  | .rbase => s.prod.rbase &&& 0xFFFFFE03
  | .mctl => s.sys.mctl
  | .pid => s.prod.pid
  | .sccfg => s.sys.sccfg
  | .scbp => s.sys.scbp
  | .hvcfg => s.sys.hvcfg
  | .gmcfg => s.sys.gmcfg
  | .hvsb => s.sys.hvsb
  | .bmid => s.prod.bmid.setWidth 32
  | .ispr => s.sys.ispr
  | .imsr => s.imsr
  | .icsr => s.imsr &&& 1
  | .rbcr0 => s.sys.rbcr0
  | .rbcr1 => s.sys.rbcr1
  | .rbnr => s.sys.rbnr
  | .rbip => s.sys.rbip
  | .dbgen => s.sys.dbgen
  | .ictagl => s.sys.ictagl
  | .ictagh => s.sys.ictagh
  | .icdatl => s.sys.icdatl
  | .icdath => s.sys.icdath
  | .icctrl => s.sys.icctrl
  | .iccfg => s.sys.iccfg
  | .icerr => s.sys.icerr
  | .mpcfg => s.mpu.mpcfg
  | .mca => s.mpu.mca
  | .mcs => s.mpu.mcs
  | .mcc => 0
  | .mcr => s.mpu.mcr
  | .mci => s.mpu.mci
  | .mpidx => s.mpu.mpidx
  | .mpbk => s.mpu.mpbk
  | .mpla => (s.mpu.entry s.mpu.index).mpla
  | .mpua => (s.mpu.entry s.mpu.index).mpua
  | .mpat => (s.mpu.entry s.mpu.index).mpat
  | .mpid n => s.mpu.mpid[n]
  | .fxsr => s.sys.fxsr
  | .fxst => statusView s.sys.fxsr
  | .fxinfo => s.prod.fxinfo
  | .fxcfg => configView s.sys.fxsr
  | .fxxc => s.sys.fxxc
  | .fxxp => s.sys.fxxp
  | .tscountl => s.cnt.tscount.extractLsb' 0 32
  | .tscounth => s.cnt.tscount.extractLsb' 32 32
  | .tsctrl => s.cnt.tsctrl
  | .pmumctrl => s.cnt.pmumctrl
  | .pmgmctrl => s.cnt.pmgmctrl
  | .pmctrl n => s.cnt.pmctrl[n]
  | .pmcount n => s.cnt.pmcount[n]
  | .pmsubcnd n => s.cnt.pmsubcnd[n]
  | .lscfg => s.sys.lscfg
  | .l1rcfg => s.sys.l1rcfg
  | .rdbcr => s.sys.rdbcr

/-! ## Writing -/

/-- R99: the supervisor lock of the current context. -/
def State.locked (s : State) : Bool := s.cur.svlock.getLsbD 0

/-- R90: SPID takes a value only if the list has its bit. -/
def Ctx.writeSpid (c : Ctx) (list v : Word) : Ctx :=
  if list.getLsbD (v.extractLsb' 0 5).toNat then { c with spid := v &&& 0x1F } else c

/-- R113: the effects of INTCFG.EPL = 0 on the EIMASK fields of the context (R73). -/
def Ctx.dropEimask (c : Ctx) : Ctx :=
  if c.intcfg.getLsbD 1 then c
  else { c with psw := c.psw &&& 0xFC0FFFFF, eipsw := c.eipsw &&& 0xFC0FFFFF, fepsw := c.fepsw &&& 0xFC0FFFFF }

/-- R113: INTCFG of the host context: ULNR; EPL on a PID 07H core; ISPC, fixed 0 while EPL = 1. -/
def hostIntcfg (mh2 : Bool) (v : Word) : Word :=
  let epl := mh2 && v.getLsbD 1
  (v &&& 0x003F0000) ||| (if epl then 2 else v &&& 1)

/-- The registers whose layout is the same in both contexts and that no lock or list guards (R72 to R76, R94, R95, R99, R107, R108,
R114). -/
def Ctx.writePlain (c : Ctx) (r : CtxReg) (v : Word) : Ctx :=
  match r with
  | .eipc => { c with eipc := v }
  | .eipsw => { c with eipsw := v &&& c.savedPswMask }
  | .fepc => { c with fepc := v }
  | .fepsw => { c with fepsw := v &&& c.savedPswMask }
  | .eiic => { c with eiic := v }
  | .feic => { c with feic := v }
  | .eiwr => { c with eiwr := v }
  | .fewr => { c with fewr := v }
  | .ebase => { c with ebase := v &&& 0xFFFFFE03 }
  | .intbp => { c with intbp := v &&& 0xFFFFFE00 }
  | .svlock => { c with svlock := v &&& 1 }
  | .mea => { c with mea := v }
  | .mei => { c with mei := v &&& 0xF01F0F3F }
  | .plmr => { c with plmr := v &&& 0x3F }
  | .psw | .spid | .spidlist | .peid | .intcfg | .mpm => c

/-- A write to a register of the host context. -/
def State.writeHost (s : State) (r : CtxReg) (v : Word) : State :=
  let c := s.host
  match r with
  | .psw => { s with host := { c with psw := s.fixPsw .host v } }
  | .spid => if s.locked then s else { s with host := c.writeSpid c.spidlist v }
  | .spidlist | .peid => s
  | .intcfg => { s with host := Ctx.dropEimask { c with intcfg := hostIntcfg s.isMh2 v } }
  | .mpm => if s.locked then s else { s with host := { c with mpm := v &&& 3 } }
  | r => { s with host := c.writePlain r v }

/-- A write to a register of the guest context made in guest mode under the original number (R122 to R128). -/
def State.writeGuestOwn (s : State) (r : CtxReg) (v : Word) : State :=
  let c := s.guest
  match r with
  | .psw => { s with guest := { c with psw := s.fixPsw .guest v } }
  | .spid => if s.locked then s else { s with guest := c.writeSpid c.spidlist v }
  | .spidlist | .peid => s
  | .intcfg => { s with guest := { c with intcfg := putMasked c.intcfg 0x003F0000 v } }
  | .mpm => if s.locked then s else { s with guest := { c with mpm := putMasked c.mpm 3 v } }
  | r => { s with guest := c.writePlain r v }

/-- A write to a register of the guest context made from host mode through selID 9 or LDM.GSR (R122 to R128). -/
def State.writeGuestFromHost (s : State) (r : CtxReg) (v : Word) : State :=
  let c := s.guest
  match r with
  | .psw => { s with guest := { c with psw := s.fixPsw .guest v } }
  | .spid => { s with guest := c.writeSpid s.host.spidlist v }
  | .spidlist => { s with guest := { c with spidlist := v &&& s.host.spidlist } }
  | .peid => { s with guest := { c with peid := v &&& 0x1F } }
  | .intcfg => { s with guest := { c with intcfg := putMasked c.intcfg 0x003F0000 v } }
  | .mpm => { s with guest := { c with mpm := v &&& 7 } }
  | r => { s with guest := c.writePlain r v }

/-- U12, R71: the registers of class (b) after HVE goes from 0 to 1: free values in their layouts; PSWH stays 0 (R84). -/
def State.freeClassB (s : State) : State :=
  let f (n : Nat) : Word := Config.freeWord (s.free + n)
  let g := s.guest
  let gmcfg := f 0 &&& 0x00030013
  let s1 := { s with
    guest := { g with
      eipc := f 1, eipsw := f 2 &&& g.savedPswMask, fepc := f 3, fepsw := f 4 &&& g.savedPswMask
      eiic := f 5, feic := f 6, eiwr := f 7, fewr := f 8, spid := f 9 &&& 0x1F
      spidlist := f 10 &&& s.host.spidlist, ebase := f 11 &&& 0xFFFFFE03, intbp := f 12 &&& 0xFFFFFE00
      svlock := f 13 &&& 1, peid := f 14 &&& 0x1F, mea := f 15, mei := f 16 &&& 0xF01F0F3F
      intcfg := (f 17 &&& 0x003F0000) ||| 2, plmr := f 18 &&& 0x3F, mpm := f 19 &&& 7 }
    sys := { s.sys with
      pswh := 0, eipswh := f 20 &&& 0x80000700, fepswh := f 21 &&& 0x80000700, gmcfg := gmcfg, hvsb := f 22
      dbgen := f 23 &&& 0x1FF }
    cnt := { s.cnt with pmgmctrl := f 24 &&& 0xFF }
    free := s.free + 26 }
  { s1 with guest := { s1.guest with psw := s1.fixPsw .guest (f 25) } }

/-- R103: a write to HVCFG. HVE is fixed 0 on a core without the function; clearing it clears PSWH, MPCFG.HBE and the H*/G* bits of
MCR (21_mpu.md R259; DESIGN CHOICE, notes/assumptions/25.md); setting it from 0 leaves the class (b) registers unspecified (R71). -/
def State.writeHvcfg (s : State) (v : Word) : State :=
  let new := s.hasHv && v.getLsbD 0
  let s1 := { s with sys := { s.sys with hvcfg := if new then 1 else 0 } }
  if new then (if s.hve then s1 else s1.freeClassB)
  else { s1 with
    sys := { s1.sys with pswh := 0 }
    mpu := { s1.mpu with mpcfg := s1.mpu.mpcfg &&& 0xFFFFC0FF, mcr := s1.mpu.mcr &&& 0x0000013F } }

/-- R104: a write to GMCFG; clearing GCUn clears GMPSW.CUn. -/
def State.writeGmcfg (s : State) (v : Word) : State :=
  let g := v &&& 0x00030013
  { s with
    sys := { s.sys with gmcfg := g }
    guest := { s.guest with psw := s.guest.psw &&& ((g &&& 0x00030000) ||| 0xFFFCFFFF) } }

/-- R256: whether the current mode may change an MPU entry. -/
def State.mayWriteEntry (s : State) (e : Nat) : Bool :=
  !s.locked && !(s.mode == .guest && s.mpu.inLayer .host e)

/-- R255, R256: an entry of the selected bank replaced. -/
def Mpu.setEntry (m : Mpu) (e : Nat) (x : MpuEntry) : Mpu :=
  if m.mpbk.getLsbD 0 then { m with bank1 := m.bank1.setIfInBounds e x } else { m with bank0 := m.bank0.setIfInBounds e x }

/-- The three registers of an entry. -/
inductive EntryReg where
  | mpla
  | mpua
  | mpat
deriving DecidableEq, Repr

/-- R255: one register of an entry. -/
def MpuEntry.get (e : MpuEntry) : EntryReg → Word
  | .mpla => e.mpla
  | .mpua => e.mpua
  | .mpat => e.mpat

/-- R255: one register of an entry replaced through its layout. -/
def MpuEntry.put (e : MpuEntry) (r : EntryReg) (v : Word) : MpuEntry :=
  match r with
  | .mpla => { e with mpla := v &&& 0xFFFFFFFC }
  | .mpua => { e with mpua := v &&& 0xFFFFFFFC }
  | .mpat => { e with mpat := v &&& 0xFFFFC0BF }

/-- R256: a write to one register of an entry. -/
def State.writeEntry (s : State) (e : Nat) (r : EntryReg) (v : Word) : State :=
  if s.mayWriteEntry e then { s with mpu := s.mpu.setEntry e ((s.mpu.entry e).put r v) } else s

/-- What a write to a register does, the access being permitted. LSCFG, L1RCFG and RDBCR keep it whole, as the plain storage that
92_eei_decisions.md D5 makes them, to which R196 refers, though it calls them read-only: DEDUCED (notes/assumptions/55.md). -/
def State.writeSr (s : State) (r : SReg) (v : Word) : State :=
  let y := s.sys
  let m := s.mpu
  let c := s.cnt
  match r with
  | .orig x => match s.mode with
    | .host => s.writeHost x v
    | .guest => s.writeGuestOwn x v
  | .gm x => s.writeGuestFromHost x v
  | .fpsr => { s with sys := { y with fpsr := (v &&& 0xFFCEFFFF) ||| 0x00200000 } }
  | .fpepc => { s with sys := { y with fpepc := evenPc v } }
  | .fpst => { s with sys := { y with fpsr := putStatus y.fpsr v } }
  | .fpcc => { s with sys := { y with fpsr := putMasked y.fpsr 0xFF000000 (v <<< 24) } }
  | .fpcfg => { s with sys := { y with fpsr := putConfig y.fpsr v } }
  | .ctpc => { s with sys := { y with ctpc := v } }
  | .ctpsw => { s with sys := { y with ctpsw := v &&& 0x1F } }
  | .eipswh => { s with sys := { y with eipswh := v &&& 0x80000700 } }
  | .fepswh => { s with sys := { y with fepswh := v &&& 0x80000700 } }
  | .ctbp => { s with sys := { y with ctbp := v &&& 0xFFFFFFFE } }
  | .snzcfg => { s with sys := { y with snzcfg := v &&& 0xFF } }
  | .mctl => { s with sys := { y with mctl := v &&& 1 } }
  | .sccfg => { s with sys := { y with sccfg := v &&& 0xFF } }
  | .scbp => { s with sys := { y with scbp := v &&& 0xFFFFFFFC } }
  | .hvcfg => s.writeHvcfg v
  | .gmcfg => s.writeGmcfg v
  | .hvsb => { s with sys := { y with hvsb := v } }
  | .ispr => if s.cur.intcfg.getLsbD 0 then { s with sys := { y with ispr := v &&& 0xFFFF } } else s
  | .rbcr0 => { s with sys := { y with rbcr0 := v &&& 0x1FFFF } }
  | .rbcr1 => { s with sys := { y with rbcr1 := v &&& 0xFFFF } }
  | .rbnr => { s with sys := { y with rbnr := v &&& 0x3F } }
  | .rbip => { s with sys := { y with rbip := v &&& 0xFFFFFFF0 } }
  | .dbgen => { s with sys := { y with dbgen := v &&& 0x1FF } }
  | .ictagl => { s with sys := { y with ictagl := v } }
  | .ictagh => { s with sys := { y with ictagh := v } }
  | .icdatl => { s with sys := { y with icdatl := v } }
  | .icdath => { s with sys := { y with icdath := v } }
  | .icctrl => { s with sys := { y with icctrl := v } }
  | .iccfg => { s with sys := { y with iccfg := v } }
  | .icerr => { s with sys := { y with icerr := v } }
  | .mpcfg => { s with mpu := { m with mpcfg := putMasked m.mpcfg 0x3F00 (if s.hve then v else 0) } }
  | .mca => { s with mpu := { m with mca := v } }
  | .mcs => { s with mpu := { m with mcs := v } }
  | .mcc => { s with mpu := { m with mcr := s.checkResult } }
  | .mcr => { s with mpu := { m with mcr := v &&& (if s.hve then 0x3F3F013F else 0x0000013F) } }
  | .mci => { s with mpu := { m with mci := v &&& 0x1F } }
  | .mpidx => { s with mpu := { m with mpidx := v &&& 0x1F } }
  | .mpbk => if s.locked then s else { s with mpu := { m with mpbk := if s.prod.mpuTwoBanks then v &&& 1 else 0 } }
  | .mpla => s.writeEntry m.index .mpla v
  | .mpua => s.writeEntry m.index .mpua v
  | .mpat => s.writeEntry m.index .mpat v
  | .mpid n => if s.locked then s else { s with mpu := { m with mpid := m.mpid.set n (v &&& 0x1F) } }
  | .fxsr => { s with sys := { y with fxsr := (v &&& 0x00CEFFFF) ||| 0x00200000 } }
  | .fxst => { s with sys := { y with fxsr := putStatus y.fxsr v } }
  | .fxcfg => { s with sys := { y with fxsr := putConfig y.fxsr v } }
  | .fxxc => { s with sys := { y with fxxc := v &&& 0x3F3F3F3F } }
  | .fxxp => { s with sys := { y with fxxp := v &&& 0x1F1F1F1F } }
  | .tscountl => { s with cnt := { c with tscount := c.tscount.extractLsb' 32 32 ++ v } }
  | .tscounth => { s with cnt := { c with tscount := v ++ c.tscount.extractLsb' 0 32 } }
  | .tsctrl => { s with cnt := { c with tsctrl := v &&& 1 } }
  | .pmumctrl => { s with cnt := { c with pmumctrl := v &&& 0xFF } }
  | .pmgmctrl => { s with cnt := { c with pmgmctrl := v &&& 0xFF } }
  | .pmctrl n =>
    { s with cnt := { c with pmctrl := c.pmctrl.set n (v &&& (if s.hve then 0x01FFFF03 else 0x0000FF03)) } }
  | .pmcount n => { s with cnt := { c with pmcount := c.pmcount.set n v } }
  | .pmsubcnd n => { s with cnt := { c with pmsubcnd := c.pmsubcnd.set n v } }
  | .lscfg => { s with sys := { y with lscfg := v } }
  | .l1rcfg => { s with sys := { y with l1rcfg := v } }
  | .rdbcr => { s with sys := { y with rdbcr := v } }
  | .pswh | .rbase | .pid | .bmid | .imsr | .icsr | .fxinfo => s

/-- R28, R70: a write by LDSR: in user mode a write to PSW changes bits 4-0 only. -/
def State.ldsrWrite (s : State) (r : SReg) (v : Word) : State :=
  if r = .orig .psw ∧ s.um then s.setPsw (putMasked s.psw 0x1F v) else s.writeSr r v

end Sys2Proof.Machine
end

