-- ==== Sys2Proof/Machine/Fetch.lean ====
section
/-!
DEFINITION. Instruction fetch and what an encoding without an instruction does (60_exceptions.md R806 (d) and (e), 20_memory.md
R209, 30_encoding.md R319).
-/

namespace Sys2Proof.Machine

noncomputable section

/-- R209: the bytes at pc, enough for the longest instruction. -/
def State.fetchBytes (s : State) : List Byte := (List.range 8).map fun n => s.readByte (s.pc + BitVec.ofNat 32 n)

/-- R301: the length of the instruction at pc. -/
def State.fetchLength (s : State) : Nat := instrLength (s.readHalf s.pc).toNat (s.readHalf (s.pc + 2)).toNat

/-- R262, R264 (d): the layer that denies the fetch, the lowest halfword first. -/
def State.fetchViolation (s : State) : Option Layer :=
  (List.range (s.fetchLength / 2)).findSome? fun n =>
    let a := (s.pc + BitVec.ofNat 32 (2 * n)).toNat
    s.mpuViolation s.mode a (a + 1) [.exec] s.um

/-- R814 (a), R265, R275: MIP. MEI is not written. MEA takes pc, as R814 (a) and R265 say, or keeps its value, as 11_sysregs.md R107
says, by the product: DESIGN CHOICE (notes/assumptions/52.md). -/
def State.raiseMip (s : State) (l : Layer) : Out :=
  let hm := s.mpuHandler s.mode l
  let mea := if s.prod.mipWritesMea then s.pc else (s.ctx hm).mea
  (s.setMea hm mea (s.ctx hm).mei).raise .fe (causeMip l ||| (if s.um then 0x00040000 else 0x00200000)) 0x90 hm

/-- R806 (d): what stops the fetch: MIP, or SYSERR: 11H at a reserved address, which answers with a bus error (93_implementation_defined.md
U2, U24; DESIGN CHOICE, notes/assumptions/21.md), 11H or 13H for an error that the environment reports. -/
def State.fetchStop (s : State) : Option Out :=
  match s.fetchViolation with
  | some l => some (s.raiseMip l)
  | none =>
    if s.prod.touches .reserved s.pc s.fetchLength then some (s.raiseSyserr 0x11)
    else
      match s.env.fetchError with
      | some .bus => some (s.raiseSyserr 0x11)
      | some .safety => some (s.raiseSyserr 0x13)
      | none => none

/-- R319: an encoding that no instruction owns: UCPOP inside the area of a coprocessor whose CU bit is 0, else RIE. The area of
coprocessor 2 always gives UCPOP 82H, since CU2 is fixed 0 (R317, R319 (c)). -/
def State.undefinedEncoding (s : State) (w : Nat) : Out :=
  match coprocArea w with
  | some .fpu => s.withFpu s.raiseRie
  | some .fxu => s.withFxu s.raiseRie
  | some .reserved => s.raiseUcpop 2
  | none => s.raiseRie

/-- R806 (d) to (g): fetch, decode, execute; `run` is the meaning of an instruction. -/
def State.fetchRun (s : State) (run : Instr → State → Out) : Out :=
  match s.fetchStop with
  | some o => o
  | none =>
    s.noteDevice s.pc s.fetchLength [.exec] <|
      match decodeBytes s.prod.enc s.fetchBytes with
      | .instr i _ _ => run i s
      | .undefined w => s.undefinedEncoding w
      | .truncated => s.raiseRie

end

end Sys2Proof.Machine
end

