-- ==== Sys2Proof/Machine/Interrupt.lean ====
section
/-!
DEFINITION. Interrupts: selection, masking, acceptance, the table reference method, the register bank save (60_exceptions.md R802,
R803, R807, R814 (c), R820 to R825, R830 to R832; 61_virtualization.md R904, R905).
-/

namespace Sys2Proof.Machine

/-- R803: a request of a kind that carries no priority is acknowledgeable. -/
def State.acceptsFe (s : State) (k : IntKind) : Bool :=
  match k with
  | .feint => !s.host.npBit
  | .gmfeint => !s.guest.npBit
  | .bgfeint => !s.guest.npBit && !s.host.idBit && !s.host.npBit
  | _ => false

/-- R803: HostMaskedEI(p). -/
def State.hostMaskedEi (s : State) (p : Nat) : Bool :=
  s.hostPrioMasks p || decide (s.host.plm ≤ p) || s.host.idBit || s.host.npBit

/-- R803: GuestMaskedEI(p). -/
def State.guestMaskedEi (s : State) (p : Nat) : Bool :=
  decide (s.guest.eimask ≤ p) || decide (s.guest.plm ≤ p) || s.guest.idBit || s.guest.npBit

/-- R803: a request with priority `p` is acknowledgeable. -/
def State.acceptsEi (s : State) (k : IntKind) (p : Nat) : Bool :=
  match k with
  | .eiint => !s.hostMaskedEi p
  | .gmeiint => !s.guestMaskedEi p
  | .bgeiint => !s.guestMaskedEi p && !s.host.idBit && !s.host.npBit
  | _ => false

/-- A request that the step accepts. -/
inductive Accepted where
  | fenmi
  | fe (k : IntKind) (q : FeRequest)
  | ei (k : IntKind) (q : EiRequest)
  | syserr (q : SyserrRequest)
deriving DecidableEq, Repr

/-- R802: the order of the kinds, a smaller number first. -/
def IntKind.rank : IntKind → Nat
  | .fenmi => 0
  | .feint => 1
  | .eiint => 2
  | .bgfeint => 3
  | .bgeiint => 4
  | .gmfeint => 5
  | .gmeiint => 7

/-- A SYSERR that the environment reports stands in that order where R802 has the terminating SYSERR, a pending one behind every
interrupt. DESIGN CHOICE (notes/assumptions/50.md). -/
def SyserrRequest.rank (q : SyserrRequest) : Nat := if q.pending then 8 else 6

/-- The acknowledgeable request on the FEINT input, with its kind. -/
def State.feOffer (s : State) : Option (IntKind × FeRequest) :=
  match s.env.fe with
  | none => none
  | some q => ((s.feKind q).filter s.acceptsFe).map fun k => (k, q)

/-- The acknowledgeable request on the EIINT input, with its kind. -/
def State.eiOffer (s : State) : Option (IntKind × EiRequest) :=
  match s.env.ei with
  | none => none
  | some q => ((s.eiKind q).filter fun k => s.acceptsEi k q.prio.toNat).map fun k => (k, q)

/-- R944, R815, R886: a terminating SYSERR that was detected during guest mode operation does not occur in host mode: its request
waits for guest mode. -/
def State.syserrOccurs (s : State) (q : SyserrRequest) : Bool := q.pending || !q.guest || s.mode == .guest

/-- R806 (c): the acknowledgeable requests, each with its place in the order of R802. A SYSERR has no mask (R803). -/
def State.offers (s : State) : List (Nat × Accepted) :=
  (if s.env.fenmi then [(IntKind.fenmi.rank, .fenmi)] else [])
    ++ (s.feOffer.map fun f => (f.1.rank, .fe f.1 f.2)).toList
    ++ (s.eiOffer.map fun e => (e.1.rank, .ei e.1 e.2)).toList
    ++ ((s.env.syserr.filter s.syserrOccurs).map fun q => (q.rank, .syserr q)).toList

/-- The first of the requests with the smallest number. -/
def highest : List (Nat × Accepted) → Option (Nat × Accepted)
  | [] => none
  | x :: xs =>
    match highest xs with
    | none => some x
    | some y => if x.1 ≤ y.1 then some x else some y

/-- R806 (c): the acknowledgeable request of the highest priority. -/
def State.pick (s : State) : Option Accepted := (highest s.offers).map (·.2)

/-- R832, 44_system.md R538: a request of a terminating exception is pending, masked or not: it releases HALT and SNOOZE. That a
terminating SYSERR does is a DESIGN CHOICE (notes/assumptions/50.md). -/
def State.releases (s : State) : Bool :=
  s.env.fenmi || (s.env.fe.bind s.feKind).isSome || (s.env.ei.bind s.eiKind).isSome
    || s.env.syserr.any fun q => !q.pending && s.syserrOccurs q

/-! ## The entry of EIINT and GMEIINT -/

/-- An exception that cancels the entry of an interrupt (R814 (c), R815): the PSW and PSWH of `s`, before the entry, are in force
again; `t` is the state the entry had reached. EIPC, EIPSW and EIPSWH keep what the entry saved first (R814 (c), Figure 4.10
Note 2). -/
def State.cancelEntry (s t : State) (cause offset : Word) (hm : Mode) : State :=
  let u := { t with
    host := { t.host with psw := s.host.psw }
    guest := { t.guest with psw := s.guest.psw }
    sys := { t.sys with pswh := s.sys.pswh } }
  (u.takeException .fe cause offset s.pc hm true).emit (.terminating hm)

/-- R266, R814 (c): an access of the entry hardware, checked with the mode and the privilege of the entered handler. That a reserved address
cancels the entry by SYSERR is a DESIGN CHOICE (notes/assumptions/21.md). -/
def State.entryAccess (s t : State) (hm : Mode) (x : Access) (k : Out) : Out :=
  let hi := x.adr.toNat + x.size - 1
  match t.mpuViolation hm x.adr.toNat hi x.kinds false with
  | some l =>
    let h := t.mpuHandler hm l
    .next (s.cancelEntry (t.setMea h x.adr x.mei)
      (t.deniedBits hm l x.adr.toNat hi x.kinds false ||| causeMdpEntry l) 0x90 h)
  | none =>
    if t.prod.touches .reserved x.adr x.size then .next (s.cancelEntry t t.prod.causeReserved 0x10 (t.syserrHandler hm))
    else t.noteDevice x.adr x.size x.kinds k

/-- R807: the base register that an entry handled in a mode selects: its DV is bit 1, its RINT bit 0. -/
def State.vectorReg (s : State) (hm : Mode) : Word :=
  match hm with
  | .host => if s.host.psw.getLsbD 15 then s.host.ebase else s.prod.rbase
  | .guest => s.guest.ebase

/-- R807: the offset of an EIINT or GMEIINT by the direct vector method. -/
def eiOffset (rint : Bool) (p : Nat) : Word := if rint then 0x100 else 0x100 + 0x10 * BitVec.ofNat 32 (min p 15)

/-- R822: MEI of a table reference and of a bank save. -/
def tableAccess (adr : Word) : Access := ⟨adr, 4, [.read], false, false, meiWord 0 0 2 false 21 false⟩
@[inherit_doc tableAccess]
def bankAccess (adr : Word) : Access := ⟨adr, 4, [.write], false, false, meiWord 0 0 2 false 22 true⟩

/-- R807: the handler's address, then what follows. -/
def State.withHandler (s t : State) (hm : Mode) (q : EiRequest) (k : Word → Out) : Out :=
  let base := t.vectorReg hm
  if q.table && !base.getLsbD 1 then
    let adr := (t.ctx hm).intbp + BitVec.ofNat 32 (q.channel.toNat * 4)
    s.entryAccess t hm (tableAccess adr) (k (t.readWord adr))
  else k (t.handlerAddress hm (eiOffset (base.getLsbD 0) q.prio.toNat))

/-- R904: the index of RBCR0.BE and RBCR1.NC for a priority. -/
def bankIndex (p : Nat) : Nat := min p 15

/-- R904, 92_eei_decisions.md D32: the interrupt uses a register bank: its channel selects the table reference method, BE has the bit
of its priority, and banks can be used where it is handled. The request's own flag takes no part (notes/assumptions/51.md). Nor does
PID bit 18 (11_sysregs.md R92), which says whether the product has the register bank function: no rule says what BE does on a product
without it, and the model has the banks whatever the bit is. DESIGN CHOICE (notes/assumptions/56.md). -/
def State.bankRequested (s : State) (hm : Mode) (q : EiRequest) : Bool :=
  q.table && s.sys.rbcr0.getLsbD (bankIndex q.prio.toNat) && (hm == .guest || !s.hve)

/-- RBNR.BN (R117) and RBCR0.MD (R115). -/
def State.bankNumber (s : State) : Nat := (s.sys.rbnr.extractLsb' 0 6).toNat
@[inherit_doc State.bankNumber]
def State.bankMode1 (s : State) : Bool := s.sys.rbcr0.getLsbD 16

/-- R905: the bytes of a bank. -/
def State.bankSize (s : State) : Word := if s.bankMode1 then 0x90 else 0x60

/-- R905: the general registers of a bank in save order. -/
def State.bankRegs (s : State) : List Reg :=
  (List.range 19).map (fun n => BitVec.ofNat 5 (n + 1))
    ++ (if s.bankMode1 then (List.range 12).map (fun n => BitVec.ofNat 5 (n + 20)) else [30])

/-- R905: the words of a bank stored downward from `adr`, each checked; then what follows. -/
def State.storeBank (s : State) (hm : Mode) : List Word → Word → State → (State → Out) → Out
  | [], _, t, k => k t
  | w :: ws, adr, t, k => s.entryAccess t hm (bankAccess adr) (s.storeBank hm ws (adr - 4) (t.writeWord adr w) k)

/-- R904, R905: the automatic context save, if the interrupt asks for it; SYSERR 1CH when no bank is left. -/
def State.withBank (s t : State) (hm : Mode) (q : EiRequest) (cause : Word) (k : State → Out) : Out :=
  if !t.bankRequested hm q then k t
  else if ((t.ctx hm).intcfg.extractLsb' 16 6).toNat < t.bankNumber || t.bankNumber == 63 then
    let h := t.syserrHandler hm
    .next (s.cancelEntry t 0x1C 0x10 h)
  else
    let words := [s.pc, (s.ctx hm).psw, cause, s.sys.fpsr] ++ t.bankRegs.map s.reg
    let top := t.sys.rbip - BitVec.ofNat 32 t.bankNumber * t.bankSize
    s.storeBank hm words (top - 4) t fun u =>
      let u1 := { u with sys := { u.sys with rbnr := BitVec.ofNat 32 (t.bankNumber + 1) } }
      let keepId := u1.sys.rbcr1.getLsbD (bankIndex q.prio.toNat)
      k (u1.setCtx hm { u1.ctx hm with psw := putBit (u1.ctx hm).psw 5 keepId })

/-- R821, R823: the priority recorded: ISPR or EIMASK in host mode by INTCFG.EPL, EIMASK in guest mode. -/
def State.recordPriority (s : State) (hm : Mode) (p : BitVec 6) : State :=
  let c := s.ctx hm
  let withMask := s.setCtx hm { c with psw := putMasked c.psw 0x03F00000 (p.setWidth 32 <<< 20) }
  match hm with
  | .guest => withMask
  | .host =>
    if c.intcfg.getLsbD 1 then withMask
    else if !c.intcfg.getLsbD 0 && decide (p.toNat ≤ 15) then
      { s with sys := { s.sys with ispr := putBit s.sys.ispr p.toNat true } }
    else s

/-- R821, R823: acceptance of an EIINT or GMEIINT. -/
def State.acceptEi (s : State) (k : IntKind) (q : EiRequest) (hm : Mode) : Out :=
  let cause := s.prod.causeEiint + q.channel.setWidth 32
  let t := s.saveContext .ei s.pc hm false
  s.withHandler t hm q fun handler =>
    s.withBank t hm q cause fun u =>
      let v := (u.setCtx hm ((u.ctx hm).setCause .ei cause)).recordPriority hm q.prio
      .next ({ v with
        pc := evenPc handler
        link := { v.link with bit := false }
        env := { v.env with ei := none }
        out := v.out ++ [.accepted k, .acknowledge k] })

/-- R824: the cause code of a background interrupt. -/
def backgroundCause (base : Word) (g : Option (BitVec 3)) (channel : Word) : Word :=
  base ||| ((g.getD 0).setWidth 32) <<< 16 ||| channel

/-- R815, R800 (a): a SYSERR that the environment reports, taken between two instructions, so that the return pc is pc for both types;
the request is withdrawn. DESIGN CHOICE (notes/assumptions/50.md). -/
def State.acceptSyserr (s : State) (q : SyserrRequest) : State :=
  let hm := s.syserrHandler s.mode
  let t := s.takeException .fe (0x10 + q.code.setWidth 32) 0x10 s.pc hm true
  { t with env := { t.env with syserr := none } }.emit (if q.pending then .pending hm else .terminating hm)

/-- R806 (c), R820 to R824: acceptance of a request. -/
def State.accept (s : State) (a : Accepted) : Out :=
  match a with
  | .fenmi =>
    let t := s.takeException .fe s.prod.causeFenmi 0xE0 s.pc .host false
    .next { t with env := { t.env with fenmi := false }, out := t.out ++ [.accepted .fenmi, .acknowledge .fenmi] }
  | .fe .bgfeint q =>
    let t := s.takeException .ei (backgroundCause 0xD800 q.guest (q.channel.setWidth 32)) 0xD0 s.pc .host false
    .next (t.emit (.accepted .bgfeint))
  | .fe k q =>
    let hm := if k = .gmfeint then .guest else .host
    let t := s.takeException .fe (s.prod.causeFeint + q.channel.setWidth 32) 0xF0 s.pc hm false
    .next { t with env := { t.env with fe := none }, out := t.out ++ [.accepted k, .acknowledge k] }
  | .ei .bgeiint q =>
    let t := s.takeException .ei (backgroundCause 0xD000 q.guest (q.channel.setWidth 32)) 0xD0 s.pc .host false
    .next (t.emit (.accepted .bgeiint))
  | .ei k q => s.acceptEi k q (if k = .gmeiint then .guest else .host)
  | .syserr q => .next (s.acceptSyserr q)

end Sys2Proof.Machine
end

