-- ==== Sys2Proof/Machine/Count.lean ====
section
/-!
DEFINITION. What a step does besides its instruction: the environment's input, reset, HALT and SNOOZE, the counters, the address of
the last completed instruction (60_exceptions.md R806 (a) and (b), R850, R851; 70_reset_and_hazards.md R930 to R932).
-/

namespace Sys2Proof.Machine

noncomputable section

/-- 20_memory.md R215, R204: memory after the bytes that other masters and devices have written, in order. -/
def State.writeBytes (s : State) (ws : List (Word × Byte)) : State := ws.foldl (fun t w => t.writeByte w.1 w.2) s

/-- What a step in mode `m` has taken of the environment: the writes are done, and a SYSERR that is presented in guest mode has been
detected during guest mode operation (R944). -/
def Env.taken (e : Env) (m : Mode) : Env :=
  { e with writes := [], syserr := e.syserr.map fun q => { q with guest := q.guest || m == .guest } }

/-- The start of a step: the next input of the environment is presented and the outputs of the last step are gone; what other masters
wrote since then stands in memory; and the link is lost where they wrote into its range or the environment says so (R518 (d)). -/
def State.begin (s : State) : State :=
  let s1 := match s.inputs with
    | [] => { s with out := [] }
    | e :: rest => { s with env := e, inputs := rest, out := [] }
  let ws := s1.env.writes
  let s2 := { s1.writeBytes ws with env := s1.env.taken s.mode }
  if s1.env.linkLoss || ws.any (fun w => s1.link.covers w.1) then s2.dropLink else s2

/-- R930: the effect of reset. Memory is kept, requests are dropped, FEPC takes the address of the last completed instruction, or a
free value if there is none (R932). -/
def State.afterReset (s : State) : State :=
  let r := State.resetOf s.prod
  { r with
    host := { r.host with fepc := s.lastPc.getD (Config.freeWord s.free) }
    mem := s.mem
    lastPc := s.lastPc
    inputs := s.inputs
    free := s.free + 1 }

/-- R806 (b): the running state, if the core runs or is released; `none`: it stays in HALT or SNOOZE. -/
def State.wake (s : State) : Option State :=
  match s.halt with
  | .running => some s
  | .halted => if s.releases then some { s with halt := .running } else none
  | .snoozing n => if s.releases || n == 0 then some { s with halt := .running } else none

/-- R806 (b): a step spent in HALT or SNOOZE. -/
def State.pause (s : State) : State :=
  match s.halt with
  | .snoozing n => { s with halt := .snoozing (n - 1) }
  | _ => s

/-- The instruction of the step completed: no resumable exception was raised. -/
def State.completed (s : State) : Bool :=
  !s.out.any fun e => match e with
    | .resumable _ => true
    | _ => false

/-- The instruction takes a branch at `s`, wherever it goes. -/
def branches (i : Instr) (s : State) : Bool :=
  match i with
  | .bcondF1 cccc _ | .bcondF2 cccc _ => s.cond cccc
  | .loop _ reg1 => s.reg reg1 != 1
  | .jarlF1 .. | .jarlF2 .. | .jarlF3 .. | .jmpF1 .. | .jmpF2 .. | .jrF1 .. | .jrF2 .. | .callt .. | .ctret | .switch ..
  | .disposeF2 .. | .eiret | .feret | .fetrap .. | .trap .. | .syscall .. | .hvtrap .. => true
  | _ => false

/-- R155, event 18H: the instruction at pc branches, or the step went on elsewhere than at the next instruction. -/
def branched (s t : State) : Bool :=
  t.pc != s.pc + BitVec.ofNat 32 s.fetchLength
    || match decodeBytes s.prod.enc s.fetchBytes with
      | .instr i _ _ => branches i s
      | _ => false

/-- R155, events 10H and 18H: a step that ran an instruction executed it: the instruction completed, or it caused the transition from
guest to host mode. Whether another instruction that a resumable exception stopped was executed is not said: a free value (`free`,
notes/assumptions/12.md). -/
def executed (s t : State) (free : Nat) : Bool :=
  t.completed || (s.mode == .guest && t.mode == .host) || Config.freeBit free

/-- R155: how often the event CND happened in a step from `s` to `t` that ran an instruction, or not (`ran`). `host` and `guest` are
the count enables; an instruction counts in the mode that it was executed in. Events that the sources do not relate to
instructions advance by a free amount (D8). -/
def eventCount (s t : State) (ran : Bool) (cnd : Nat) (host guest : Bool) (free : Nat) : Nat :=
  let on (m : Mode) : Bool := match m with
    | .host => host
    | .guest => guest
  let count (p : Event → Bool) : Nat := (t.out.filter p).length
  match cnd with
  | 0x10 => if ran && on s.mode && executed s t free then 1 else 0
  | 0x18 => if ran && on s.mode && executed s t free && branched s t then 1 else 0
  | 0x20 => count fun e => match e with
    | .accepted .eiint => host
    | .accepted .gmeiint => guest
    | _ => false
  | 0x21 => count fun e => match e with
    | .accepted .feint => host
    | .accepted .gmfeint => guest
    | _ => false
  | 0x22 => count fun e => match e with
    | .accepted .gmfeint | .accepted .gmeiint => guest
    | .accepted _ => host
    | .terminating m => on m
    | _ => false
  | 0x23 => count fun e => match e with
    | .resumable m | .pending m => on m
    | _ => false
  | 0x24 => count fun e => match e with
    | .accepted .bgfeint | .accepted .bgeiint => guest
    | _ => false
  | _ => Config.freeTicks free

/-- R155, R156: performance counter `n` after a step. -/
def countChannel (s : State) (ran : Bool) (t : State) (n : Fin 8) : State :=
  let ctrl := s.cnt.pmctrl[n]
  if ctrl.getLsbD 0 then
    let host := !s.hve || ctrl.getLsbD 24
    let guest := s.hve && ctrl.getLsbD (16 + s.gpid.toNat)
    let k := eventCount s t ran (ctrl.extractLsb' 8 8).toNat host guest (s.free + 1 + n)
    let now := t.cnt.pmcount[n].toNat + k
    { t with cnt := { t.cnt with
      pmcount := t.cnt.pmcount.set n (BitVec.ofNat 32 now)
      pmctrl := if 2 ^ 32 ≤ now then t.cnt.pmctrl.set n (t.cnt.pmctrl[n] ||| 2) else t.cnt.pmctrl } }
  else t

/-- R850: the timestamp counter after a step from `s` to `t`. -/
def countTime (s t : State) : State :=
  if s.cnt.tsctrl.getLsbD 0 && t.cnt.tsctrl.getLsbD 0 then
    { t with cnt := { t.cnt with tscount := t.cnt.tscount + BitVec.ofNat 64 (Config.freeTicks s.free + 1) } }
  else t

/-- The end of a step from `s` to `t`: counters, and the address of a completed instruction. -/
def State.finish (s : State) (ran : Bool) (t : State) : State :=
  let u := (List.finRange 8).foldl (countChannel s ran) (countTime s t)
  { u with
    lastPc := if ran && t.completed then some s.pc else u.lastPc
    free := u.free + 9 }

end

end Sys2Proof.Machine
end

