-- ==== Sys2Proof/Machine/Operands.lean ====
section
/-!
DEFINITION. The operand forms: immediates and displacements completed and extended (30_encoding.md R320, 42_load_store.md R469 to
R471), register lists (43_special_stack_atomic.md R503), shift amounts, and the access of each load and store form (R822).
-/

namespace Sys2Proof.Machine

/-- sext: a field sign-extended to a word. -/
def sextW {n : Nat} (v : BitVec n) : Word := v.signExtend 32

/-- zext: a field zero-extended to a word. -/
def zextW {n : Nat} (v : BitVec n) : Word := v.setWidth 32

/-- A displacement encoded without its `k` low zero bits. -/
def dispLow {n : Nat} (v : BitVec n) (k : Nat) : BitVec (n + k) := v ++ 0#k

/-- The low five bits of a register, a shift amount (R416). -/
def shiftAmount (v : Word) : Nat := (v.extractLsb' 0 5).toNat

/-- R503: the registers of list12 in ascending order, with the bit of the 12-bit field (bits 31-21 of the instruction, then bit 0)
that selects each. -/
def list12Table : List (Nat × Reg) :=
  [(7, 20), (6, 21), (5, 22), (4, 23), (11, 24), (10, 25), (9, 26), (8, 27), (3, 28), (2, 29), (0, 30), (1, 31)]

/-- R503: the registers a list12 selects, in ascending order. -/
def list12Regs (l : BitVec 12) : List Reg := (list12Table.filter fun p => l.getLsbD p.1).map (·.2)

/-- The registers `h` to `t` in ascending order; none if h > t (R506, R507). -/
def regRange (h t : Reg) : List Reg := ((List.range 32).filter fun n => decide (h.toNat ≤ n) && decide (n ≤ t.toNat)).map (BitVec.ofNat 5)

/-- R205: the data sizes a general register is loaded from or stored to with. -/
inductive Size where
  | byte
  | half
  | word
deriving DecidableEq, Repr

/-- Bytes of a size. -/
def Size.bytes : Size → Nat
  | .byte => 1
  | .half => 2
  | .word => 4

/-- MEI.DS of a size (R822). -/
def Size.ds : Size → BitVec 3
  | .byte => 0
  | .half => 1
  | .word => 2

/-- R822: the access of a load of a general register. -/
def loadAccess (adr : Word) (z : Size) (len : BitVec 4) (r : Reg) (u : Bool) (itype : BitVec 5) : Access :=
  ⟨adr, z.bytes, [.read], true, false, meiWord len r z.ds u itype false⟩

/-- R822: the access of a store of a general register. -/
def storeAccess (adr : Word) (z : Size) (len : BitVec 4) (r : Reg) (itype : BitVec 5) : Access :=
  ⟨adr, z.bytes, [.write], true, false, meiWord len r z.ds false itype true⟩

/-- R450: the value a load puts into a register: sign-extended, or zero-extended if `u`. -/
def State.loadValue (s : State) (adr : Word) (z : Size) (u : Bool) : Word :=
  match z with
  | .byte => if u then zextW (s.readByte adr) else sextW (s.readByte adr)
  | .half => if u then zextW (s.readHalf adr) else sextW (s.readHalf adr)
  | .word => s.readWord adr

/-- R450: the low bytes of a register stored. -/
def State.storeValue (s : State) (adr : Word) (z : Size) (v : Word) : State :=
  match z with
  | .byte => s.writeByte adr (v.extractLsb' 0 8)
  | .half => s.writeHalf adr (v.extractLsb' 0 16)
  | .word => s.writeWord adr v

/-- R450: a load into `dst`; R469: then `base` is changed by `step` bytes, if it is given, and wins where it is `dst`. -/
def State.loadTo (s : State) (x : Access) (z : Size) (u : Bool) (dst : Reg) (update : Option (Reg × Word)) (len : Nat) : Out :=
  s.access x <|
    let s1 := s.setReg dst (s.loadValue x.adr z u)
    let s2 := match update with
      | some (r, v) => s1.setReg r v
      | none => s1
    .next (s2.advance len)

/-- R450: a store of `src`; R469: then `base` takes its new value, if it is given. -/
def State.storeFrom (s : State) (x : Access) (z : Size) (src : Reg) (update : Option (Reg × Word)) (len : Nat) : Out :=
  s.access x <|
    let s1 := s.storeValue x.adr z (s.reg src)
    let s2 := match update with
      | some (r, v) => s1.setReg r v
      | none => s1
    .next (s2.advance len)

end Sys2Proof.Machine
end

