-- ==== Sys2Proof/Machine/Arith.lean ====
section
/-!
DEFINITION. Arithmetic, divide, saturated, multiply, multiply-accumulate and logical instructions (40_arith_logic.md).
-/

namespace Sys2Proof.Machine

/-- A result with its four flags into a register; `len` bytes. -/
def State.arith (s : State) (dst : Reg) (r : Word × Flags) (len : Nat) : Out :=
  .next (((s.setReg dst r.1).setFlags r.2).advance len)

/-- A logical result into a register: OV 0, S and Z; CY kept (R352). -/
def State.logic (s : State) (dst : Reg) (r : Word) (len : Nat) : Out :=
  .next (((s.setReg dst r).setFlagsNoCy (logFlags r)).advance len)

/-- A result that writes no flag. -/
def State.plain (s : State) (dst : Reg) (r : Word) (len : Nat) : Out := .next ((s.setReg dst r).advance len)

/-- A saturated result with CY and OV of the exact operation, S and Z of the result, SAT sticky (R371). -/
def State.saturated (s : State) (dst : Reg) (f : Flags) (r : Word) (len : Nat) : Out :=
  .next ((((s.setReg dst r).setFlags (satFlags f r)).setSat f.ov).advance len)

/-- R371: a saturating sum. -/
def State.satAdd (s : State) (dst : Reg) (a b : Word) (len : Nat) : Out :=
  s.saturated dst (addF a b false).2 (satWord (a.toInt + b.toInt)) len

/-- R372: a saturating difference. -/
def State.satSub (s : State) (dst : Reg) (a b : Word) (len : Nat) : Out :=
  s.saturated dst (subF a b false).2 (satWord (a.toInt - b.toInt)) len

/-- R364: the quotient into `qreg`, unless the divisor is 0; OV, S and Z. -/
def State.divide1 (s : State) (qreg : Reg) (d : Division) (len : Nat) : Out :=
  let s1 := match d.quotient with
    | some q => s.setReg qreg q
    | none => s
  .next ((s1.setFlagsNoCy d.flags).advance len)

/-- R364: the quotient into `qreg` (unless the divisor is 0) and the remainder into `rreg`. Where they are one register the
remainder is kept and OV, S and Z are free values (R364 (d)). -/
def State.divide2 (s : State) (qreg rreg : Reg) (d : Division) : Out :=
  let s1 := match d.quotient with
    | some q => s.setReg qreg q
    | none => s
  let s2 := s1.setReg rreg d.remainder
  if qreg = rreg then
    let f := s.free
    .next (((s2.setFlagsNoCy ⟨false, Config.freeBit f, Config.freeBit (f + 1), Config.freeBit (f + 2)⟩).skipFree 3).advance 4)
  else .next ((s2.setFlagsNoCy d.flags).advance 4)

/-- R383: a 64-bit product, the low word into `lo`, then the high word into `hi`. -/
def State.product (s : State) (lo hi : Reg) (p : DWord) : Out :=
  .next (((s.setReg lo (p.extractLsb' 0 32)).setReg hi (p.extractLsb' 32 32)).advance 4)

/-- The low halfword of a register, signed. -/
def lowSigned (v : Word) : Int := (v.extractLsb' 0 16).toInt

/-- R354 -/
def execAddF1 (reg1 reg2 : Reg) (s : State) : Out := s.arith reg2 (addF (s.reg reg2) (s.reg reg1) false) 2
/-- R354 -/
def execAddF2 (imm5 : BitVec 5) (reg2 : Reg) (s : State) : Out := s.arith reg2 (addF (s.reg reg2) (sextW imm5) false) 2
/-- R355 -/
def execAddi (imm16 : BitVec 16) (reg1 reg2 : Reg) (s : State) : Out :=
  s.arith reg2 (addF (s.reg reg1) (sextW imm16) false) 4
/-- R356 -/
def execCmpF1 (reg1 reg2 : Reg) (s : State) : Out := s.arith 0 (subF (s.reg reg2) (s.reg reg1) false) 2
/-- R356 -/
def execCmpF2 (imm5 : BitVec 5) (reg2 : Reg) (s : State) : Out := s.arith 0 (subF (s.reg reg2) (sextW imm5) false) 2
/-- R357 -/
def execMovF1 (reg1 reg2 : Reg) (s : State) : Out := s.plain reg2 (s.reg reg1) 2
/-- R357 -/
def execMovF2 (imm5 : BitVec 5) (reg2 : Reg) (s : State) : Out := s.plain reg2 (sextW imm5) 2
/-- R357 -/
def execMovF3 (imm32 : BitVec 32) (reg1 : Reg) (s : State) : Out := s.plain reg1 imm32 6
/-- R358 -/
def execMovea (imm16 : BitVec 16) (reg1 reg2 : Reg) (s : State) : Out := s.plain reg2 (s.reg reg1 + sextW imm16) 4
/-- R359 -/
def execMovhi (imm16 : BitVec 16) (reg1 reg2 : Reg) (s : State) : Out := s.plain reg2 (s.reg reg1 + (imm16 ++ 0#16)) 4
/-- R360 -/
def execSub (reg1 reg2 : Reg) (s : State) : Out := s.arith reg2 (subF (s.reg reg2) (s.reg reg1) false) 2
/-- R361 -/
def execSubr (reg1 reg2 : Reg) (s : State) : Out := s.arith reg2 (subF (s.reg reg1) (s.reg reg2) false) 2
/-- R362 -/
def execAdf (cccc : BitVec 4) (reg1 reg2 reg3 : Reg) (s : State) : Out :=
  s.arith reg3 (addF (s.reg reg1) (s.reg reg2) (s.cond cccc)) 4
/-- R363 -/
def execSbf (cccc : BitVec 4) (reg1 reg2 reg3 : Reg) (s : State) : Out :=
  s.arith reg3 (subF (s.reg reg2) (s.reg reg1) (s.cond cccc)) 4
/-- R365 -/
def execDiv (reg1 reg2 reg3 : Reg) (s : State) : Out :=
  s.divide2 reg2 reg3 (divideSigned (s.reg reg2).toInt (s.reg reg1).toInt)
/-- R366 -/
def execDivhF1 (reg1 reg2 : Reg) (s : State) : Out :=
  s.divide1 reg2 (divideSigned (s.reg reg2).toInt (lowSigned (s.reg reg1))) 2
/-- R366 -/
def execDivhF2 (reg1 reg2 reg3 : Reg) (s : State) : Out :=
  s.divide2 reg2 reg3 (divideSigned (s.reg reg2).toInt (lowSigned (s.reg reg1)))
/-- R367 -/
def execDivhu (reg1 reg2 reg3 : Reg) (s : State) : Out :=
  s.divide2 reg2 reg3 (divideUnsigned (s.reg reg2).toNat ((s.reg reg1).extractLsb' 0 16).toNat)
/-- R368 -/
def execDivq (reg1 reg2 reg3 : Reg) (s : State) : Out :=
  s.divide2 reg2 reg3 (divideSigned (s.reg reg2).toInt (s.reg reg1).toInt)
/-- R369 -/
def execDivqu (reg1 reg2 reg3 : Reg) (s : State) : Out :=
  s.divide2 reg2 reg3 (divideUnsigned (s.reg reg2).toNat (s.reg reg1).toNat)
/-- R370 -/
def execDivu (reg1 reg2 reg3 : Reg) (s : State) : Out :=
  s.divide2 reg2 reg3 (divideUnsigned (s.reg reg2).toNat (s.reg reg1).toNat)
/-- R371 -/
def execSataddF1 (reg1 reg2 : Reg) (s : State) : Out := s.satAdd reg2 (s.reg reg2) (s.reg reg1) 2
/-- R371 -/
def execSataddF2 (imm5 : BitVec 5) (reg2 : Reg) (s : State) : Out := s.satAdd reg2 (s.reg reg2) (sextW imm5) 2
/-- R371 -/
def execSataddF3 (reg1 reg2 reg3 : Reg) (s : State) : Out := s.satAdd reg3 (s.reg reg2) (s.reg reg1) 4
/-- R372 -/
def execSatsubF1 (reg1 reg2 : Reg) (s : State) : Out := s.satSub reg2 (s.reg reg2) (s.reg reg1) 2
/-- R372 -/
def execSatsubF2 (reg1 reg2 reg3 : Reg) (s : State) : Out := s.satSub reg3 (s.reg reg2) (s.reg reg1) 4
/-- R373 -/
def execSatsubi (imm16 : BitVec 16) (reg1 reg2 : Reg) (s : State) : Out := s.satSub reg2 (s.reg reg1) (sextW imm16) 4
/-- R374 -/
def execSatsubr (reg1 reg2 : Reg) (s : State) : Out := s.satSub reg2 (s.reg reg1) (s.reg reg2) 2
/-- R383 -/
def execMulF1 (reg1 reg2 reg3 : Reg) (s : State) : Out :=
  s.product reg2 reg3 ((s.reg reg2).signExtend 64 * (s.reg reg1).signExtend 64)
/-- R383 -/
def execMulF2 (imm9 : BitVec 9) (reg2 reg3 : Reg) (s : State) : Out :=
  s.product reg2 reg3 ((s.reg reg2).signExtend 64 * imm9.signExtend 64)
/-- R384 -/
def execMulhF1 (reg1 reg2 : Reg) (s : State) : Out :=
  s.plain reg2 (BitVec.ofInt 32 (lowSigned (s.reg reg2) * lowSigned (s.reg reg1))) 2
/-- R384 -/
def execMulhF2 (imm5 : BitVec 5) (reg2 : Reg) (s : State) : Out :=
  s.plain reg2 (BitVec.ofInt 32 (lowSigned (s.reg reg2) * imm5.toInt)) 2
/-- R385 -/
def execMulhi (imm16 : BitVec 16) (reg1 reg2 : Reg) (s : State) : Out :=
  s.plain reg2 (BitVec.ofInt 32 (lowSigned (s.reg reg1) * imm16.toInt)) 4
/-- R386 -/
def execMuluF1 (reg1 reg2 reg3 : Reg) (s : State) : Out :=
  s.product reg2 reg3 ((s.reg reg2).setWidth 64 * (s.reg reg1).setWidth 64)
/-- R386 -/
def execMuluF2 (imm9 : BitVec 9) (reg2 reg3 : Reg) (s : State) : Out :=
  s.product reg2 reg3 ((s.reg reg2).setWidth 64 * imm9.setWidth 64)
/-- R387 -/
def execMac (reg1 reg2 : Reg) (reg3 reg4 : RegPair) (s : State) : Out :=
  .next ((s.setRegPair reg4 ((s.reg reg2).signExtend 64 * (s.reg reg1).signExtend 64 + s.regPair reg3)).advance 4)
/-- R388 -/
def execMacu (reg1 reg2 : Reg) (reg3 reg4 : RegPair) (s : State) : Out :=
  .next ((s.setRegPair reg4 ((s.reg reg2).setWidth 64 * (s.reg reg1).setWidth 64 + s.regPair reg3)).advance 4)
/-- R375 -/
def execAnd (reg1 reg2 : Reg) (s : State) : Out := s.logic reg2 (s.reg reg2 &&& s.reg reg1) 2
/-- R376 -/
def execAndi (imm16 : BitVec 16) (reg1 reg2 : Reg) (s : State) : Out := s.logic reg2 (s.reg reg1 &&& zextW imm16) 4
/-- R377 -/
def execNot (reg1 reg2 : Reg) (s : State) : Out := s.logic reg2 (~~~ s.reg reg1) 2
/-- R378 -/
def execOr (reg1 reg2 : Reg) (s : State) : Out := s.logic reg2 (s.reg reg2 ||| s.reg reg1) 2
/-- R379 -/
def execOri (imm16 : BitVec 16) (reg1 reg2 : Reg) (s : State) : Out := s.logic reg2 (s.reg reg1 ||| zextW imm16) 4
/-- R380 -/
def execTst (reg1 reg2 : Reg) (s : State) : Out := s.logic 0 (s.reg reg2 &&& s.reg reg1) 2
/-- R381 -/
def execXor (reg1 reg2 : Reg) (s : State) : Out := s.logic reg2 (s.reg reg2 ^^^ s.reg reg1) 2
/-- R382 -/
def execXori (imm16 : BitVec 16) (reg1 reg2 : Reg) (s : State) : Out := s.logic reg2 (s.reg reg1 ^^^ zextW imm16) 4

end Sys2Proof.Machine
end

