-- ==== Sys2Proof/Machine/Branch.lean ====
section
/-!
DEFINITION. Branch and loop instructions (41_data_bit_branch.md R400 to R404).
-/

namespace Sys2Proof.Machine

/-- R400 -/
def execBcondF1 (cccc : BitVec 4) (disp9 : BitVec 8) (s : State) : Out :=
  if s.cond cccc then .next (s.jump (s.pc + sextW (dispLow disp9 1))) else .next (s.advance 2)
/-- R400 -/
def execBcondF2 (cccc : BitVec 4) (disp17 : BitVec 16) (s : State) : Out :=
  if s.cond cccc then .next (s.jump (s.pc + sextW (dispLow disp17 1))) else .next (s.advance 4)
/-- R401 -/
def execJarlF1 (disp22 : BitVec 21) (reg2 : Reg) (s : State) : Out :=
  .next ((s.setReg reg2 (s.pc + 4)).jump (s.pc + sextW (dispLow disp22 1)))
/-- R401 -/
def execJarlF2 (disp32 : BitVec 31) (reg1 : Reg) (s : State) : Out :=
  .next ((s.setReg reg1 (s.pc + 6)).jump (s.pc + dispLow disp32 1))
/-- R401: the target is the old value of reg1. -/
def execJarlF3 (reg1 reg3 : Reg) (s : State) : Out := .next ((s.setReg reg3 (s.pc + 4)).jump (s.reg reg1))
/-- R402 -/
def execJmpF1 (reg1 : Reg) (s : State) : Out := .next (s.jump (s.reg reg1))
/-- R402 -/
def execJmpF2 (disp32 : BitVec 31) (reg1 : Reg) (s : State) : Out := .next (s.jump (s.reg reg1 + dispLow disp32 1))
/-- R403 -/
def execJrF1 (disp22 : BitVec 21) (s : State) : Out := .next (s.jump (s.pc + sextW (dispLow disp22 1)))
/-- R403 -/
def execJrF2 (disp32 : BitVec 31) (s : State) : Out := .next (s.jump (s.pc + dispLow disp32 1))
/-- R404 -/
def execLoop (disp16 : BitVec 15) (reg1 : Reg) (s : State) : Out :=
  let r := addF (s.reg reg1) 0xFFFFFFFF false
  let s1 := (s.setReg reg1 r.1).setFlags r.2
  if r.1 = 0 then .next (s1.advance 4) else .next (s1.jump (s.pc - zextW (dispLow disp16 1)))

end Sys2Proof.Machine
end

