-- ==== Sys2Proof/Machine/CacheOps.lean ====
section
/-!
DEFINITION. Cache instructions (45_cache.md). The instruction cache is transparent (D19): a privilege check, a memory-protection check
and, for CILDI, free values in the cache registers.
-/

namespace Sys2Proof.Machine

/-- The cache operations of R570. -/
inductive CacheOp where
  | chbii
  | cibii
  | cfali
  | cisti
  | cildi
  /-- The code 1111110: what the CLL instruction does, whatever reg1 (R570). -/
  | cll
deriving DecidableEq, Repr

/-- R570: the operation of a code; `none`: undefined, no operation. -/
def cacheOpOf (op : BitVec 7) : Option CacheOp :=
  match op.toNat with
  | 0x00 => some .chbii
  | 0x20 => some .cibii
  | 0x40 => some .cfali
  | 0x60 => some .cisti
  | 0x61 => some .cildi
  | 0x7E => some .cll
  | _ => none

/-- R570: whether the current mode may run an operation. -/
def State.mayCache (s : State) (op : CacheOp) : Bool :=
  match op with
  | .chbii | .cll => true
  | _ => if s.hve then s.isHv else !s.um

/-- R570, R822: the check of CHBII and CFALI, that of a read of one byte. -/
def cacheAccess (adr : Word) : Access := ⟨adr, 1, [.read], false, false, meiWord 4 0 0 false 20 false⟩

/-- R570: CILDI leaves ICTAGL, ICTAGH, ICDATL and ICDATH unspecified: free values. -/
def State.freeCacheRegs (s : State) : State :=
  { s with
    sys := { s.sys with
      ictagl := Config.freeWord s.free
      ictagh := Config.freeWord (s.free + 1)
      icdatl := Config.freeWord (s.free + 2)
      icdath := Config.freeWord (s.free + 3) }
    free := s.free + 4 }

/-- R570: an operation in a mode that may run it. -/
def State.runCache (s : State) (op : CacheOp) (adr : Word) : Out :=
  let x := cacheAccess adr
  let checked : Out := match s.mpuViolation s.mode adr.toNat adr.toNat x.kinds s.um with
    | some l => s.raiseMdp x l s.um
    | none => .next (s.advance 4)
  match op with
  | .chbii => checked
  | .cfali => checked
  | .cibii => .next (s.advance 4)
  | .cisti => .next (s.advance 4)
  | .cildi => .next (s.freeCacheRegs.advance 4)
  | .cll => .next (s.dropLink.advance 4)

/-- R570 -/
def execCache (cacheop : BitVec 7) (reg1 : Reg) (s : State) : Out :=
  match cacheOpOf cacheop with
  | none => .next (s.advance 4)
  | some op => if s.mayCache op then s.runCache op (s.reg reg1) else s.raisePie

/-- R571: no architectural effect (D19); an undefined operation is no operation. -/
def execPref (_prefop : BitVec 5) (_reg1 : Reg) (s : State) : Out := .next (s.advance 4)

end Sys2Proof.Machine
end

