-- ==== Sys2Proof/Machine/Data.lean ====
section
/-!
DEFINITION. Data manipulation, bit search and bit manipulation instructions (41_data_bit_branch.md).
-/

namespace Sys2Proof.Machine

/-- R405: bits `msb` to `lsb` of `dst` replaced by the low bits of `src`; free, with OV, S and Z, where msb < lsb. -/
def State.bins (s : State) (msb lsb : Nat) (reg1 reg2 : Reg) : Out :=
  if msb < lsb then
    let f := s.free
    .next ((((s.setReg reg2 (Config.freeWord f)).setFlagsNoCy
      ⟨false, Config.freeBit (f + 1), Config.freeBit (f + 2), Config.freeBit (f + 3)⟩).skipFree 4).advance 4)
  else
    let mask := BitVec.ofNat 32 ((2 ^ (msb - lsb + 1) - 1) <<< lsb)
    s.logic reg2 (putMasked (s.reg reg2) mask (s.reg reg1 <<< lsb)) 4

/-- R405: msb and lsb both in the high halfword. -/
def execBinsF1 (msb lsb : BitVec 4) (reg1 reg2 : Reg) (s : State) : Out :=
  s.bins (16 + msb.toNat) (16 + lsb.toNat) reg1 reg2
/-- R405: msb in the high halfword, lsb in the low one. -/
def execBinsF2 (msb lsb : BitVec 4) (reg1 reg2 : Reg) (s : State) : Out := s.bins (16 + msb.toNat) lsb.toNat reg1 reg2
/-- R405: msb and lsb both in the low halfword. -/
def execBinsF3 (msb lsb : BitVec 4) (reg1 reg2 : Reg) (s : State) : Out := s.bins msb.toNat lsb.toNat reg1 reg2

/-- Byte `n` of a word. -/
def byteOf (v : Word) (n : Nat) : Byte := v.extractLsb' (8 * n) 8
/-- Halfword `n` of a word. -/
def halfOf (v : Word) (n : Nat) : Half := v.extractLsb' (16 * n) 16

/-- R406: the bytes of each halfword swapped. -/
def swapHalfBytes (v : Word) : Word := byteOf v 2 ++ byteOf v 3 ++ byteOf v 0 ++ byteOf v 1
/-- R407: the four bytes reversed. -/
def swapBytes (v : Word) : Word := byteOf v 0 ++ byteOf v 1 ++ byteOf v 2 ++ byteOf v 3
/-- R414: the halfwords swapped. -/
def swapHalves (v : Word) : Word := halfOf v 0 ++ halfOf v 1

/-- R406 -/
def execBsh (reg2 reg3 : Reg) (s : State) : Out :=
  let r := swapHalfBytes (s.reg reg2)
  s.arith reg3 (r, ⟨byteOf r 1 == 0 || byteOf r 0 == 0, false, signFlag r, halfOf r 0 == 0⟩) 4
/-- R407 -/
def execBsw (reg2 reg3 : Reg) (s : State) : Out :=
  let r := swapBytes (s.reg reg2)
  s.arith reg3 (r, ⟨byteOf r 3 == 0 || byteOf r 2 == 0 || byteOf r 1 == 0 || byteOf r 0 == 0, false, signFlag r, zeroFlag r⟩) 4
/-- R413 -/
def execHsh (reg2 reg3 : Reg) (s : State) : Out :=
  let r := s.reg reg2
  s.arith reg3 (r, ⟨halfOf r 0 == 0, false, signFlag r, halfOf r 0 == 0⟩) 4
/-- R414 -/
def execHsw (reg2 reg3 : Reg) (s : State) : Out :=
  let r := swapHalves (s.reg reg2)
  s.arith reg3 (r, ⟨halfOf r 1 == 0 || halfOf r 0 == 0, false, signFlag r, zeroFlag r⟩) 4

/-- R408, R410: a signed word clipped to `lo` to `hi`. -/
def State.clipSigned (s : State) (lo hi : Int) (reg1 reg2 : Reg) : Out :=
  let a := (s.reg reg1).toInt
  let sat := decide (hi < a) || decide (a < lo)
  let r := if hi < a then BitVec.ofInt 32 hi else if a < lo then BitVec.ofInt 32 lo else s.reg reg1
  .next ((((s.setReg reg2 r).setFlags ⟨false, sat, signFlag r, zeroFlag r⟩).setSat sat).advance 4)

/-- R409, R411: an unsigned word clipped to `hi`. -/
def State.clipUnsigned (s : State) (hi : Nat) (reg1 reg2 : Reg) : Out :=
  let sat := decide (hi < (s.reg reg1).toNat)
  let r := if sat then BitVec.ofNat 32 hi else s.reg reg1
  .next ((((s.setReg reg2 r).setFlags ⟨false, sat, false, zeroFlag r⟩).setSat sat).advance 4)

/-- R408 -/
def execClipB (reg1 reg2 : Reg) (s : State) : Out := s.clipSigned (-128) 127 reg1 reg2
/-- R409 -/
def execClipBu (reg1 reg2 : Reg) (s : State) : Out := s.clipUnsigned 255 reg1 reg2
/-- R410 -/
def execClipH (reg1 reg2 : Reg) (s : State) : Out := s.clipSigned (-32768) 32767 reg1 reg2
/-- R411 -/
def execClipHu (reg1 reg2 : Reg) (s : State) : Out := s.clipUnsigned 65535 reg1 reg2

/-- R412 -/
def execCmovF1 (cccc : BitVec 4) (reg1 reg2 reg3 : Reg) (s : State) : Out :=
  s.plain reg3 (if s.cond cccc then s.reg reg1 else s.reg reg2) 4
/-- R412 -/
def execCmovF2 (cccc : BitVec 4) (imm5 : BitVec 5) (reg2 reg3 : Reg) (s : State) : Out :=
  s.plain reg3 (if s.cond cccc then sextW imm5 else s.reg reg2) 4

/-- R415 -/
def execRotlF1 (imm5 : BitVec 5) (reg2 reg3 : Reg) (s : State) : Out := s.arith reg3 (rotlF (s.reg reg2) imm5.toNat) 4
/-- R415 -/
def execRotlF2 (reg1 reg2 reg3 : Reg) (s : State) : Out :=
  s.arith reg3 (rotlF (s.reg reg2) (shiftAmount (s.reg reg1))) 4
/-- R416 -/
def execSarF1 (reg1 reg2 : Reg) (s : State) : Out := s.arith reg2 (sarF (s.reg reg2) (shiftAmount (s.reg reg1))) 4
/-- R416 -/
def execSarF2 (imm5 : BitVec 5) (reg2 : Reg) (s : State) : Out := s.arith reg2 (sarF (s.reg reg2) imm5.toNat) 2
/-- R416 -/
def execSarF3 (reg1 reg2 reg3 : Reg) (s : State) : Out := s.arith reg3 (sarF (s.reg reg2) (shiftAmount (s.reg reg1))) 4
/-- R419 -/
def execShlF1 (reg1 reg2 : Reg) (s : State) : Out := s.arith reg2 (shlF (s.reg reg2) (shiftAmount (s.reg reg1))) 4
/-- R419 -/
def execShlF2 (imm5 : BitVec 5) (reg2 : Reg) (s : State) : Out := s.arith reg2 (shlF (s.reg reg2) imm5.toNat) 2
/-- R419 -/
def execShlF3 (reg1 reg2 reg3 : Reg) (s : State) : Out := s.arith reg3 (shlF (s.reg reg2) (shiftAmount (s.reg reg1))) 4
/-- R420 -/
def execShrF1 (reg1 reg2 : Reg) (s : State) : Out := s.arith reg2 (shrF (s.reg reg2) (shiftAmount (s.reg reg1))) 4
/-- R420 -/
def execShrF2 (imm5 : BitVec 5) (reg2 : Reg) (s : State) : Out := s.arith reg2 (shrF (s.reg reg2) imm5.toNat) 2
/-- R420 -/
def execShrF3 (reg1 reg2 reg3 : Reg) (s : State) : Out := s.arith reg3 (shrF (s.reg reg2) (shiftAmount (s.reg reg1))) 4

/-- R417 -/
def execSasf (cccc : BitVec 4) (reg2 : Reg) (s : State) : Out :=
  s.plain reg2 (s.reg reg2 <<< 1 ||| zextW (BitVec.ofBool (s.cond cccc))) 4
/-- R418 -/
def execSetf (cccc : BitVec 4) (reg2 : Reg) (s : State) : Out := s.plain reg2 (zextW (BitVec.ofBool (s.cond cccc))) 4

/-- R421 -/
def execSxb (reg1 : Reg) (s : State) : Out := s.plain reg1 (sextW ((s.reg reg1).extractLsb' 0 8)) 2
/-- R422 -/
def execSxh (reg1 : Reg) (s : State) : Out := s.plain reg1 (sextW ((s.reg reg1).extractLsb' 0 16)) 2
/-- R423 -/
def execZxb (reg1 : Reg) (s : State) : Out := s.plain reg1 (zextW ((s.reg reg1).extractLsb' 0 8)) 2
/-- R424 -/
def execZxh (reg1 : Reg) (s : State) : Out := s.plain reg1 (zextW ((s.reg reg1).extractLsb' 0 16)) 2

/-- R425 to R428: the result and flags of a bit search that examines 32 positions in order; `found k`: the position `k` holds the
bit searched for. -/
def searchResult (found : Nat → Bool) : Word × Flags :=
  match (List.range 32).find? found with
  | some k => (BitVec.ofNat 32 (k + 1), ⟨k == 31, false, false, false⟩)
  | none => (0, ⟨false, false, false, true⟩)

/-- R425 -/
def execSch0l (reg2 reg3 : Reg) (s : State) : Out := s.arith reg3 (searchResult fun k => !(s.reg reg2).getLsbD (31 - k)) 4
/-- R426 -/
def execSch0r (reg2 reg3 : Reg) (s : State) : Out := s.arith reg3 (searchResult fun k => !(s.reg reg2).getLsbD k) 4
/-- R427 -/
def execSch1l (reg2 reg3 : Reg) (s : State) : Out := s.arith reg3 (searchResult fun k => (s.reg reg2).getLsbD (31 - k)) 4
/-- R428 -/
def execSch1r (reg2 reg3 : Reg) (s : State) : Out := s.arith reg3 (searchResult fun k => (s.reg reg2).getLsbD k) 4

/-- R433, R822: the access of a bit instruction; TST1 reads only. -/
def bitAccess (adr : Word) (writes : Bool) : Access :=
  ⟨adr, 1, if writes then [.read, .write] else [.read], true, false, meiWord 4 0 0 false 9 false⟩

/-- R433: Z from the bit before, then the byte with the bit replaced. -/
def State.modifyBit (s : State) (adr : Word) (bit : Nat) (f : Bool → Bool) : Out :=
  s.access (bitAccess adr true) <|
    let token := s.readByte adr
    let b := token.getLsbD bit
    let new := if f b then token ||| BitVec.twoPow 8 bit else token &&& ~~~ BitVec.twoPow 8 bit
    .next (((s.setZ (!b)).writeByte adr new).advance 4)

/-- R432: Z from the bit. -/
def State.testBit (s : State) (adr : Word) (bit : Nat) : Out :=
  s.access (bitAccess adr false) (.next ((s.setZ (!(s.readByte adr).getLsbD bit)).advance 4))

/-- R433: the bit number in a register. -/
def bitNumber (v : Word) : Nat := (v.extractLsb' 0 3).toNat

/-- R429 -/
def execClr1F1 (bit3 : BitVec 3) (disp16 : BitVec 16) (reg1 : Reg) (s : State) : Out :=
  s.modifyBit (s.reg reg1 + sextW disp16) bit3.toNat fun _ => false
/-- R429 -/
def execClr1F2 (reg1 reg2 : Reg) (s : State) : Out := s.modifyBit (s.reg reg1) (bitNumber (s.reg reg2)) fun _ => false
/-- R430 -/
def execNot1F1 (bit3 : BitVec 3) (disp16 : BitVec 16) (reg1 : Reg) (s : State) : Out :=
  s.modifyBit (s.reg reg1 + sextW disp16) bit3.toNat not
/-- R430 -/
def execNot1F2 (reg1 reg2 : Reg) (s : State) : Out := s.modifyBit (s.reg reg1) (bitNumber (s.reg reg2)) not
/-- R431 -/
def execSet1F1 (bit3 : BitVec 3) (disp16 : BitVec 16) (reg1 : Reg) (s : State) : Out :=
  s.modifyBit (s.reg reg1 + sextW disp16) bit3.toNat fun _ => true
/-- R431 -/
def execSet1F2 (reg1 reg2 : Reg) (s : State) : Out := s.modifyBit (s.reg reg1) (bitNumber (s.reg reg2)) fun _ => true
/-- R432 -/
def execTst1F1 (bit3 : BitVec 3) (disp16 : BitVec 16) (reg1 : Reg) (s : State) : Out :=
  s.testBit (s.reg reg1 + sextW disp16) bit3.toNat
/-- R432 -/
def execTst1F2 (reg1 reg2 : Reg) (s : State) : Out := s.testBit (s.reg reg1) (bitNumber (s.reg reg2))

end Sys2Proof.Machine
end

