-- ==== Sys2Proof/Machine/FloatOps.lean ====
section
/-!
DEFINITION. Floating-point arithmetic shared by the FPU and the FXU (46_fpu.md R582 to R587, 47_fpu.md R640, R641): formats, exact
results, rounding, detection. Every function takes the status word (FPSR or FXSR, whose fields stand at the same bits, 48_fxu.md
R704) and answers what was detected and the result; nothing here changes a state. Patterns stand in the low bits of a double word.
-/

namespace Sys2Proof.Machine

/-! ## Formats -/

/-- R582: the three formats. -/
inductive Fmt where
  | single
  | double
  | half
deriving DecidableEq, Repr

/-- Fraction bits of a format. -/
def Fmt.frac : Fmt → Nat
  | .single => 23
  | .double => 52
  | .half => 10

/-- Exponent bits of a format. -/
def Fmt.ebits : Fmt → Nat
  | .single => 8
  | .double => 11
  | .half => 5

/-- The exponent bias, also the exponent of the largest finite numbers. -/
def Fmt.bias (f : Fmt) : Nat := 2 ^ (f.ebits - 1) - 1

/-- The exponent of the smallest normal number. -/
def Fmt.emin (f : Fmt) : Int := 1 - (f.bias : Int)

/-- R582, D21: the Q-NaN an instruction generates. -/
def quietNan (p : Product) : Fmt → DWord
  | .single => p.qnanS.setWidth 64
  | .double => p.qnanD
  | .half => p.qnanH.setWidth 64

/-- R582: what a pattern stands for; a finite nonzero number is (-1)^neg * man * 2^exp. -/
inductive Fp where
  | nan (signaling : Bool)
  | inf (neg : Bool)
  | zero (neg : Bool)
  | num (neg : Bool) (man : Nat) (exp : Int) (subnormal : Bool)
deriving DecidableEq, Repr

/-- R582: a pattern read in a format. -/
def decodeFp (f : Fmt) (v : DWord) : Fp :=
  let neg := v.getLsbD (f.frac + f.ebits)
  let frac := v.toNat % 2 ^ f.frac
  let e := v.toNat / 2 ^ f.frac % 2 ^ f.ebits
  if e = 2 ^ f.ebits - 1 then (if frac = 0 then .inf neg else .nan (decide (frac < 2 ^ (f.frac - 1))))
  else if e = 0 then (if frac = 0 then .zero neg else .num neg frac (f.emin - f.frac) true)
  else .num neg (2 ^ f.frac + frac) ((e : Int) - f.bias - f.frac) false

/-- A sign, a biased exponent and a fraction as a pattern. -/
def packFp (f : Fmt) (neg : Bool) (e frac : Nat) : DWord :=
  BitVec.ofNat 64 ((neg.toNat * 2 ^ f.ebits + e) * 2 ^ f.frac + frac)

/-- The patterns of zero, infinity, the largest finite and the smallest normal number. -/
def zeroFp (f : Fmt) (neg : Bool) : DWord := packFp f neg 0 0
@[inherit_doc zeroFp]
def infFp (f : Fmt) (neg : Bool) : DWord := packFp f neg (2 ^ f.ebits - 1) 0
@[inherit_doc zeroFp]
def maxFp (f : Fmt) (neg : Bool) : DWord := packFp f neg (2 ^ f.ebits - 2) (2 ^ f.frac - 1)
@[inherit_doc zeroFp]
def minFp (f : Fmt) (neg : Bool) : DWord := packFp f neg 1 0

/-- The pattern of a normal number given by a mantissa of frac + 1 bits and the exponent of its last bit. -/
def normalFp (f : Fmt) (neg : Bool) (man : Nat) (exp : Int) : DWord :=
  packFp f neg (exp + f.frac + f.bias).toNat (man - 2 ^ f.frac)

/-! ## Detected conditions and the status word -/

/-- A set of the conditions E, V, Z, O, U, I, bits 5 to 0, the order of the cause fields (R583). -/
abbrev FpDet := BitVec 6

/-- The conditions (R584). -/
def detE : FpDet := 0x20
@[inherit_doc detE]
def detV : FpDet := 0x10
@[inherit_doc detE]
def detZ : FpDet := 0x08
@[inherit_doc detE]
def detO : FpDet := 0x04
@[inherit_doc detE]
def detU : FpDet := 0x02
@[inherit_doc detE]
def detI : FpDet := 0x01

/-- What one operation gives: the conditions detected, the result, whether a source was flushed (R585). -/
structure FpRes where
  det : FpDet
  val : DWord
  flushed : Bool
deriving DecidableEq, Repr

/-- R583: the rounding modes. -/
inductive RMode where
  | nearest
  | zero
  | pos
  | neg
deriving DecidableEq, Repr

/-- R583: RM, bits 19-18. -/
def fpRm (w : Word) : RMode :=
  match (w.extractLsb' 18 2).toNat with
  | 0 => .nearest
  | 1 => .zero
  | 2 => .pos
  | _ => .neg

/-- R583: FS, FN and XE.U. -/
def fpFs (w : Word) : Bool := w.getLsbD 17
@[inherit_doc fpFs]
def fpFn (w : Word) : Bool := w.getLsbD 23
@[inherit_doc fpFs]
def fpXeU (w : Word) : Bool := w.getLsbD 6

/-- R584: some detected condition is taken as an exception: E always, another if its enable bit (9-5) is 1. -/
def fpTaken (w : Word) (d : FpDet) : Bool := d.getLsbD 5 || (d.extractLsb' 0 5 &&& w.extractLsb' 5 5) != 0

/-- R584: the cause bits (15-10) replaced, IF (22) set if a source was flushed. -/
def fpCause (w : Word) (d : FpDet) (flushed : Bool) : Word :=
  putMasked w 0xFC00 (d.setWidth 32 <<< 10) ||| (if flushed then 0x00400000 else 0)

/-- R584: the preservation bits (4-0) accumulated. -/
def fpKeep (w : Word) (d : FpDet) : Word := w ||| (d.extractLsb' 0 5).setWidth 32

/-! ## Rounding -/

/-- The exact magnitude of a nonzero result: man * 2^exp, or, if `sticky`, a number strictly between that and (man + 1) * 2^exp, with
man of more bits than any format holds. -/
structure Exact where
  neg : Bool
  man : Nat
  exp : Int
  sticky : Bool
deriving DecidableEq, Repr

/-- Whether a magnitude is rounded away from zero: `odd` its last kept bit, `rem` what is cut off, `half` the value of half of the last
kept bit; `more`: the exact value is a little larger still. -/
def roundsUp (m : RMode) (neg odd : Bool) (rem half : Nat) (more : Bool) : Bool :=
  match m with
  | .nearest => decide (half < rem) || (rem == half && (more || odd))
  | .zero => false
  | .pos => !neg && (rem != 0 || more)
  | .neg => neg && (rem != 0 || more)

/-- A magnitude cut to `p` bits: mantissa, exponent, what is cut off, half of the last bit. -/
def Exact.cut (x : Exact) (p : Nat) : Nat × Int × Nat × Nat :=
  let bits := x.man.log2 + 1
  if bits ≤ p then (x.man <<< (p - bits), x.exp - ((p - bits : Nat) : Int), 0, 1)
  else
    let k := bits - p
    (x.man >>> k, x.exp + k, x.man % 2 ^ k, 2 ^ (k - 1))

/-- R586: round with an unbounded exponent: a mantissa of `p` bits, its exponent, and whether the result is inexact. -/
def Exact.round (x : Exact) (m : RMode) (p : Nat) : Nat × Int × Bool :=
  let (man, exp, rem, half) := x.cut p
  let up := roundsUp m x.neg (man % 2 == 1) rem half x.sticky
  let inexact := rem != 0 || x.sticky
  if up then (if man + 1 = 2 ^ p then (2 ^ (p - 1), exp + 1, inexact) else (man + 1, exp, inexact)) else (man, exp, inexact)

/-- The exponent of the leading bit. -/
def Exact.top (x : Exact) : Int := x.exp + x.man.log2

/-- R584: the default result of an overflow. -/
def overflowFp (f : Fmt) (m : RMode) (neg : Bool) : DWord :=
  match m with
  | .nearest => infFp f neg
  | .zero => maxFp f neg
  | .pos => if neg then maxFp f neg else infFp f neg
  | .neg => if neg then infFp f neg else maxFp f neg

/-- R585: FlushOut, for a nonzero exact result below the smallest normal number. -/
def flushOut (w : Word) (f : Fmt) (x : Exact) : FpDet × DWord :=
  if !fpFs w then (if fpXeU w then detU else detE, 0)
  else
    let v := match fpRm w with
      | .nearest => if fpFn w && decide (f.emin - 1 ≤ x.top) then minFp f x.neg else zeroFp f x.neg
      | .zero => zeroFp f x.neg
      | .pos => if x.neg then zeroFp f true else minFp f false
      | .neg => if x.neg then minFp f true else zeroFp f false
    (detU ||| detI, v)

/-- R586: an exact nonzero result rounded to a format, with overflow, underflow and inexact. -/
def roundFp (w : Word) (f : Fmt) (x : Exact) : FpDet × DWord :=
  let (man, exp, inexact) := x.round (fpRm w) (f.frac + 1)
  let d : FpDet := if inexact then detI else 0
  if (f.bias : Int) < exp + f.frac then (d ||| detO ||| detI, overflowFp f (fpRm w) x.neg)
  else if x.top < f.emin then flushOut w f x
  else (d, normalFp f x.neg man exp)

/-! ## The arithmetic template -/

/-- A cell of a result table after the NaN rows (R586). -/
inductive Cell where
  | invalid
  | divByZero (neg : Bool)
  | inf (neg : Bool)
  | zero (neg : Bool)
  | exact (x : Exact)
deriving DecidableEq, Repr

/-- The conditions and the result of a cell. -/
def Cell.eval (p : Product) (w : Word) (f : Fmt) : Cell → FpDet × DWord
  | .invalid => (detV, quietNan p f)
  | .divByZero neg => (detZ, infFp f neg)
  | .inf neg => (0, infFp f neg)
  | .zero neg => (0, zeroFp f neg)
  | .exact x => roundFp w f x

/-- A signaling NaN, a quiet NaN, a subnormal number. -/
def Fp.isSnan : Fp → Bool
  | .nan b => b
  | _ => false
@[inherit_doc Fp.isSnan]
def Fp.isQnan : Fp → Bool
  | .nan b => !b
  | _ => false
@[inherit_doc Fp.isSnan]
def Fp.isSubnormal : Fp → Bool
  | .num _ _ _ b => b
  | _ => false

/-- R585: a subnormal number replaced by zero of its sign. -/
def Fp.flush : Fp → Fp
  | .num neg man exp sub => if sub then .zero neg else .num neg man exp sub
  | x => x

/-- R586: the NaN rows, FlushIn, then the table. `first` holds for operands whose invalid-operation cell comes before E (D22). -/
def fpTemplate (p : Product) (w : Word) (dst : Fmt) (xs : List Fp) (first : Bool) (table : List Fp → FpDet × DWord) : FpRes :=
  let sub := xs.any Fp.isSubnormal
  if xs.any Fp.isSnan then ⟨detV, quietNan p dst, false⟩
  else if xs.any Fp.isQnan then ⟨0, quietNan p dst, false⟩
  else if sub && !fpFs w && !first then ⟨detE, 0, false⟩
  else
    let r := table (xs.map Fp.flush)
    ⟨r.1, r.2, sub && fpFs w⟩

/-- R586: FArith for two operands. -/
def fpArith2 (p : Product) (w : Word) (f : Fmt) (op : RMode → Fp → Fp → Cell) (b a : DWord) : FpRes :=
  fpTemplate p w f [decodeFp f b, decodeFp f a] false fun xs =>
    match xs with
    | [x, y] => (op (fpRm w) x y).eval p w f
    | _ => (0, 0)

/-! ## The exact operations -/

/-- The sign inverted. -/
def Fp.negate : Fp → Fp
  | .nan b => .nan b
  | .inf n => .inf (!n)
  | .zero n => .zero (!n)
  | .num n m e s => .num (!n) m e s

/-- A sign and a magnitude as an integer. -/
def signedInt (neg : Bool) (n : Nat) : Int := if neg then -(n : Int) else n

/-- R586, R594: the sum; an exact zero from operands of opposite signs is +0, or -0 when rounding toward minus infinity. -/
def addCell (m : RMode) : Fp → Fp → Cell
  | .nan _, _ => .invalid
  | _, .nan _ => .invalid
  | .inf a, .inf b => if a = b then .inf a else .invalid
  | .inf a, _ => .inf a
  | _, .inf b => .inf b
  | .zero a, .zero b => if a = b then .zero a else .zero (m == .neg)
  | .zero _, .num n k e _ => .exact ⟨n, k, e, false⟩
  | .num n k e _, .zero _ => .exact ⟨n, k, e, false⟩
  | .num n1 k1 e1 _, .num n2 k2 e2 _ =>
    let e := min e1 e2
    let t := signedInt n1 (k1 <<< (e1 - e).toNat) + signedInt n2 (k2 <<< (e2 - e).toNat)
    if t = 0 then .zero (m == .neg) else .exact ⟨decide (t < 0), t.natAbs, e, false⟩

/-- R596: the difference. -/
def subCell (m : RMode) (x y : Fp) : Cell := addCell m x y.negate

/-- The exact product; `none`: zero times infinity. -/
def mulFp : Fp → Fp → Option Fp
  | .nan _, _ => none
  | _, .nan _ => none
  | .inf _, .zero _ => none
  | .zero _, .inf _ => none
  | .inf a, .inf b => some (.inf (a ^^ b))
  | .inf a, .num b _ _ _ => some (.inf (a ^^ b))
  | .num a _ _ _, .inf b => some (.inf (a ^^ b))
  | .zero a, .zero b => some (.zero (a ^^ b))
  | .zero a, .num b _ _ _ => some (.zero (a ^^ b))
  | .num a _ _ _, .zero b => some (.zero (a ^^ b))
  | .num a m1 e1 _, .num b m2 e2 _ => some (.num (a ^^ b) (m1 * m2) (e1 + e2) false)

/-- A product or sum that is a number as a cell. -/
def Fp.toCell : Fp → Cell
  | .nan _ => .invalid
  | .inf n => .inf n
  | .zero n => .zero n
  | .num n m e _ => .exact ⟨n, m, e, false⟩

/-- R598: the product. -/
def mulCell (_ : RMode) (x y : Fp) : Cell := (mulFp x y).elim .invalid Fp.toCell

/-- The quotient of two magnitudes with enough bits for every format. -/
def quotient (neg : Bool) (m1 : Nat) (e1 : Int) (m2 : Nat) (e2 : Int) : Exact :=
  let n := m1 <<< 128
  ⟨neg, n / m2, e1 - e2 - 128, n % m2 != 0⟩

/-- R600: the quotient x / y. -/
def divCell (_ : RMode) : Fp → Fp → Cell
  | .nan _, _ => .invalid
  | _, .nan _ => .invalid
  | .inf _, .inf _ => .invalid
  | .zero _, .zero _ => .invalid
  | .inf a, .zero b => .inf (a ^^ b)
  | .inf a, .num b _ _ _ => .inf (a ^^ b)
  | .zero a, .inf b => .zero (a ^^ b)
  | .num a _ _ _, .inf b => .zero (a ^^ b)
  | .zero a, .num b _ _ _ => .zero (a ^^ b)
  | .num a _ _ _, .zero b => .divByZero (a ^^ b)
  | .num a m1 e1 _, .num b m2 e2 _ => .exact (quotient (a ^^ b) m1 e1 m2 e2)

/-- The bits 2^(n-1) to 2^0 of the integer square root of `v`, added to `r` while the square stays at most `v`. -/
def sqrtBits (v : Nat) : Nat → Nat → Nat
  | 0, r => r
  | n + 1, r =>
    let t := r + 2 ^ n
    if t * t ≤ v then sqrtBits v n t else sqrtBits v n r

/-- The integer square root, rounded down. -/
def isqrt (v : Nat) : Nat := sqrtBits v (v.log2 / 2 + 1) 0

/-- The square root of a magnitude with enough bits for every format: the exponent is made even. -/
def rootOf (man : Nat) (exp : Int) : Exact :=
  let k := if exp % 2 = 0 then 128 else 129
  let v := man <<< k
  let r := isqrt v
  ⟨false, r, (exp - (k : Int)) / 2, r * r != v⟩

/-- R606: the square root. -/
def sqrtCell : Fp → Cell
  | .nan _ => .invalid
  | .inf n => if n then .invalid else .inf false
  | .zero n => .zero n
  | .num n m e _ => if n then .invalid else .exact (rootOf m e)

/-- R606: SQRTF. -/
def fpSqrt (p : Product) (w : Word) (f : Fmt) (a : DWord) : FpRes :=
  fpTemplate p w f [decodeFp f a] false fun xs =>
    match xs with
    | [x] => (sqrtCell x).eval p w f
    | _ => (0, 0)

/-- R614: the sign of a result that is not a NaN inverted. -/
def negateResult (f : Fmt) (v : DWord) : DWord :=
  match decodeFp f v with
  | .nan _ => v
  | _ => v ^^^ BitVec.twoPow 64 (f.frac + f.ebits)

/-- R612: x * y + z, or x * y - z if `sub`: invalid for zero times infinity and for infinities of opposite signs. -/
def fmaCell (m : RMode) (sub : Bool) (x y z : Fp) : Cell :=
  (mulFp x y).elim .invalid fun t => addCell m t (if sub then z.negate else z)

/-- R612 to R615: b * a + c, or b * a - c if `sub`, with one rounding; then the sign inverted if `neg`. A cell that is invalid for
the operands as they stand comes before E for a subnormal one (R585, D22). -/
def fpFma (p : Product) (w : Word) (sub neg : Bool) (b a c : DWord) : FpRes :=
  let x := decodeFp .single b
  let y := decodeFp .single a
  let z := decodeFp .single c
  let r := fpTemplate p w .single [x, y, z] (fmaCell (fpRm w) sub x y z == .invalid) fun xs =>
    match xs with
    | [x, y, z] => (fmaCell (fpRm w) sub x y z).eval p w .single
    | _ => (0, 0)
  if neg then { r with val := negateResult .single r.val } else r

/-! ## Reciprocals -/

/-- An integer brought between two bounds. -/
def clampInt (lo hi k : Int) : Int := if k < lo then lo else if hi < k then hi else k

/-- 1/sqrt(man * 2^exp) with enough bits for every format. -/
def rsqrtOf (man : Nat) (exp : Int) : Exact :=
  let k : Nat := if exp % 2 = 0 then 256 else 257
  let r := isqrt (2 ^ k / man)
  ⟨false, r, -((exp + k) / 2), r * r * man != 2 ^ k⟩

/-- The pattern, without its sign, of the magnitude t * 2^(exp-1), where 2 * 2^frac is about t: exact where a number of the format
has that magnitude, else the next one up (`up`) or down. `e` is the biased exponent that belongs to `exp`. -/
def gridFp (f : Fmt) (e t : Nat) (up : Bool) : Nat :=
  let h := 2 ^ f.frac
  if t < 2 * h then (e - 1) * h + (t - h)
  else if t ≤ 4 * h then e * h + ((if up then (t + 1) / 2 else t / 2) - h)
  else (e + 1) * h + ((if up then (t + 3) / 4 else t / 4) - h)

/-- R608 to R611, D24: a result within `ulps` units in the last place of the exact value: the value cut to the format moved by the
free offset `k` and brought into the band. No number below the smallest normal one is given (R585). -/
def bandFp (f : Fmt) (x : Exact) (ulps : Nat) (k : Int) : DWord :=
  let (man, exp, rem, half) := x.cut (f.frac + 1)
  let e := (exp + f.frac + f.bias).toNat
  let low :=
    if rem = 0 && !x.sticky then 2 * (man - ulps)
    else if rem < half || (rem == half && !x.sticky) then 2 * (man - ulps) + 1
    else 2 * (man - ulps) + 2
  let lo := max (gridFp f e low true) (2 ^ f.frac)
  let hi := gridFp f e (2 * (man + ulps)) false
  let n := clampInt lo hi ((gridFp f e (2 * man) false : Int) + k)
  packFp f x.neg 0 n.toNat

/-- R608 to R611, D24: the result for an exact value: correctly rounded, or, for a result function with the free offset `k`, a number
within `ulps` units in the last place. -/
def nearFp (w : Word) (f : Fmt) (x : Exact) (ulps : Nat) : Option Int → DWord
  | none => (roundFp w f x).2
  | some k => bandFp f x ulps k

/-- R608, R609: the table of the reciprocal. I is detected for every normal operand; below the smallest normal number it is detected
beside what FlushOut detects (R734; notes/assumptions/53.md, DEDUCED). -/
def recipCell (p : Product) (w : Word) (f : Fmt) (k : Option Int) : Fp → FpDet × DWord
  | .nan _ => (detV, quietNan p f)
  | .inf n => (0, zeroFp f n)
  | .zero n => (detZ, infFp f n)
  | .num n m e _ =>
    let x := quotient n 1 0 m e
    if x.top < f.emin then ((flushOut w f x).1 ||| detI, (flushOut w f x).2) else (detI, nearFp w f x 1 k)

/-- R610, R611: the table of the reciprocal square root. -/
def rsqrtCell (p : Product) (w : Word) (f : Fmt) (k : Option Int) : Fp → FpDet × DWord
  | .nan _ => (detV, quietNan p f)
  | .inf n => if n then (detV, quietNan p f) else (0, zeroFp f false)
  | .zero n => (detZ, infFp f n)
  | .num n m e _ =>
    if n then (detV, quietNan p f) else (detI, nearFp w f (rsqrtOf m e) 2 k)

/-- R608 to R611, one operand. -/
def fpRecip (p : Product) (w : Word) (f : Fmt) (table : Product → Word → Fmt → Option Int → Fp → FpDet × DWord) (k : Option Int)
    (a : DWord) : FpRes :=
  fpTemplate p w f [decodeFp f a] false fun xs =>
    match xs with
    | [x] => table p w f k x
    | _ => (0, 0)

/-- The rounding mode as an argument of the free offsets. -/
def rmBits (w : Word) : BitVec 2 := w.extractLsb' 18 2

/-- R12: the free offset of a product's result function; none for the correctly rounded result. -/
def ulpOffset (r : RecipRule) (free : Nat → Int) : Option Int :=
  match r with
  | .rounded => none
  | .other n => some (free n)

/-- R609, R734: RECIPF in single precision; R608 in double precision. -/
def recipS (p : Product) (w : Word) (a : Word) : FpRes :=
  fpRecip p w .single recipCell (ulpOffset p.recipS fun n => Config.recipUlpS n a (rmBits w)) (a.setWidth 64)
@[inherit_doc recipS]
def recipD (p : Product) (w : Word) (a : DWord) : FpRes :=
  fpRecip p w .double recipCell (ulpOffset p.recipD fun n => Config.recipUlpD n a (rmBits w)) a

/-- R611, R735: RSQRTF in single precision; R610 in double precision. -/
def rsqrtS (p : Product) (w : Word) (a : Word) : FpRes :=
  fpRecip p w .single rsqrtCell (ulpOffset p.rsqrtS fun n => Config.rsqrtUlpS n a (rmBits w)) (a.setWidth 64)
@[inherit_doc rsqrtS]
def rsqrtD (p : Product) (w : Word) (a : DWord) : FpRes :=
  fpRecip p w .double rsqrtCell (ulpOffset p.rsqrtD fun n => Config.rsqrtUlpD n a (rmBits w)) a

/-! ## Comparison, maximum, minimum -/

/-- The real numbers and infinities of a format in order: the magnitude bits, negated for a negative sign; both zeros are 0. -/
def orderKey (f : Fmt) (v : DWord) : Int :=
  signedInt (v.getLsbD (f.frac + f.ebits)) (v.toNat % 2 ^ (f.frac + f.ebits))

/-- R587, R616: the comparison `b` against `a`: whether V is detected, and the truth of the condition. -/
def fpCompare (f : Fmt) (fcond : BitVec 4) (b a : DWord) : Bool × Bool :=
  let x := decodeFp f b
  let y := decodeFp f a
  if x.isSnan || x.isQnan || y.isSnan || y.isQnan then
    (fcond.getLsbD 3 || x.isSnan || y.isSnan, fcond.getLsbD 0)
  else
    (false, (fcond.getLsbD 2 && decide (orderKey f b < orderKey f a)) || (fcond.getLsbD 1 && orderKey f b == orderKey f a))

/-- R602 to R605, R731, R732: the larger (or the smaller) of two operands; the sign of the result for two zeros is free (U9). -/
def fpMaxMin (p : Product) (f : Fmt) (larger : Bool) (zeroSign : Bool) (b a : DWord) : FpRes :=
  let x := decodeFp f b
  let y := decodeFp f a
  if x.isSnan || y.isSnan then ⟨detV, quietNan p f, false⟩
  else if x.isQnan && y.isQnan then ⟨0, quietNan p f, false⟩
  else if x.isQnan then ⟨0, a, false⟩
  else if y.isQnan then ⟨0, b, false⟩
  else if orderKey f b = 0 ∧ orderKey f a = 0 then ⟨0, zeroFp f zeroSign, false⟩
  else if larger == decide (orderKey f b < orderKey f a) then ⟨0, a, false⟩
  else ⟨0, b, false⟩

/-! ## Conversions -/

/-- R640: RoundInt of a magnitude: the integer and whether it differs from the value. -/
def roundInt (m : RMode) (neg : Bool) (man : Nat) (exp : Int) : Nat × Bool :=
  if 0 ≤ exp then (man <<< exp.toNat, false)
  else
    let k := (-exp).toNat
    let q := man >>> k
    let rem := man % 2 ^ k
    (if roundsUp m neg (q % 2 == 1) rem (2 ^ (k - 1)) false then q + 1 else q, rem != 0)

/-- R640: the least and the greatest integer of a width. -/
def intMin (signed : Bool) (width : Nat) : Int := if signed then -2 ^ (width - 1) else 0
@[inherit_doc intMin]
def intMax (signed : Bool) (width : Nat) : Int := if signed then 2 ^ (width - 1) - 1 else 2 ^ width - 1

/-- R640: FToInt; `mode` none: the current rounding mode. -/
def fpToInt (w : Word) (f : Fmt) (mode : Option RMode) (signed : Bool) (width : Nat) (a : DWord) : FpRes :=
  let pat (n : Int) : DWord := BitVec.ofInt 64 n
  let lo := intMin signed width
  let hi := intMax signed width
  match decodeFp f a with
  | .nan _ => ⟨detV, pat lo, false⟩
  | .inf n => ⟨detV, pat (if n then lo else hi), false⟩
  | .zero _ => ⟨0, 0, false⟩
  | .num neg man exp sub =>
    if sub then (if fpFs w then ⟨0, 0, true⟩ else ⟨detE, 0, false⟩)
    else if !signed && neg then ⟨detV, 0, false⟩
    else
      let r := roundInt (mode.getD (fpRm w)) neg man exp
      let n := signedInt neg r.1
      if hi < n then ⟨detV, pat hi, false⟩
      else if n < lo then ⟨detV, pat lo, false⟩
      else ⟨if r.2 then detI else 0, pat n, false⟩

/-- R641: IToF; zero gives +0. -/
def fpOfInt (w : Word) (f : Fmt) (v : Int) : FpRes :=
  if v = 0 then ⟨0, zeroFp f false, false⟩
  else
    let r := roundFp w f ⟨decide (v < 0), v.natAbs, 0, false⟩
    ⟨r.1, r.2, false⟩

/-- R641: FToF from single or double; a result wider than the source is exact. -/
def fpToFp (p : Product) (w : Word) (src dst : Fmt) (a : DWord) : FpRes :=
  fpTemplate p w dst [decodeFp src a] false fun xs =>
    match xs with
    | [x] => x.toCell.eval p w dst
    | _ => (0, 0)

/-- R684, R773: half to single: exact, a subnormal source is not flushed. -/
def fpOfHalf (p : Product) (w : Word) (a : Half) : FpRes :=
  match decodeFp .half (a.setWidth 64) with
  | .nan sig => ⟨if sig then detV else 0, quietNan p .single, false⟩
  | x =>
    let r := x.toCell.eval p w .single
    ⟨r.1, r.2, false⟩

end Sys2Proof.Machine
end

