-- ==== Sys2Proof/Machine/Fpu.lean ====
section
/-!
DEFINITION. FPU instructions: arithmetic, comparison, conditional move, TRFSR (46_fpu.md R590 to R620).
-/

namespace Sys2Proof.Machine

/-! ## Operands and completion -/

/-- R581: an FPU operand: a register, or a register pair. -/
inductive FpOperand where
  | one (r : Reg)
  | pair (r : RegPair)
deriving DecidableEq, Repr

/-- R581: S(n) and D(e). -/
def State.fpGet (s : State) : FpOperand → DWord
  | .one r => (s.reg r).setWidth 64
  | .pair r => s.regPair r

/-- R581: setS and setD. -/
def State.fpPut (s : State) : FpOperand → DWord → State
  | .one r, v => s.setReg r (v.setWidth 32)
  | .pair r, v => s.setRegPair r v

/-- FPSR replaced. -/
def State.setFpsr (s : State) (w : Word) : State := { s with sys := { s.sys with fpsr := w } }

/-- R584: FpuFinish: cause bits; then the exception, or the preservation bits and the write. -/
def State.fpuFinish (s : State) (r : FpRes) (write : State → State) : Out :=
  let w := fpCause s.sys.fpsr r.det r.flushed
  if fpTaken s.sys.fpsr r.det then (s.setFpsr w).raiseFpe
  else .next ((write (s.setFpsr (fpKeep w r.det))).advance 4)

/-- R580, R584: an instruction with one result; `f` is its operation, given the product and FPSR. -/
def State.fpuOp (s : State) (dst : FpOperand) (f : Product → Word → FpRes) : Out :=
  let r := f s.prod s.sys.fpsr
  s.withFpu (s.fpuFinish r fun t => t.fpPut dst r.val)

/-- R580: an instruction with no floating-point exception: FPSR is not touched. -/
def State.fpuMove (s : State) (dst : FpOperand) (v : DWord) : Out := s.withFpu (.next ((s.fpPut dst v).advance 4))

/-- R594 to R601: reg3 <- reg2 op reg1. -/
def State.fpuArith (s : State) (f : Fmt) (op : RMode → Fp → Fp → Cell) (reg1 reg2 reg3 : FpOperand) : Out :=
  s.fpuOp reg3 fun p w => fpArith2 p w f op (s.fpGet reg2) (s.fpGet reg1)

/-- R602 to R605; one free sign is used. -/
def State.fpuMaxMin (s : State) (f : Fmt) (larger : Bool) (reg1 reg2 reg3 : FpOperand) : Out :=
  let r := fpMaxMin s.prod f larger (Config.freeBit s.free) (s.fpGet reg2) (s.fpGet reg1)
  s.withFpu (s.fpuFinish r fun t => (t.fpPut reg3 r.val).skipFree 1)

/-- R612 to R615: reg3 is the addend and the destination. -/
def State.fpuFma (s : State) (sub neg : Bool) (reg1 reg2 reg3 : Reg) : Out :=
  s.fpuOp (.one reg3) fun p w =>
    fpFma p w sub neg (s.fpGet (.one reg2)) (s.fpGet (.one reg1)) (s.fpGet (.one reg3))

/-- FPSR with the condition bit `fcbit` (bit 24 + fcbit) replaced. -/
def putCc (w : Word) (fcbit : BitVec 3) (b : Bool) : Word := putBit w (24 + fcbit.toNat) b

/-- R616: the condition bit `fcbit` of FPSR. -/
def State.cc (s : State) (fcbit : BitVec 3) : Bool := s.sys.fpsr.getLsbD (24 + fcbit.toNat)

/-- R616, R617 -/
def State.fpuCompare (s : State) (f : Fmt) (fcond : BitVec 4) (fcbit : BitVec 3) (reg1 reg2 : FpOperand) : Out :=
  let c := fpCompare f fcond (s.fpGet reg2) (s.fpGet reg1)
  s.withFpu (s.fpuFinish ⟨if c.1 then detV else 0, 0, false⟩ fun t => t.setFpsr (putCc t.sys.fpsr fcbit c.2))

/-! ## The instructions -/

/-- R590 -/
def execAbsfD (reg2 reg3 : RegPair) (s : State) : Out := s.fpuMove (.pair reg3) (s.regPair reg2 &&& 0x7FFFFFFFFFFFFFFF)
/-- R591 -/
def execAbsfS (reg2 reg3 : Reg) (s : State) : Out := s.fpuMove (.one reg3) ((s.reg reg2 &&& 0x7FFFFFFF).setWidth 64)
/-- R592 -/
def execNegfD (reg2 reg3 : RegPair) (s : State) : Out := s.fpuMove (.pair reg3) (s.regPair reg2 ^^^ 0x8000000000000000)
/-- R593 -/
def execNegfS (reg2 reg3 : Reg) (s : State) : Out := s.fpuMove (.one reg3) ((s.reg reg2 ^^^ 0x80000000).setWidth 64)
/-- R594 -/
def execAddfD (reg1 reg2 reg3 : RegPair) (s : State) : Out := s.fpuArith .double addCell (.pair reg1) (.pair reg2) (.pair reg3)
/-- R595 -/
def execAddfS (reg1 reg2 reg3 : Reg) (s : State) : Out := s.fpuArith .single addCell (.one reg1) (.one reg2) (.one reg3)
/-- R596 -/
def execSubfD (reg1 reg2 reg3 : RegPair) (s : State) : Out := s.fpuArith .double subCell (.pair reg1) (.pair reg2) (.pair reg3)
/-- R597 -/
def execSubfS (reg1 reg2 reg3 : Reg) (s : State) : Out := s.fpuArith .single subCell (.one reg1) (.one reg2) (.one reg3)
/-- R598 -/
def execMulfD (reg1 reg2 reg3 : RegPair) (s : State) : Out := s.fpuArith .double mulCell (.pair reg1) (.pair reg2) (.pair reg3)
/-- R599 -/
def execMulfS (reg1 reg2 reg3 : Reg) (s : State) : Out := s.fpuArith .single mulCell (.one reg1) (.one reg2) (.one reg3)
/-- R600 -/
def execDivfD (reg1 reg2 reg3 : RegPair) (s : State) : Out := s.fpuArith .double divCell (.pair reg1) (.pair reg2) (.pair reg3)
/-- R601 -/
def execDivfS (reg1 reg2 reg3 : Reg) (s : State) : Out := s.fpuArith .single divCell (.one reg1) (.one reg2) (.one reg3)
/-- R602 -/
def execMaxfD (reg1 reg2 reg3 : RegPair) (s : State) : Out := s.fpuMaxMin .double true (.pair reg1) (.pair reg2) (.pair reg3)
/-- R603 -/
def execMaxfS (reg1 reg2 reg3 : Reg) (s : State) : Out := s.fpuMaxMin .single true (.one reg1) (.one reg2) (.one reg3)
/-- R604 -/
def execMinfD (reg1 reg2 reg3 : RegPair) (s : State) : Out := s.fpuMaxMin .double false (.pair reg1) (.pair reg2) (.pair reg3)
/-- R605 -/
def execMinfS (reg1 reg2 reg3 : Reg) (s : State) : Out := s.fpuMaxMin .single false (.one reg1) (.one reg2) (.one reg3)
/-- R606 -/
def execSqrtfD (reg2 reg3 : RegPair) (s : State) : Out :=
  s.fpuOp (.pair reg3) fun p w => fpSqrt p w .double (s.fpGet (.pair reg2))
/-- R607 -/
def execSqrtfS (reg2 reg3 : Reg) (s : State) : Out :=
  s.fpuOp (.one reg3) fun p w => fpSqrt p w .single (s.fpGet (.one reg2))
/-- R608 -/
def execRecipfD (reg2 reg3 : RegPair) (s : State) : Out := s.fpuOp (.pair reg3) fun p w => recipD p w (s.regPair reg2)
/-- R609 -/
def execRecipfS (reg2 reg3 : Reg) (s : State) : Out := s.fpuOp (.one reg3) fun p w => recipS p w (s.reg reg2)
/-- R610 -/
def execRsqrtfD (reg2 reg3 : RegPair) (s : State) : Out := s.fpuOp (.pair reg3) fun p w => rsqrtD p w (s.regPair reg2)
/-- R611 -/
def execRsqrtfS (reg2 reg3 : Reg) (s : State) : Out := s.fpuOp (.one reg3) fun p w => rsqrtS p w (s.reg reg2)
/-- R612 -/
def execFmafS (reg1 reg2 reg3 : Reg) (s : State) : Out := s.fpuFma false false reg1 reg2 reg3
/-- R613 -/
def execFmsfS (reg1 reg2 reg3 : Reg) (s : State) : Out := s.fpuFma true false reg1 reg2 reg3
/-- R614 -/
def execFnmafS (reg1 reg2 reg3 : Reg) (s : State) : Out := s.fpuFma false true reg1 reg2 reg3
/-- R615 -/
def execFnmsfS (reg1 reg2 reg3 : Reg) (s : State) : Out := s.fpuFma true true reg1 reg2 reg3
/-- R616 -/
def execCmpfD (fcond : BitVec 4) (fff : BitVec 3) (reg1 reg2 : RegPair) (s : State) : Out :=
  s.fpuCompare .double fcond fff (.pair reg1) (.pair reg2)
/-- R617 -/
def execCmpfS (fcond : BitVec 4) (fff : BitVec 3) (reg1 reg2 : Reg) (s : State) : Out :=
  s.fpuCompare .single fcond fff (.one reg1) (.one reg2)
/-- R618 -/
def execCmovfD (fff : BitVec 3) (reg1 reg2 reg3 : RegPair) (s : State) : Out :=
  s.fpuMove (.pair reg3) (if s.cc fff then s.regPair reg1 else s.regPair reg2)
/-- R619 -/
def execCmovfS (fff : BitVec 3) (reg1 reg2 reg3 : Reg) (s : State) : Out :=
  s.fpuMove (.one reg3) ((if s.cc fff then s.reg reg1 else s.reg reg2).setWidth 64)
/-- R620 -/
def execTrfsr (fff : BitVec 3) (s : State) : Out := s.withFpu (.next ((s.setZ (s.cc fff)).advance 4))

end Sys2Proof.Machine
end

