-- ==== Sys2Proof/Machine/FpuConv.lean ====
section
/-!
DEFINITION. FPU conversions (47_fpu.md).
-/

namespace Sys2Proof.Machine

/-- R640: floating point to integer; `mode` none: FPSR.RM (R642). -/
def State.fpuToInt (s : State) (f : Fmt) (mode : Option RMode) (signed : Bool) (width : Nat) (reg2 reg3 : FpOperand) : Out :=
  s.fpuOp reg3 fun _ w => fpToInt w f mode signed width (s.fpGet reg2)

/-- R641: integer to floating point. -/
def State.fpuOfInt (s : State) (f : Fmt) (v : Int) (reg3 : FpOperand) : Out := s.fpuOp reg3 fun _ w => fpOfInt w f v

/-- R641: floating point to floating point. -/
def State.fpuToFp (s : State) (src dst : Fmt) (reg2 reg3 : FpOperand) : Out :=
  s.fpuOp reg3 fun p w => fpToFp p w src dst (s.fpGet reg2)

/-- R643 -/
def execCeilfDl (reg2 reg3 : RegPair) (s : State) : Out := s.fpuToInt .double (some .pos) true 64 (.pair reg2) (.pair reg3)
/-- R644 -/
def execCeilfDul (reg2 reg3 : RegPair) (s : State) : Out := s.fpuToInt .double (some .pos) false 64 (.pair reg2) (.pair reg3)
/-- R645 -/
def execCeilfDuw (reg2 : RegPair) (reg3 : Reg) (s : State) : Out := s.fpuToInt .double (some .pos) false 32 (.pair reg2) (.one reg3)
/-- R646 -/
def execCeilfDw (reg2 : RegPair) (reg3 : Reg) (s : State) : Out := s.fpuToInt .double (some .pos) true 32 (.pair reg2) (.one reg3)
/-- R647 -/
def execCeilfSl (reg2 : Reg) (reg3 : RegPair) (s : State) : Out := s.fpuToInt .single (some .pos) true 64 (.one reg2) (.pair reg3)
/-- R648 -/
def execCeilfSul (reg2 : Reg) (reg3 : RegPair) (s : State) : Out := s.fpuToInt .single (some .pos) false 64 (.one reg2) (.pair reg3)
/-- R649 -/
def execCeilfSuw (reg2 reg3 : Reg) (s : State) : Out := s.fpuToInt .single (some .pos) false 32 (.one reg2) (.one reg3)
/-- R650 -/
def execCeilfSw (reg2 reg3 : Reg) (s : State) : Out := s.fpuToInt .single (some .pos) true 32 (.one reg2) (.one reg3)
/-- R651 -/
def execFloorfDl (reg2 reg3 : RegPair) (s : State) : Out := s.fpuToInt .double (some .neg) true 64 (.pair reg2) (.pair reg3)
/-- R652 -/
def execFloorfDul (reg2 reg3 : RegPair) (s : State) : Out := s.fpuToInt .double (some .neg) false 64 (.pair reg2) (.pair reg3)
/-- R653 -/
def execFloorfDuw (reg2 : RegPair) (reg3 : Reg) (s : State) : Out := s.fpuToInt .double (some .neg) false 32 (.pair reg2) (.one reg3)
/-- R654 -/
def execFloorfDw (reg2 : RegPair) (reg3 : Reg) (s : State) : Out := s.fpuToInt .double (some .neg) true 32 (.pair reg2) (.one reg3)
/-- R655 -/
def execFloorfSl (reg2 : Reg) (reg3 : RegPair) (s : State) : Out := s.fpuToInt .single (some .neg) true 64 (.one reg2) (.pair reg3)
/-- R656 -/
def execFloorfSul (reg2 : Reg) (reg3 : RegPair) (s : State) : Out := s.fpuToInt .single (some .neg) false 64 (.one reg2) (.pair reg3)
/-- R657 -/
def execFloorfSuw (reg2 reg3 : Reg) (s : State) : Out := s.fpuToInt .single (some .neg) false 32 (.one reg2) (.one reg3)
/-- R658 -/
def execFloorfSw (reg2 reg3 : Reg) (s : State) : Out := s.fpuToInt .single (some .neg) true 32 (.one reg2) (.one reg3)
/-- R659 -/
def execRoundfDl (reg2 reg3 : RegPair) (s : State) : Out := s.fpuToInt .double (some .nearest) true 64 (.pair reg2) (.pair reg3)
/-- R660 -/
def execRoundfDul (reg2 reg3 : RegPair) (s : State) : Out := s.fpuToInt .double (some .nearest) false 64 (.pair reg2) (.pair reg3)
/-- R661 -/
def execRoundfDuw (reg2 : RegPair) (reg3 : Reg) (s : State) : Out := s.fpuToInt .double (some .nearest) false 32 (.pair reg2) (.one reg3)
/-- R662 -/
def execRoundfDw (reg2 : RegPair) (reg3 : Reg) (s : State) : Out := s.fpuToInt .double (some .nearest) true 32 (.pair reg2) (.one reg3)
/-- R663 -/
def execRoundfSl (reg2 : Reg) (reg3 : RegPair) (s : State) : Out := s.fpuToInt .single (some .nearest) true 64 (.one reg2) (.pair reg3)
/-- R664 -/
def execRoundfSul (reg2 : Reg) (reg3 : RegPair) (s : State) : Out := s.fpuToInt .single (some .nearest) false 64 (.one reg2) (.pair reg3)
/-- R665 -/
def execRoundfSuw (reg2 reg3 : Reg) (s : State) : Out := s.fpuToInt .single (some .nearest) false 32 (.one reg2) (.one reg3)
/-- R666 -/
def execRoundfSw (reg2 reg3 : Reg) (s : State) : Out := s.fpuToInt .single (some .nearest) true 32 (.one reg2) (.one reg3)
/-- R667 -/
def execTrncfDl (reg2 reg3 : RegPair) (s : State) : Out := s.fpuToInt .double (some .zero) true 64 (.pair reg2) (.pair reg3)
/-- R668 -/
def execTrncfDul (reg2 reg3 : RegPair) (s : State) : Out := s.fpuToInt .double (some .zero) false 64 (.pair reg2) (.pair reg3)
/-- R669 -/
def execTrncfDuw (reg2 : RegPair) (reg3 : Reg) (s : State) : Out := s.fpuToInt .double (some .zero) false 32 (.pair reg2) (.one reg3)
/-- R670 -/
def execTrncfDw (reg2 : RegPair) (reg3 : Reg) (s : State) : Out := s.fpuToInt .double (some .zero) true 32 (.pair reg2) (.one reg3)
/-- R671 -/
def execTrncfSl (reg2 : Reg) (reg3 : RegPair) (s : State) : Out := s.fpuToInt .single (some .zero) true 64 (.one reg2) (.pair reg3)
/-- R672 -/
def execTrncfSul (reg2 : Reg) (reg3 : RegPair) (s : State) : Out := s.fpuToInt .single (some .zero) false 64 (.one reg2) (.pair reg3)
/-- R673 -/
def execTrncfSuw (reg2 reg3 : Reg) (s : State) : Out := s.fpuToInt .single (some .zero) false 32 (.one reg2) (.one reg3)
/-- R674 -/
def execTrncfSw (reg2 reg3 : Reg) (s : State) : Out := s.fpuToInt .single (some .zero) true 32 (.one reg2) (.one reg3)
/-- R675 -/
def execCvtfDl (reg2 reg3 : RegPair) (s : State) : Out := s.fpuToInt .double none true 64 (.pair reg2) (.pair reg3)
/-- R676 -/
def execCvtfDul (reg2 reg3 : RegPair) (s : State) : Out := s.fpuToInt .double none false 64 (.pair reg2) (.pair reg3)
/-- R677 -/
def execCvtfDuw (reg2 : RegPair) (reg3 : Reg) (s : State) : Out := s.fpuToInt .double none false 32 (.pair reg2) (.one reg3)
/-- R678 -/
def execCvtfDw (reg2 : RegPair) (reg3 : Reg) (s : State) : Out := s.fpuToInt .double none true 32 (.pair reg2) (.one reg3)
/-- R679 -/
def execCvtfSl (reg2 : Reg) (reg3 : RegPair) (s : State) : Out := s.fpuToInt .single none true 64 (.one reg2) (.pair reg3)
/-- R680 -/
def execCvtfSul (reg2 : Reg) (reg3 : RegPair) (s : State) : Out := s.fpuToInt .single none false 64 (.one reg2) (.pair reg3)
/-- R681 -/
def execCvtfSuw (reg2 reg3 : Reg) (s : State) : Out := s.fpuToInt .single none false 32 (.one reg2) (.one reg3)
/-- R682 -/
def execCvtfSw (reg2 reg3 : Reg) (s : State) : Out := s.fpuToInt .single none true 32 (.one reg2) (.one reg3)
/-- R683 -/
def execCvtfDs (reg2 : RegPair) (reg3 : Reg) (s : State) : Out := s.fpuToFp .double .single (.pair reg2) (.one reg3)
/-- R684: the low halfword of reg2. -/
def execCvtfHs (reg2 reg3 : Reg) (s : State) : Out :=
  s.fpuOp (.one reg3) fun p w => fpOfHalf p w ((s.reg reg2).extractLsb' 0 16)
/-- R685 -/
def execCvtfLd (reg2 reg3 : RegPair) (s : State) : Out := s.fpuOfInt .double (s.regPair reg2).toInt (.pair reg3)
/-- R686 -/
def execCvtfLs (reg2 : RegPair) (reg3 : Reg) (s : State) : Out := s.fpuOfInt .single (s.regPair reg2).toInt (.one reg3)
/-- R687 -/
def execCvtfSd (reg2 : Reg) (reg3 : RegPair) (s : State) : Out := s.fpuToFp .single .double (.one reg2) (.pair reg3)
/-- R688: zero-extended. -/
def execCvtfSh (reg2 reg3 : Reg) (s : State) : Out := s.fpuToFp .single .half (.one reg2) (.one reg3)
/-- R689 -/
def execCvtfUld (reg2 reg3 : RegPair) (s : State) : Out := s.fpuOfInt .double (s.regPair reg2).toNat (.pair reg3)
/-- R690 -/
def execCvtfUls (reg2 : RegPair) (reg3 : Reg) (s : State) : Out := s.fpuOfInt .single (s.regPair reg2).toNat (.one reg3)
/-- R691: exact, FPSR not touched. -/
def execCvtfUwd (reg2 : Reg) (reg3 : RegPair) (s : State) : Out :=
  s.fpuMove (.pair reg3) (fpOfInt s.sys.fpsr .double (s.reg reg2).toNat).val
/-- R692 -/
def execCvtfUws (reg2 reg3 : Reg) (s : State) : Out := s.fpuOfInt .single (s.reg reg2).toNat (.one reg3)
/-- R693: exact, FPSR not touched. -/
def execCvtfWd (reg2 : Reg) (reg3 : RegPair) (s : State) : Out :=
  s.fpuMove (.pair reg3) (fpOfInt s.sys.fpsr .double (s.reg reg2).toInt).val
/-- R694 -/
def execCvtfWs (reg2 reg3 : Reg) (s : State) : Out := s.fpuOfInt .single (s.reg reg2).toInt (.one reg3)

end Sys2Proof.Machine
end

