-- ==== Sys2Proof/Machine/Fxu.lean ====
section
/-!
DEFINITION. FXU instructions: data movement, vector loads and stores, comparison, basic and fused arithmetic (48_fxu.md).
-/

namespace Sys2Proof.Machine

/-! ## Elements and completion -/

/-- R701: the word element `k` of a vector register's value. -/
def wordElem (v : QWord) (k : Nat) : Word := v.extractLsb' (32 * k) 32

/-- R701: a value from its four word elements. -/
def ofWords (w : Nat → Word) : QWord := w 3 ++ w 2 ++ w 1 ++ w 0

/-- R705: what was detected in some element, and whether a source was flushed in some element. -/
def detAny (r : Nat → FpRes) : FpDet := (r 3).det ||| (r 2).det ||| (r 1).det ||| (r 0).det
@[inherit_doc detAny]
def flushedAny (r : Nat → FpRes) : Bool := (r 3).flushed || (r 2).flushed || (r 1).flushed || (r 0).flushed

/-- R189: the contents of FXXC. -/
def fxxcOf (r : Nat → FpRes) : Word :=
  0#2 ++ (r 3).det ++ 0#2 ++ (r 2).det ++ 0#2 ++ (r 1).det ++ 0#2 ++ (r 0).det

/-- R190: the bits set in FXXP. -/
def fxxpOf (r : Nat → FpRes) : Word := fxxcOf r &&& 0x1F1F1F1F

/-- R705: FxuFinish: cause bits; then the exception, or the preservation bits and the write of all four elements. -/
def State.fxuFinish (s : State) (r : Nat → FpRes) (write : State → State) : Out :=
  let det := detAny r
  let w := fpCause s.sys.fxsr det (flushedAny r)
  if fpTaken s.sys.fxsr det then { s with sys := { s.sys with fxsr := w, fxxc := fxxcOf r } }.raiseFxe
  else
    let s1 := { s with
      sys := { s.sys with fxsr := fpKeep w det, fxxc := fxxcOf r, fxxp := s.sys.fxxp ||| fxxpOf r } }
    .next ((write s1).advance 4)

/-- R706: Vec4: element `k` of the result is `f k`, given the product and FXSR. -/
def State.vec4 (s : State) (wreg3 : VReg) (f : Product → Word → Nat → FpRes) : Out :=
  let r := f s.prod s.sys.fxsr
  s.withFxu (s.fxuFinish r fun t => t.setVreg wreg3 (ofWords fun k => (r k).val.setWidth 32))

/-- R700: an instruction that moves data only: FXSR is not touched. -/
def State.fxuMove (s : State) (wreg3 : VReg) (w : Nat → Word) (len : Nat) : Out :=
  s.withFxu (.next ((s.setVreg wreg3 (ofWords w)).advance len))

/-- A word element of a register as a pattern. -/
def State.elem (s : State) (r : VReg) (k : Nat) : DWord := (wordElem (s.vreg r) k).setWidth 64

/-! ## Data movement -/

/-- R710 -/
def execMovvW4 (wreg2 wreg3 : VReg) (s : State) : Out := s.fxuMove wreg3 (wordElem (s.vreg wreg2)) 4

/-- R711: imm2 bit 0 exchanges the elements of each pair; bit 1 says whether the odd or the even elements change sign. -/
def execFlpvS4 (imm2 : BitVec 2) (wreg2 wreg3 : VReg) (s : State) : Out :=
  let v := s.vreg wreg2
  s.fxuMove wreg3 (fun k =>
    let src := wordElem v (if imm2.getLsbD 0 then k ^^^ 1 else k)
    if (k % 2 == 1) == imm2.getLsbD 1 then src ^^^ 0x80000000 else src) 4

/-- R712: three bits of imm12 select each element. -/
def execShflvW4 (imm12 : BitVec 12) (wreg1 wreg2 wreg3 : VReg) (s : State) : Out :=
  s.fxuMove wreg3 (fun k =>
    let sel := (imm12.extractLsb' (3 * k) 3).toNat
    if sel ≤ 3 then wordElem (s.vreg wreg1) sel else wordElem (s.vreg wreg2) (sel - 4)) 6

/-! ## Loads and stores -/

/-- R707, R822: a vector access. -/
def vecAccess (adr : Word) (size : Nat) (ds : BitVec 3) (wreg3 : VReg) (itype : BitVec 5) (writes : Bool) : Access :=
  ⟨adr, size, [if writes then .write else .read], true, false, meiWord 6 wreg3 ds false itype writes⟩

/-- R707: VAdr and the load. -/
def State.vecLoad (s : State) (x : Access) (wreg3 : VReg) (v : QWord) : Out :=
  s.withFxu (s.access x (.next ((s.setVreg wreg3 v).advance 6)))

/-- R707, R201: a vector store to a byte of the linked range ends the link; addresses wrap. -/
def State.breakLink (s : State) (adr : Word) (size : Nat) : State :=
  if (List.range size).any fun k => s.link.covers (adr + BitVec.ofNat 32 k) then s.dropLink else s

/-- R707: VAdr and the store. -/
def State.vecStore (s : State) (x : Access) (write : State → State) : Out :=
  s.withFxu (s.access x (.next (((write s).breakLink x.adr x.size).advance 6)))

/-- R707: the displacement with its low `k` bits zero. -/
def State.vecAdr {n : Nat} (s : State) (reg1 : Reg) (disp : BitVec n) (k : Nat) : Word := s.reg reg1 + sextW (dispLow disp k)

/-- R713 -/
def execLdvW (imm4 : BitVec 4) (disp16 : BitVec 14) (reg1 : Reg) (wreg3 : VReg) (s : State) : Out :=
  let adr := s.vecAdr reg1 disp16 2
  let v := s.readWord adr
  s.vecLoad (vecAccess adr 4 2 wreg3 29 false) wreg3
    (ofWords fun k => if imm4.getLsbD k then v else wordElem (s.vreg wreg3) k)

/-- R714 -/
def execLdvDw (imm2 : BitVec 2) (disp16 : BitVec 13) (reg1 : Reg) (wreg3 : VReg) (s : State) : Out :=
  let adr := s.vecAdr reg1 disp16 3
  let v := s.readDWord adr
  s.vecLoad (vecAccess adr 8 3 wreg3 29 false) wreg3
    (ofWords fun k => if imm2.getLsbD (k / 2) then v.extractLsb' (32 * (k % 2)) 32 else wordElem (s.vreg wreg3) k)

/-- R715 -/
def execLdvQw (disp16 : BitVec 12) (reg1 : Reg) (wreg3 : VReg) (s : State) : Out :=
  let adr := s.vecAdr reg1 disp16 4
  s.vecLoad (vecAccess adr 16 4 wreg3 29 false) wreg3 (s.readQWord adr)

/-- R716 -/
def execLdvzH4 (disp16 : BitVec 13) (reg1 : Reg) (wreg3 : VReg) (s : State) : Out :=
  let adr := s.vecAdr reg1 disp16 3
  let v := s.readDWord adr
  s.vecLoad (vecAccess adr 8 3 wreg3 31 false) wreg3 (ofWords fun k => zextW (v.extractLsb' (16 * k) 16))

/-- R717 -/
def execStvW (imm2 : BitVec 2) (disp16 : BitVec 14) (reg1 : Reg) (wreg3 : VReg) (s : State) : Out :=
  let adr := s.vecAdr reg1 disp16 2
  s.vecStore (vecAccess adr 4 2 wreg3 29 true) fun t => t.writeWord adr (wordElem (s.vreg wreg3) imm2.toNat)

/-- R718 -/
def execStvDw (imm1 : BitVec 1) (disp16 : BitVec 13) (reg1 : Reg) (wreg3 : VReg) (s : State) : Out :=
  let adr := s.vecAdr reg1 disp16 3
  s.vecStore (vecAccess adr 8 3 wreg3 29 true) fun t => t.writeDWord adr ((s.vreg wreg3).extractLsb' (64 * imm1.toNat) 64)

/-- R719 -/
def execStvQw (disp16 : BitVec 12) (reg1 : Reg) (wreg3 : VReg) (s : State) : Out :=
  let adr := s.vecAdr reg1 disp16 4
  s.vecStore (vecAccess adr 16 4 wreg3 29 true) fun t => t.writeQWord adr (s.vreg wreg3)

/-- R720: the low halfword of each element. -/
def lowHalves (v : QWord) : DWord :=
  v.extractLsb' 96 16 ++ v.extractLsb' 64 16 ++ v.extractLsb' 32 16 ++ v.extractLsb' 0 16

/-- R720 -/
def execStvzH4 (disp16 : BitVec 13) (reg1 : Reg) (wreg3 : VReg) (s : State) : Out :=
  let adr := s.vecAdr reg1 disp16 3
  s.vecStore (vecAccess adr 8 3 wreg3 31 true) fun t => t.writeDWord adr (lowHalves (s.vreg wreg3))

/-! ## Conditional move, flag transfer, comparison -/

/-- R721 -/
def execCmovfW4 (wreg1 wreg2 wreg3 wreg4 : VReg) (s : State) : Out :=
  s.fxuMove wreg3 (fun k =>
    if wordElem (s.vreg wreg4) k != 0 then wordElem (s.vreg wreg1) k else wordElem (s.vreg wreg2) k) 6

/-- R722: the condition that imm3 selects. -/
def vecCondition (v : QWord) (imm3 : BitVec 3) : Bool :=
  let b (k : Nat) : Bool := wordElem v k != 0
  match imm3.toNat with
  | 4 => b 3 && b 2 && b 1 && b 0
  | 5 => b 3 || b 2 || b 1 || b 0
  | n => decide (n ≤ 3) && b n

/-- R722 -/
def execTrfsrvW4 (imm3 : BitVec 3) (wreg2 : VReg) (s : State) : Out :=
  s.withFxu (.next ((s.setZ (vecCondition (s.vreg wreg2) imm3)).advance 4))

/-- R723: an element that detects V while V is not enabled is a free value (U11). -/
def execCmpfS4 (fcond : BitVec 4) (wreg1 wreg2 wreg3 : VReg) (s : State) : Out :=
  let r (k : Nat) : FpRes :=
    let c := fpCompare .single fcond (s.elem wreg2 k) (s.elem wreg1 k)
    if c.1 then ⟨detV, (Config.freeWord (s.free + k)).setWidth 64, false⟩
    else ⟨0, if c.2 then 0xFFFFFFFF else 0, false⟩
  s.withFxu (s.fxuFinish r fun t => (t.setVreg wreg3 (ofWords fun k => (r k).val.setWidth 32)).skipFree 4)

/-! ## Arithmetic -/

/-- R725 -/
def execAbsfS4 (wreg2 wreg3 : VReg) (s : State) : Out := s.fxuMove wreg3 (fun k => wordElem (s.vreg wreg2) k &&& 0x7FFFFFFF) 4
/-- R726 -/
def execNegfS4 (wreg2 wreg3 : VReg) (s : State) : Out := s.fxuMove wreg3 (fun k => wordElem (s.vreg wreg2) k ^^^ 0x80000000) 4

/-- R727 to R730: element by element, wreg2 op wreg1. -/
def State.vecArith (s : State) (op : RMode → Fp → Fp → Cell) (wreg1 wreg2 wreg3 : VReg) : Out :=
  s.vec4 wreg3 fun p w k => fpArith2 p w .single op (s.elem wreg2 k) (s.elem wreg1 k)

/-- R731, R732, R790, R791: the larger or the smaller of element pairs; one free sign for each element. -/
def State.vecMaxMin (s : State) (larger : Bool) (wreg3 : VReg) (x y : Nat → DWord) : Out :=
  let r (k : Nat) : FpRes := fpMaxMin s.prod .single larger (Config.freeBit (s.free + k)) (x k) (y k)
  s.withFxu (s.fxuFinish r fun t => (t.setVreg wreg3 (ofWords fun k => (r k).val.setWidth 32)).skipFree 4)

/-- R736 to R739 -/
def State.vecFma (s : State) (sub neg : Bool) (wreg1 wreg2 wreg3 : VReg) : Out :=
  s.vec4 wreg3 fun p w k => fpFma p w sub neg (s.elem wreg2 k) (s.elem wreg1 k) (s.elem wreg3 k)

/-- R727 -/
def execAddfS4 (wreg1 wreg2 wreg3 : VReg) (s : State) : Out := s.vecArith addCell wreg1 wreg2 wreg3
/-- R728 -/
def execSubfS4 (wreg1 wreg2 wreg3 : VReg) (s : State) : Out := s.vecArith subCell wreg1 wreg2 wreg3
/-- R729 -/
def execMulfS4 (wreg1 wreg2 wreg3 : VReg) (s : State) : Out := s.vecArith mulCell wreg1 wreg2 wreg3
/-- R730 -/
def execDivfS4 (wreg1 wreg2 wreg3 : VReg) (s : State) : Out := s.vecArith divCell wreg1 wreg2 wreg3
/-- R731 -/
def execMaxfS4 (wreg1 wreg2 wreg3 : VReg) (s : State) : Out := s.vecMaxMin true wreg3 (s.elem wreg2) (s.elem wreg1)
/-- R732 -/
def execMinfS4 (wreg1 wreg2 wreg3 : VReg) (s : State) : Out := s.vecMaxMin false wreg3 (s.elem wreg2) (s.elem wreg1)
/-- R733 -/
def execSqrtfS4 (wreg2 wreg3 : VReg) (s : State) : Out := s.vec4 wreg3 fun p w k => fpSqrt p w .single (s.elem wreg2 k)
/-- R734 -/
def execRecipfS4 (wreg2 wreg3 : VReg) (s : State) : Out :=
  s.vec4 wreg3 fun p w k => recipS p w (wordElem (s.vreg wreg2) k)
/-- R735 -/
def execRsqrtfS4 (wreg2 wreg3 : VReg) (s : State) : Out :=
  s.vec4 wreg3 fun p w k => rsqrtS p w (wordElem (s.vreg wreg2) k)
/-- R736 -/
def execFmafS4 (wreg1 wreg2 wreg3 : VReg) (s : State) : Out := s.vecFma false false wreg1 wreg2 wreg3
/-- R737 -/
def execFmsfS4 (wreg1 wreg2 wreg3 : VReg) (s : State) : Out := s.vecFma true false wreg1 wreg2 wreg3
/-- R738 -/
def execFnmafS4 (wreg1 wreg2 wreg3 : VReg) (s : State) : Out := s.vecFma false true wreg1 wreg2 wreg3
/-- R739 -/
def execFnmsfS4 (wreg1 wreg2 wreg3 : VReg) (s : State) : Out := s.vecFma true true wreg1 wreg2 wreg3

end Sys2Proof.Machine
end

