-- ==== Sys2Proof/Machine/FxuArith.lean ====
section
/-!
DEFINITION. FXU instructions: conversions; compound, exchange and reduction arithmetic (49_fxu.md).
-/

namespace Sys2Proof.Machine

/-- R760: ToIntElem on each element; `mode` none: FXSR.RM. -/
def State.vecToInt (s : State) (mode : Option RMode) (signed : Bool) (wreg2 wreg3 : VReg) : Out :=
  s.vec4 wreg3 fun _ w k => fpToInt w .single mode signed 32 (s.elem wreg2 k)

/-- R761 -/
def execRoundfSw4 (wreg2 wreg3 : VReg) (s : State) : Out := s.vecToInt (some .nearest) true wreg2 wreg3
/-- R762 -/
def execRoundfSuw4 (wreg2 wreg3 : VReg) (s : State) : Out := s.vecToInt (some .nearest) false wreg2 wreg3
/-- R763 -/
def execTrncfSw4 (wreg2 wreg3 : VReg) (s : State) : Out := s.vecToInt (some .zero) true wreg2 wreg3
/-- R764 -/
def execTrncfSuw4 (wreg2 wreg3 : VReg) (s : State) : Out := s.vecToInt (some .zero) false wreg2 wreg3
/-- R765 -/
def execCeilfSw4 (wreg2 wreg3 : VReg) (s : State) : Out := s.vecToInt (some .pos) true wreg2 wreg3
/-- R766 -/
def execCeilfSuw4 (wreg2 wreg3 : VReg) (s : State) : Out := s.vecToInt (some .pos) false wreg2 wreg3
/-- R767 -/
def execFloorfSw4 (wreg2 wreg3 : VReg) (s : State) : Out := s.vecToInt (some .neg) true wreg2 wreg3
/-- R768 -/
def execFloorfSuw4 (wreg2 wreg3 : VReg) (s : State) : Out := s.vecToInt (some .neg) false wreg2 wreg3
/-- R769 -/
def execCvtfSw4 (wreg2 wreg3 : VReg) (s : State) : Out := s.vecToInt none true wreg2 wreg3
/-- R770 -/
def execCvtfSuw4 (wreg2 wreg3 : VReg) (s : State) : Out := s.vecToInt none false wreg2 wreg3
/-- R771 -/
def execCvtfWs4 (wreg2 wreg3 : VReg) (s : State) : Out :=
  s.vec4 wreg3 fun _ w k => fpOfInt w .single (wordElem (s.vreg wreg2) k).toInt
/-- R772 -/
def execCvtfUws4 (wreg2 wreg3 : VReg) (s : State) : Out :=
  s.vec4 wreg3 fun _ w k => fpOfInt w .single (wordElem (s.vreg wreg2) k).toNat
/-- R773 -/
def execCvtfHs4 (wreg2 wreg3 : VReg) (s : State) : Out :=
  s.vec4 wreg3 fun p w k => fpOfHalf p w ((wordElem (s.vreg wreg2) k).extractLsb' 0 16)
/-- R774 -/
def execCvtfSh4 (wreg2 wreg3 : VReg) (s : State) : Out :=
  s.vec4 wreg3 fun p w k => fpToFp p w .single .half (s.elem wreg2 k)

/-! ## Arithmetic across elements -/

/-- R775: the operands of element `k`: of wreg2 and wreg1 at the same place, or exchanged, or a pair of one register (wreg2 for the
odd elements of the result, wreg1 for the even ones). -/
inductive Pairing where
  | same
  | exchange
  | reduce
deriving DecidableEq, Repr

/-- R775: the left and the right operand of element `k`. -/
def State.mixOperands (s : State) (m : Pairing) (wreg1 wreg2 : VReg) (k : Nat) : DWord × DWord :=
  match m with
  | .same => (s.elem wreg2 k, s.elem wreg1 k)
  | .exchange => (s.elem wreg2 k, s.elem wreg1 (k ^^^ 1))
  | .reduce =>
    let r := if k % 2 = 1 then wreg2 else wreg1
    (s.elem r (k ||| 1), s.elem r (k &&& 2))

/-- R775: Mix4 with one operation on the odd elements and one on the even; with `neg` the sign of every result that is not a NaN is
inverted after rounding. -/
def State.mix4 (s : State) (m : Pairing) (odd even : RMode → Fp → Fp → Cell) (neg : Bool) (wreg1 wreg2 wreg3 : VReg) : Out :=
  s.vec4 wreg3 fun p w k =>
    let x := s.mixOperands m wreg1 wreg2 k
    let r := fpArith2 p w .single (if k % 2 = 1 then odd else even) x.1 x.2
    if neg then { r with val := negateResult .single r.val } else r

/-- R790, R791 -/
def State.reduceMaxMin (s : State) (larger : Bool) (wreg1 wreg2 wreg3 : VReg) : Out :=
  s.vecMaxMin larger wreg3 (fun k => (s.mixOperands .reduce wreg1 wreg2 k).1) (fun k => (s.mixOperands .reduce wreg1 wreg2 k).2)

/-- R776 -/
def execAddsubfS4 (wreg1 wreg2 wreg3 : VReg) (s : State) : Out := s.mix4 .same addCell subCell false wreg1 wreg2 wreg3
/-- R777 -/
def execSubaddfS4 (wreg1 wreg2 wreg3 : VReg) (s : State) : Out := s.mix4 .same subCell addCell false wreg1 wreg2 wreg3
/-- R778 -/
def execAddsubnfS4 (wreg1 wreg2 wreg3 : VReg) (s : State) : Out := s.mix4 .same addCell subCell true wreg1 wreg2 wreg3
/-- R779 -/
def execSubaddnfS4 (wreg1 wreg2 wreg3 : VReg) (s : State) : Out := s.mix4 .same subCell addCell true wreg1 wreg2 wreg3
/-- R780 -/
def execAddxfS4 (wreg1 wreg2 wreg3 : VReg) (s : State) : Out := s.mix4 .exchange addCell addCell false wreg1 wreg2 wreg3
/-- R781 -/
def execSubxfS4 (wreg1 wreg2 wreg3 : VReg) (s : State) : Out := s.mix4 .exchange subCell subCell false wreg1 wreg2 wreg3
/-- R782 -/
def execMulxfS4 (wreg1 wreg2 wreg3 : VReg) (s : State) : Out := s.mix4 .exchange mulCell mulCell false wreg1 wreg2 wreg3
/-- R783 -/
def execAddsubxfS4 (wreg1 wreg2 wreg3 : VReg) (s : State) : Out := s.mix4 .exchange addCell subCell false wreg1 wreg2 wreg3
/-- R784 -/
def execSubaddxfS4 (wreg1 wreg2 wreg3 : VReg) (s : State) : Out := s.mix4 .exchange subCell addCell false wreg1 wreg2 wreg3
/-- R785 -/
def execAddsubnxfS4 (wreg1 wreg2 wreg3 : VReg) (s : State) : Out := s.mix4 .exchange addCell subCell true wreg1 wreg2 wreg3
/-- R786 -/
def execSubaddnxfS4 (wreg1 wreg2 wreg3 : VReg) (s : State) : Out := s.mix4 .exchange subCell addCell true wreg1 wreg2 wreg3
/-- R787 -/
def execAddrfS4 (wreg1 wreg2 wreg3 : VReg) (s : State) : Out := s.mix4 .reduce addCell addCell false wreg1 wreg2 wreg3
/-- R788 -/
def execSubrfS4 (wreg1 wreg2 wreg3 : VReg) (s : State) : Out := s.mix4 .reduce subCell subCell false wreg1 wreg2 wreg3
/-- R789 -/
def execMulrfS4 (wreg1 wreg2 wreg3 : VReg) (s : State) : Out := s.mix4 .reduce mulCell mulCell false wreg1 wreg2 wreg3
/-- R790 -/
def execMaxrfS4 (wreg1 wreg2 wreg3 : VReg) (s : State) : Out := s.reduceMaxMin true wreg1 wreg2 wreg3
/-- R791 -/
def execMinrfS4 (wreg1 wreg2 wreg3 : VReg) (s : State) : Out := s.reduceMaxMin false wreg1 wreg2 wreg3

end Sys2Proof.Machine
end

