-- ==== Sys2Proof/Machine/LoadStore.lean ====
section
/-!
DEFINITION. Load and store instructions (42_load_store.md). MEI.LEN and MEI.ITYPE by form (60_exceptions.md R822): disp16 4 and
00001, disp23 6 and 00010, post-increment 4 and 00100, post-decrement 4 and 00101, ep relative 2 and 00000.
-/

namespace Sys2Proof.Machine

/-- R450: a load with a 16-bit displacement. -/
def State.load16 (s : State) (z : Size) (u : Bool) (reg1 : Reg) (disp : BitVec 16) (dst : Reg) : Out :=
  s.loadTo (loadAccess (s.reg reg1 + sextW disp) z 4 dst u 1) z u dst none 4

/-- R450: a load with a 23-bit displacement. -/
def State.load23 (s : State) (z : Size) (u : Bool) (reg1 : Reg) (disp : BitVec 23) (dst : Reg) : Out :=
  s.loadTo (loadAccess (s.reg reg1 + sextW disp) z 6 dst u 2) z u dst none 6

/-- R469: a load with post-increment. -/
def State.loadInc (s : State) (z : Size) (u : Bool) (reg1 dst : Reg) : Out :=
  s.loadTo (loadAccess (s.reg reg1) z 4 dst u 4) z u dst (some (reg1, s.reg reg1 + BitVec.ofNat 32 z.bytes)) 4

/-- R469: a load with post-decrement. -/
def State.loadDec (s : State) (z : Size) (u : Bool) (reg1 dst : Reg) : Out :=
  s.loadTo (loadAccess (s.reg reg1) z 4 dst u 5) z u dst (some (reg1, s.reg reg1 - BitVec.ofNat 32 z.bytes)) 4

/-- R457 to R461: a load relative to ep. -/
def State.loadEp (s : State) (z : Size) (u : Bool) (disp : BitVec 8) (dst : Reg) : Out :=
  s.loadTo (loadAccess (s.reg ep + zextW disp) z 2 dst u 0) z u dst none 2

/-- R450: a store with a 16-bit displacement. -/
def State.store16 (s : State) (z : Size) (reg1 : Reg) (disp : BitVec 16) (src : Reg) : Out :=
  s.storeFrom (storeAccess (s.reg reg1 + sextW disp) z 4 src 1) z src none 4

/-- R450: a store with a 23-bit displacement. -/
def State.store23 (s : State) (z : Size) (reg1 : Reg) (disp : BitVec 23) (src : Reg) : Out :=
  s.storeFrom (storeAccess (s.reg reg1 + sextW disp) z 6 src 2) z src none 6

/-- R469: a store with post-increment. -/
def State.storeInc (s : State) (z : Size) (reg1 src : Reg) : Out :=
  s.storeFrom (storeAccess (s.reg reg1) z 4 src 4) z src (some (reg1, s.reg reg1 + BitVec.ofNat 32 z.bytes)) 4

/-- R469: a store with post-decrement. -/
def State.storeDec (s : State) (z : Size) (reg1 src : Reg) : Out :=
  s.storeFrom (storeAccess (s.reg reg1) z 4 src 5) z src (some (reg1, s.reg reg1 - BitVec.ofNat 32 z.bytes)) 4

/-- R466 to R468: a store relative to ep. -/
def State.storeEp (s : State) (z : Size) (disp : BitVec 8) (src : Reg) : Out :=
  s.storeFrom (storeAccess (s.reg ep + zextW disp) z 2 src 0) z src none 2

/-- The pair that LD.DW and ST.DW use: bit 0 of the register number is ignored (R453, R463). -/
def pairOf (r : Reg) : RegPair := r.extractLsb' 1 4

/-- R822: the access of LD.DW and ST.DW. MEI.REG is the field reg3 as it is encoded, also where its bit 0, which R453 and R463 ignore,
is 1. DESIGN CHOICE (notes/assumptions/31.md). -/
def dwordAccess (adr : Word) (r : Reg) (writes : Bool) : Access :=
  ⟨adr, 8, [if writes then .write else .read], true, false, meiWord 6 r 3 false 2 writes⟩

/-- R451, form (1) -/
def execLdBF1 (disp16 : BitVec 16) (reg1 reg2 : Reg) (s : State) : Out := s.load16 .byte false reg1 disp16 reg2
/-- R451, form (2) -/
def execLdBF2 (disp23 : BitVec 23) (reg1 reg3 : Reg) (s : State) : Out := s.load23 .byte false reg1 disp23 reg3
/-- R451, form (3) -/
def execLdBF3 (reg1 reg3 : Reg) (s : State) : Out := s.loadInc .byte false reg1 reg3
/-- R451, form (4) -/
def execLdBF4 (reg1 reg3 : Reg) (s : State) : Out := s.loadDec .byte false reg1 reg3
/-- R452, form (1) -/
def execLdBuF1 (disp16 : BitVec 16) (reg1 reg2 : Reg) (s : State) : Out := s.load16 .byte true reg1 disp16 reg2
/-- R452, form (2) -/
def execLdBuF2 (disp23 : BitVec 23) (reg1 reg3 : Reg) (s : State) : Out := s.load23 .byte true reg1 disp23 reg3
/-- R452, form (3) -/
def execLdBuF3 (reg1 reg3 : Reg) (s : State) : Out := s.loadInc .byte true reg1 reg3
/-- R452, form (4) -/
def execLdBuF4 (reg1 reg3 : Reg) (s : State) : Out := s.loadDec .byte true reg1 reg3
/-- R453 -/
def execLdDw (disp23 : BitVec 22) (reg1 reg3 : Reg) (s : State) : Out :=
  let x := dwordAccess (s.reg reg1 + sextW (dispLow disp23 1)) reg3 false
  s.access x (.next ((s.setRegPair (pairOf reg3) (s.readDWord x.adr)).advance 6))
/-- R454, form (1) -/
def execLdHF1 (disp16 : BitVec 15) (reg1 reg2 : Reg) (s : State) : Out := s.load16 .half false reg1 (dispLow disp16 1) reg2
/-- R454, form (2) -/
def execLdHF2 (disp23 : BitVec 22) (reg1 reg3 : Reg) (s : State) : Out := s.load23 .half false reg1 (dispLow disp23 1) reg3
/-- R454, form (3) -/
def execLdHF3 (reg1 reg3 : Reg) (s : State) : Out := s.loadInc .half false reg1 reg3
/-- R454, form (4) -/
def execLdHF4 (reg1 reg3 : Reg) (s : State) : Out := s.loadDec .half false reg1 reg3
/-- R455, form (1) -/
def execLdHuF1 (disp16 : BitVec 15) (reg1 reg2 : Reg) (s : State) : Out := s.load16 .half true reg1 (dispLow disp16 1) reg2
/-- R455, form (2) -/
def execLdHuF2 (disp23 : BitVec 22) (reg1 reg3 : Reg) (s : State) : Out := s.load23 .half true reg1 (dispLow disp23 1) reg3
/-- R455, form (3) -/
def execLdHuF3 (reg1 reg3 : Reg) (s : State) : Out := s.loadInc .half true reg1 reg3
/-- R455, form (4) -/
def execLdHuF4 (reg1 reg3 : Reg) (s : State) : Out := s.loadDec .half true reg1 reg3
/-- R456, form (1) -/
def execLdWF1 (disp16 : BitVec 15) (reg1 reg2 : Reg) (s : State) : Out := s.load16 .word false reg1 (dispLow disp16 1) reg2
/-- R456, form (2) -/
def execLdWF2 (disp23 : BitVec 22) (reg1 reg3 : Reg) (s : State) : Out := s.load23 .word false reg1 (dispLow disp23 1) reg3
/-- R456, form (3) -/
def execLdWF3 (reg1 reg3 : Reg) (s : State) : Out := s.loadInc .word false reg1 reg3
/-- R456, form (4) -/
def execLdWF4 (reg1 reg3 : Reg) (s : State) : Out := s.loadDec .word false reg1 reg3
/-- R457 -/
def execSldB (disp7 : BitVec 7) (reg2 : Reg) (s : State) : Out := s.loadEp .byte false (disp7.setWidth 8) reg2
/-- R458 -/
def execSldBu (disp4 : BitVec 4) (reg2 : Reg) (s : State) : Out := s.loadEp .byte true (disp4.setWidth 8) reg2
/-- R459 -/
def execSldH (disp8 : BitVec 7) (reg2 : Reg) (s : State) : Out := s.loadEp .half false (dispLow disp8 1) reg2
/-- R460 -/
def execSldHu (disp5 : BitVec 4) (reg2 : Reg) (s : State) : Out := s.loadEp .half true ((dispLow disp5 1).setWidth 8) reg2
/-- R461 -/
def execSldW (disp8 : BitVec 6) (reg2 : Reg) (s : State) : Out := s.loadEp .word false (dispLow disp8 2) reg2
/-- R462, form (1) -/
def execStBF1 (disp16 : BitVec 16) (reg1 reg2 : Reg) (s : State) : Out := s.store16 .byte reg1 disp16 reg2
/-- R462, form (2) -/
def execStBF2 (disp23 : BitVec 23) (reg1 reg3 : Reg) (s : State) : Out := s.store23 .byte reg1 disp23 reg3
/-- R462, form (3) -/
def execStBF3 (reg1 reg3 : Reg) (s : State) : Out := s.storeInc .byte reg1 reg3
/-- R462, form (4) -/
def execStBF4 (reg1 reg3 : Reg) (s : State) : Out := s.storeDec .byte reg1 reg3
/-- R463 -/
def execStDw (disp23 : BitVec 22) (reg1 reg3 : Reg) (s : State) : Out :=
  let x := dwordAccess (s.reg reg1 + sextW (dispLow disp23 1)) reg3 true
  s.access x (.next ((s.writeDWord x.adr (s.regPair (pairOf reg3))).advance 6))
/-- R464, form (1) -/
def execStHF1 (disp16 : BitVec 15) (reg1 reg2 : Reg) (s : State) : Out := s.store16 .half reg1 (dispLow disp16 1) reg2
/-- R464, form (2) -/
def execStHF2 (disp23 : BitVec 22) (reg1 reg3 : Reg) (s : State) : Out := s.store23 .half reg1 (dispLow disp23 1) reg3
/-- R464, form (3) -/
def execStHF3 (reg1 reg3 : Reg) (s : State) : Out := s.storeInc .half reg1 reg3
/-- R464, form (4) -/
def execStHF4 (reg1 reg3 : Reg) (s : State) : Out := s.storeDec .half reg1 reg3
/-- R465, form (1) -/
def execStWF1 (disp16 : BitVec 15) (reg1 reg2 : Reg) (s : State) : Out := s.store16 .word reg1 (dispLow disp16 1) reg2
/-- R465, form (2) -/
def execStWF2 (disp23 : BitVec 22) (reg1 reg3 : Reg) (s : State) : Out := s.store23 .word reg1 (dispLow disp23 1) reg3
/-- R465, form (3) -/
def execStWF3 (reg1 reg3 : Reg) (s : State) : Out := s.storeInc .word reg1 reg3
/-- R465, form (4) -/
def execStWF4 (reg1 reg3 : Reg) (s : State) : Out := s.storeDec .word reg1 reg3
/-- R466 -/
def execSstB (disp7 : BitVec 7) (reg2 : Reg) (s : State) : Out := s.storeEp .byte (disp7.setWidth 8) reg2
/-- R467 -/
def execSstH (disp8 : BitVec 7) (reg2 : Reg) (s : State) : Out := s.storeEp .half (dispLow disp8 1) reg2
/-- R468 -/
def execSstW (disp8 : BitVec 6) (reg2 : Reg) (s : State) : Out := s.storeEp .word (dispLow disp8 2) reg2

end Sys2Proof.Machine
end

