-- ==== Sys2Proof/Machine/Special.lean ====
section
/-!
DEFINITION. Table calls, stack frames, atomic access, NOP and RIE (43_special_stack_atomic.md).
-/

namespace Sys2Proof.Machine

/-! ## Tables -/

/-- R500, R502, R822: the read of a halfword table. Its alignment is not checked. -/
def tableHalf (adr : Word) (u : Bool) (itype : BitVec 5) : Access :=
  ⟨adr, 2, [.read], false, false, meiWord 2 0 1 u itype false⟩

/-- R500 -/
def execCallt (imm6 : BitVec 6) (s : State) : Out :=
  let adr := s.sys.ctbp + zextW (dispLow imm6 1)
  s.access (tableHalf adr true 17) <|
    let target := s.sys.ctbp + zextW (s.readHalf adr)
    let s1 := { s with sys := { s.sys with ctpc := s.pc + 2, ctpsw := putMasked s.sys.ctpsw 0x1F s.psw } }
    .next (s1.jump target)

/-- R501 -/
def execCtret (s : State) : Out := .next ((s.setPsw (putMasked s.psw 0x1F s.sys.ctpsw)).jump s.sys.ctpc)

/-- R502 -/
def execSwitch (reg1 : Reg) (s : State) : Out :=
  let base := s.pc + 2
  let adr := base + (s.reg reg1 <<< 1)
  s.access (tableHalf adr false 16) (.next (s.jump (base + (sextW (s.readHalf adr) <<< 1))))

/-! ## Stack frames -/

/-- The two low bits of an address of a stack access are masked (R504 to R507). -/
def wordAddress (a : Word) : Word := a &&& 0xFFFFFFFC

/-- R504, R506: the registers stored at descending addresses below `tmp`, each store checked; then what follows, given the last
address. Stores made before a denied one are kept (R504 (c)). -/
def pushRegs (mei : Reg → Word) (values : Reg → Word) : List Reg → Word → State → (Word → State → Out) → Out
  | [], tmp, s, k => k tmp s
  | r :: rs, tmp, s, k =>
    let adr := wordAddress (tmp - 4)
    s.access ⟨adr, 4, [.write], false, true, mei r⟩
      (pushRegs mei values rs (tmp - 4) (s.writeWord adr (values r)) k)

/-- R505, R507: the registers loaded from ascending addresses from `tmp`, each load checked; then what follows. A register for which
`keep` holds is read but not loaded. Loads made before a denied one are kept (R505 (b)). -/
def popRegs (mei : Reg → Word) (keep : Reg → Bool) : List Reg → Word → State → (Word → State → Out) → Out
  | [], tmp, s, k => k tmp s
  | r :: rs, tmp, s, k =>
    let adr := wordAddress tmp
    s.access ⟨adr, 4, [.read], false, true, mei r⟩
      (popRegs mei keep rs (tmp + 4) (if keep r then s else s.setReg r (s.readWord adr)) k)

/-- R822: MEI of PREPARE, DISPOSE (itype 01100), PUSHSP and POPSP (01101). -/
def stackMei (len : BitVec 4) (itype : BitVec 5) (writes : Bool) (r : Reg) : Word := meiWord len r 2 false itype writes

/-- R504: PREPARE of `len` bytes; `newEp` gives ep from the new sp, where the form changes ep. -/
def State.prepare (s : State) (list12 : BitVec 12) (imm5 : BitVec 5) (len : Nat) (newEp : Option (Word → Word)) : Out :=
  pushRegs (stackMei (BitVec.ofNat 4 len) 12 true) s.reg (list12Regs list12) (s.reg sp) s fun tmp t =>
    let newSp := tmp - zextW (dispLow imm5 2)
    let t1 := t.setReg sp newSp
    let t2 := match newEp with
      | some f => t1.setReg ep (f newSp)
      | none => t1
    .next (t2.advance len)

/-- R505: the loads of DISPOSE, then sp, then what follows. -/
def State.dispose (s : State) (imm5 : BitVec 5) (list12 : BitVec 12) (k : State → Out) : Out :=
  popRegs (stackMei 4 12 false) (fun _ => false) (list12Regs list12).reverse (s.reg sp + zextW (dispLow imm5 2)) s
    fun tmp t => k (t.setReg sp tmp)

/-- R504, form (1) -/
def execPrepareF1 (list12 : BitVec 12) (imm5 : BitVec 5) (s : State) : Out := s.prepare list12 imm5 4 none
/-- R504, form (2), ff = 00: ep takes the new sp. -/
def execPrepareF2a (list12 : BitVec 12) (imm5 : BitVec 5) (s : State) : Out := s.prepare list12 imm5 4 (some id)
/-- R504, form (2), ff = 01 -/
def execPrepareF2b (list12 : BitVec 12) (imm5 : BitVec 5) (imm16 : BitVec 16) (s : State) : Out :=
  s.prepare list12 imm5 6 (some fun _ => sextW imm16)
/-- R504, form (2), ff = 10 -/
def execPrepareF2c (list12 : BitVec 12) (imm5 : BitVec 5) (imm16 : BitVec 16) (s : State) : Out :=
  s.prepare list12 imm5 6 (some fun _ => dispLow imm16 16)
/-- R504, form (2), ff = 11 -/
def execPrepareF2d (list12 : BitVec 12) (imm5 : BitVec 5) (imm32 : BitVec 32) (s : State) : Out :=
  s.prepare list12 imm5 8 (some fun _ => imm32)
/-- R505, form (1) -/
def execDisposeF1 (list12 : BitVec 12) (imm5 : BitVec 5) (s : State) : Out :=
  s.dispose imm5 list12 fun t => .next (t.advance 4)
/-- R505, form (2): reg1 is read after the loads. The order of sp and reg1 matters for reg1 = sp only: sp is written first, as the
operation lines stand. -/
def execDisposeF2 (list12 : BitVec 12) (imm5 : BitVec 5) (reg1 : Reg) (s : State) : Out :=
  s.dispose imm5 list12 fun t => .next (t.jump (t.reg reg1))

/-- R506: sp is written once, after the last store. -/
def execPushsp (reg1 reg3 : Reg) (s : State) : Out :=
  pushRegs (stackMei 4 13 true) s.reg (regRange reg1 reg3) (s.reg sp) s fun tmp t => .next ((t.setReg sp tmp).advance 4)

/-- R822: POPSP reports register 0 for r3. -/
def popspMei (r : Reg) : Word := stackMei 4 13 false (if r = sp then 0 else r)

/-- R507: the word of r3 is read and checked, not loaded. -/
def execPopsp (reg1 reg3 : Reg) (s : State) : Out :=
  popRegs popspMei (· == sp) (regRange reg1 reg3).reverse (s.reg sp) s fun tmp t => .next ((t.setReg sp tmp).advance 4)

/-! ## Atomic access -/

/-- R508: the write always happens, and x[reg3] takes the old memory word. -/
def execCaxi (reg1 reg2 reg3 : Reg) (s : State) : Out :=
  let adr := s.reg reg1
  s.access ⟨adr, 4, [.read, .write], true, false, meiWord 4 reg3 2 false 8 false⟩ <|
    let token := s.readWord adr
    let r := subF (s.reg reg2) token false
    let s1 := s.writeWord adr (if r.1 = 0 then s.reg reg3 else token)
    .next (((s1.setReg reg3 token).setFlags r.2).advance 4)

/-- R509 -/
def execCll (s : State) : Out := .next (s.dropLink.advance 4)

/-- R510 to R512: a load that creates the link (R518 (a)). -/
def State.loadLinked (s : State) (z : Size) (reg1 reg3 : Reg) : Out :=
  let adr := s.reg reg1
  let u := z != .word
  s.access (loadAccess adr z 4 reg3 u 7) <|
    .next ({ s.setReg reg3 (s.loadValue adr z u) with link := ⟨true, adr, z.bytes⟩ }.advance 4)

/-- R518 (b): LinkMatches. -/
def State.linkMatches (s : State) (adr : Word) (n : Nat) : Bool := s.link.bit && s.link.size == n && s.link.adr == adr

/-- R513 to R515: a store that needs the link and ends it; without the link the access is checked and not performed. R204 does not say
whether a store that fails for want of the link accesses its address: that it raises SYSERR at a reserved address, as an access does, is a
DESIGN CHOICE (notes/assumptions/54.md). -/
def State.storeConditional (s : State) (z : Size) (reg1 reg3 : Reg) : Out :=
  let x := storeAccess (s.reg reg1) z 4 reg3 7
  if s.linkMatches x.adr z.bytes then
    s.access x (.next ((((s.storeValue x.adr z (s.reg reg3)).setReg reg3 1).dropLink).advance 4))
  else s.checked x s.um (.next (((s.setReg reg3 0).dropLink).advance 4))

/-- R510 -/
def execLdlBu (reg1 reg3 : Reg) (s : State) : Out := s.loadLinked .byte reg1 reg3
/-- R511 -/
def execLdlHu (reg1 reg3 : Reg) (s : State) : Out := s.loadLinked .half reg1 reg3
/-- R512 -/
def execLdlW (reg1 reg3 : Reg) (s : State) : Out := s.loadLinked .word reg1 reg3
/-- R513 -/
def execStcB (reg1 reg3 : Reg) (s : State) : Out := s.storeConditional .byte reg1 reg3
/-- R514 -/
def execStcH (reg1 reg3 : Reg) (s : State) : Out := s.storeConditional .half reg1 reg3
/-- R515 -/
def execStcW (reg1 reg3 : Reg) (s : State) : Out := s.storeConditional .word reg1 reg3

/-! ## NOP and RIE -/

/-- R516 -/
def execNop (s : State) : Out := .next (s.advance 2)
/-- R517, form (1) -/
def execRieF1 (s : State) : Out := s.raiseRie
/-- R517, form (2): the immediates have no effect. -/
def execRieF2 (_imm5 : BitVec 5) (_imm4 : BitVec 4) (s : State) : Out := s.raiseRie

end Sys2Proof.Machine
end

