-- ==== Sys2Proof/Machine/System.lean ====
section
/-!
DEFINITION. System control: interrupt enable, return from an exception, software exceptions, standby, system-register access, block
transfer of MPU entries and guest registers, register bank, synchronisation (44_system.md).
-/

namespace Sys2Proof.Machine

/-! ## Interrupt enable, exception return -/

/-- R530, R531: PSW.ID written, with the privilege that MCTL.UIC asks for. -/
def State.writeId (s : State) (b : Bool) : Out :=
  if !s.sys.mctl.getLsbD 0 && s.um then s.raisePie else .next ((s.setPsw (putBit s.psw 5 b)).advance 4)

/-- R530 -/
def execDi (s : State) : Out := s.writeId true
/-- R531 -/
def execEi (s : State) : Out := s.writeId false
/-- R532 -/
def execEiret (s : State) : Out := s.supervisor (.next (s.returnException .ei))
/-- R533 -/
def execFeret (s : State) : Out := s.supervisor (.next (s.returnException .fe))

/-! ## Software exceptions -/

/-- R534 -/
def execFetrap (vector4 : BitVec 4) (s : State) : Out :=
  s.raisePending .fe (0x30 + zextW vector4) 0x30 (s.pc + 2) s.mode

/-- R535 -/
def execTrap (vector5 : BitVec 5) (s : State) : Out :=
  s.raisePending .ei (0x40 + zextW vector5) (if vector5.toNat ≤ 0xF then 0x40 else 0x50) (s.pc + 4) s.mode

/-- R536: the table entry of a system call; a vector above SCCFG.SIZE is handled as 0. -/
def State.syscallEntry (s : State) (vector8 : BitVec 8) : Word :=
  let idx := if vector8.toNat ≤ (s.sys.sccfg.extractLsb' 0 8).toNat then vector8 else 0
  s.sys.scbp + zextW (dispLow idx 2)

/-- R536: the table is read with supervisor privilege; the entry is that of any EI level exception, but for pc. -/
def execSyscall (vector8 : BitVec 8) (s : State) : Out :=
  let adr := s.syscallEntry vector8
  s.checked ⟨adr, 4, [.read], false, false, meiWord 4 0 2 false 18 false⟩ false <| s.noteDevice adr 4 [.read] <|
    let t := s.takeException .ei (0x8000 + zextW vector8) 0 (s.pc + 4) s.mode true
    .next ((t.jump (s.sys.scbp + s.readWord adr)).emit (.pending s.mode))

/-- R537: the entry is handled in host mode from either mode. -/
def execHvtrap (vector5 : BitVec 5) (s : State) : Out :=
  if !s.hve then s.raiseRie
  else s.supervisor (s.raisePending .ei (0xF000 + zextW vector5) 0x20 (s.pc + 4) .host)

/-! ## Standby -/

/-- R538 -/
def execHalt (s : State) : Out := s.supervisor (.next { s.advance 4 with halt := .halted })
/-- R539 -/
def execSnooze (s : State) : Out := .next { s.advance 4 with halt := .snoozing s.prod.snoozePeriod }

/-! ## System registers -/

/-- R540; a write to an undefined register changes nothing (R71). -/
def execLdsr (regID selID : BitVec 5) (reg2 : Reg) (s : State) : Out :=
  match s.srAccess regID selID true with
  | .reg r => .next ((s.ldsrWrite r (s.reg reg2)).advance 4)
  | .undefined => .next (s.advance 4)
  | .pie => s.raisePie
  | .ucpop n => s.raiseUcpop (BitVec.ofNat 32 n)

/-- R541; an undefined register reads as a free value (R71). -/
def execStsr (regID selID : BitVec 5) (reg2 : Reg) (s : State) : Out :=
  match s.srAccess regID selID false with
  | .reg r => .next ((s.setReg reg2 (s.readSr r)).advance 4)
  | .undefined => .next (((s.setReg reg2 (Config.freeWord s.free)).skipFree 1).advance 4)
  | .pie => s.raisePie
  | .ucpop n => s.raiseUcpop (BitVec.ofNat 32 n)

/-! ## Block transfers -/

/-- One word of a block transfer: its address is word-aligned, its access checked on the state reached (R542 to R545). -/
def blockWord (adr : Word) (itype : BitVec 5) (writes : Bool) : Access :=
  ⟨adr &&& 0xFFFFFFFC, 4, [if writes then .write else .read], false, false, meiWord 4 0 2 false itype writes⟩

/-- Words loaded from ascending addresses, each put where `put` says; then what follows. Loads made before a denied one are kept. -/
def loadBlock {α : Type} (itype : BitVec 5) (put : State → α → Word → State) : List α → Word → State → (State → Out) → Out
  | [], _, s, k => k s
  | x :: xs, adr, s, k =>
    let a := blockWord adr itype false
    s.access a (loadBlock itype put xs (adr + 4) (put s x (s.readWord a.adr)) k)

/-- Words stored at ascending addresses, each taken from where `get` says; then what follows. Stores made before a denied one are
kept. -/
def storeBlock {α : Type} (itype : BitVec 5) (get : State → α → Word) : List α → Word → State → (State → Out) → Out
  | [], _, s, k => k s
  | x :: xs, adr, s, k =>
    let a := blockWord adr itype true
    s.access a (storeBlock itype get xs (adr + 4) (s.writeWord a.adr (get s x)) k)

/-- R542, R543: the registers of the entries `eh` to `et`, in transfer order. -/
def entryRegs (eh et : BitVec 5) : List (Nat × EntryReg) :=
  ((List.range 32).filter fun e => decide (eh.toNat ≤ e) && decide (e ≤ et.toNat)).flatMap
    fun e => [(e, .mpla), (e, .mpua), (e, .mpat)]

/-- R542, R543: LDM.MP and STM.MP exist on a PID 07H core only, and are SV-privileged. -/
def State.mpTransfer (s : State) (k : Out) : Out := if s.isMh2 then s.supervisor k else s.raiseRie

/-- R542; a word for an entry the mode may not change is read and discarded. -/
def execLdmMp (eh et : BitVec 5) (reg1 : Reg) (s : State) : Out :=
  s.mpTransfer (loadBlock 15 (fun t p v => t.writeEntry p.1 p.2 v) (entryRegs eh et) (s.reg reg1) s
    fun t => .next (t.advance 4))

/-- R543 -/
def execStmMp (eh et : BitVec 5) (reg1 : Reg) (s : State) : Out :=
  s.mpTransfer (storeBlock 15 (fun t p => (t.mpu.entry p.1).get p.2) (entryRegs eh et) (s.reg reg1) s
    fun t => .next (t.advance 4))

/-- R900: the registers that LDM.GSR and STM.GSR transfer, in order. -/
def gsrRegs : List SReg :=
  [.fpsr, .fpepc, .ctpc, .ctpsw, .ctbp, .mctl, .sccfg, .scbp, .rbcr0, .rbcr1, .rbnr, .rbip, .mca, .mcs, .mcr, .mci, .mpidx,
    .gm .eipc, .gm .eipsw, .gm .fepc, .gm .fepsw, .gm .psw, .gm .mea, .gm .mei, .gm .eiic, .gm .feic, .gm .spid, .gm .spidlist,
    .gm .ebase, .gm .intbp, .gm .intcfg, .gm .plmr, .gm .svlock, .gm .mpm, .gm .eiwr, .gm .fewr]

/-- R544 -/
def execLdmGsr (reg1 : Reg) (s : State) : Out :=
  s.hypervisor (loadBlock 14 State.writeSr gsrRegs (s.reg reg1) s fun t => .next (t.advance 4))

/-- R545 -/
def execStmGsr (reg1 : Reg) (s : State) : Out :=
  s.hypervisor (storeBlock 14 State.readSr gsrRegs (s.reg reg1) s fun t => .next (t.advance 4))

/-! ## Register bank -/

/-- R546, R905: what RESBANK loads, from the lowest address upward: the general registers, then FPSR, EIIC, EIPSW, EIPC. -/
inductive BankItem where
  | gpr (r : Reg)
  | sr (r : SReg)
deriving DecidableEq, Repr

/-- R546: the registers in load order. -/
def State.bankItems (s : State) : List BankItem :=
  s.bankRegs.reverse.map .gpr ++ [.sr .fpsr, .sr (.orig .eiic), .sr (.orig .eipsw), .sr (.orig .eipc)]

/-- R546: one register of a bank loaded. R806: sp is loaded last, so that it keeps its old value where a word is denied. -/
def putBankItem (s : State) (i : BankItem) (v : Word) : State :=
  match i with
  | .gpr r => if r = sp then s else s.setReg r v
  | .sr r => s.writeSr r v

/-- R546: the address of the first word of the bank in use; the lowest word of a mode-1 bank is skipped. -/
def State.bankStart (s : State) : Word :=
  s.sys.rbip - BitVec.ofNat 32 s.bankNumber * s.bankSize + (if s.bankMode1 then 4 else 0)

/-- R546: the word of the bank in use that is for sp. -/
def State.bankSp (s : State) : Word :=
  s.readWord (blockWord (s.bankStart + BitVec.ofNat 32 (4 * s.bankItems.idxOf (.gpr sp))) 22 false).adr

/-- R546. It restores from a bank whatever PID bit 18 is: DESIGN CHOICE (notes/assumptions/56.md). -/
def execResbank (s : State) : Out :=
  s.supervisor <|
    if s.bankNumber = 0 then s.raiseSyserr 0x1D
    else
      loadBlock 22 putBankItem s.bankItems s.bankStart s fun t =>
        let t0 := t.setReg sp s.bankSp
        let t1 := { t0 with sys := { t0.sys with rbnr := BitVec.ofNat 32 (s.bankNumber - 1) } }
        .next ((t1.setPsw (putBit t1.psw 5 true)).advance 4)

/-! ## Synchronisation -/

/-- R547 -/
def execSynce (s : State) : Out := .next (s.advance 2)
/-- R548 -/
def execSynci (s : State) : Out := .next (s.advance 2)
/-- R549 -/
def execSyncm (s : State) : Out := .next (s.advance 2)
/-- R550 -/
def execSyncp (s : State) : Out := .next (s.advance 2)

end Sys2Proof.Machine
end

