-- ==== Sys2Proof/Machine/Dispatch.lean ====
section
/-!
DEFINITION. The dispatch: one arm for each constructor of `Instr`, each a direct call of the instruction's meaning.
-/

namespace Sys2Proof.Machine

/-- What an instruction does in a state. -/
def exec (i : Instr) (s : State) : Host.Outcome State Fault Refusal :=
  match i with
  | .addF1 reg1 reg2 => Sys2Proof.Machine.execAddF1 reg1 reg2 s
  | .addF2 imm5 reg2 => Sys2Proof.Machine.execAddF2 imm5 reg2 s
  | .addi imm16 reg1 reg2 => Sys2Proof.Machine.execAddi imm16 reg1 reg2 s
  | .cmpF1 reg1 reg2 => Sys2Proof.Machine.execCmpF1 reg1 reg2 s
  | .cmpF2 imm5 reg2 => Sys2Proof.Machine.execCmpF2 imm5 reg2 s
  | .movF1 reg1 reg2 => Sys2Proof.Machine.execMovF1 reg1 reg2 s
  | .movF2 imm5 reg2 => Sys2Proof.Machine.execMovF2 imm5 reg2 s
  | .movF3 imm32 reg1 => Sys2Proof.Machine.execMovF3 imm32 reg1 s
  | .movea imm16 reg1 reg2 => Sys2Proof.Machine.execMovea imm16 reg1 reg2 s
  | .movhi imm16 reg1 reg2 => Sys2Proof.Machine.execMovhi imm16 reg1 reg2 s
  | .sub reg1 reg2 => Sys2Proof.Machine.execSub reg1 reg2 s
  | .subr reg1 reg2 => Sys2Proof.Machine.execSubr reg1 reg2 s
  | .adf cccc reg1 reg2 reg3 => Sys2Proof.Machine.execAdf cccc reg1 reg2 reg3 s
  | .sbf cccc reg1 reg2 reg3 => Sys2Proof.Machine.execSbf cccc reg1 reg2 reg3 s
  | .div reg1 reg2 reg3 => Sys2Proof.Machine.execDiv reg1 reg2 reg3 s
  | .divhF1 reg1 reg2 => Sys2Proof.Machine.execDivhF1 reg1 reg2 s
  | .divhF2 reg1 reg2 reg3 => Sys2Proof.Machine.execDivhF2 reg1 reg2 reg3 s
  | .divhu reg1 reg2 reg3 => Sys2Proof.Machine.execDivhu reg1 reg2 reg3 s
  | .divq reg1 reg2 reg3 => Sys2Proof.Machine.execDivq reg1 reg2 reg3 s
  | .divqu reg1 reg2 reg3 => Sys2Proof.Machine.execDivqu reg1 reg2 reg3 s
  | .divu reg1 reg2 reg3 => Sys2Proof.Machine.execDivu reg1 reg2 reg3 s
  | .sataddF1 reg1 reg2 => Sys2Proof.Machine.execSataddF1 reg1 reg2 s
  | .sataddF2 imm5 reg2 => Sys2Proof.Machine.execSataddF2 imm5 reg2 s
  | .sataddF3 reg1 reg2 reg3 => Sys2Proof.Machine.execSataddF3 reg1 reg2 reg3 s
  | .satsubF1 reg1 reg2 => Sys2Proof.Machine.execSatsubF1 reg1 reg2 s
  | .satsubF2 reg1 reg2 reg3 => Sys2Proof.Machine.execSatsubF2 reg1 reg2 reg3 s
  | .satsubi imm16 reg1 reg2 => Sys2Proof.Machine.execSatsubi imm16 reg1 reg2 s
  | .satsubr reg1 reg2 => Sys2Proof.Machine.execSatsubr reg1 reg2 s
  | .mulF1 reg1 reg2 reg3 => Sys2Proof.Machine.execMulF1 reg1 reg2 reg3 s
  | .mulF2 imm9 reg2 reg3 => Sys2Proof.Machine.execMulF2 imm9 reg2 reg3 s
  | .mulhF1 reg1 reg2 => Sys2Proof.Machine.execMulhF1 reg1 reg2 s
  | .mulhF2 imm5 reg2 => Sys2Proof.Machine.execMulhF2 imm5 reg2 s
  | .mulhi imm16 reg1 reg2 => Sys2Proof.Machine.execMulhi imm16 reg1 reg2 s
  | .muluF1 reg1 reg2 reg3 => Sys2Proof.Machine.execMuluF1 reg1 reg2 reg3 s
  | .muluF2 imm9 reg2 reg3 => Sys2Proof.Machine.execMuluF2 imm9 reg2 reg3 s
  | .mac reg1 reg2 reg3 reg4 => Sys2Proof.Machine.execMac reg1 reg2 reg3 reg4 s
  | .macu reg1 reg2 reg3 reg4 => Sys2Proof.Machine.execMacu reg1 reg2 reg3 reg4 s
  | .and reg1 reg2 => Sys2Proof.Machine.execAnd reg1 reg2 s
  | .andi imm16 reg1 reg2 => Sys2Proof.Machine.execAndi imm16 reg1 reg2 s
  | .not reg1 reg2 => Sys2Proof.Machine.execNot reg1 reg2 s
  | .or reg1 reg2 => Sys2Proof.Machine.execOr reg1 reg2 s
  | .ori imm16 reg1 reg2 => Sys2Proof.Machine.execOri imm16 reg1 reg2 s
  | .tst reg1 reg2 => Sys2Proof.Machine.execTst reg1 reg2 s
  | .xor reg1 reg2 => Sys2Proof.Machine.execXor reg1 reg2 s
  | .xori imm16 reg1 reg2 => Sys2Proof.Machine.execXori imm16 reg1 reg2 s
  | .bcondF1 cccc disp9 => Sys2Proof.Machine.execBcondF1 cccc disp9 s
  | .bcondF2 cccc disp17 => Sys2Proof.Machine.execBcondF2 cccc disp17 s
  | .jarlF1 disp22 reg2 => Sys2Proof.Machine.execJarlF1 disp22 reg2 s
  | .jarlF2 disp32 reg1 => Sys2Proof.Machine.execJarlF2 disp32 reg1 s
  | .jarlF3 reg1 reg3 => Sys2Proof.Machine.execJarlF3 reg1 reg3 s
  | .jmpF1 reg1 => Sys2Proof.Machine.execJmpF1 reg1 s
  | .jmpF2 disp32 reg1 => Sys2Proof.Machine.execJmpF2 disp32 reg1 s
  | .jrF1 disp22 => Sys2Proof.Machine.execJrF1 disp22 s
  | .jrF2 disp32 => Sys2Proof.Machine.execJrF2 disp32 s
  | .loop disp16 reg1 => Sys2Proof.Machine.execLoop disp16 reg1 s
  | .binsF1 msb lsb reg1 reg2 => Sys2Proof.Machine.execBinsF1 msb lsb reg1 reg2 s
  | .binsF2 msb lsb reg1 reg2 => Sys2Proof.Machine.execBinsF2 msb lsb reg1 reg2 s
  | .binsF3 msb lsb reg1 reg2 => Sys2Proof.Machine.execBinsF3 msb lsb reg1 reg2 s
  | .bsh reg2 reg3 => Sys2Proof.Machine.execBsh reg2 reg3 s
  | .bsw reg2 reg3 => Sys2Proof.Machine.execBsw reg2 reg3 s
  | .clipB reg1 reg2 => Sys2Proof.Machine.execClipB reg1 reg2 s
  | .clipBu reg1 reg2 => Sys2Proof.Machine.execClipBu reg1 reg2 s
  | .clipH reg1 reg2 => Sys2Proof.Machine.execClipH reg1 reg2 s
  | .clipHu reg1 reg2 => Sys2Proof.Machine.execClipHu reg1 reg2 s
  | .cmovF1 cccc reg1 reg2 reg3 => Sys2Proof.Machine.execCmovF1 cccc reg1 reg2 reg3 s
  | .cmovF2 cccc imm5 reg2 reg3 => Sys2Proof.Machine.execCmovF2 cccc imm5 reg2 reg3 s
  | .hsh reg2 reg3 => Sys2Proof.Machine.execHsh reg2 reg3 s
  | .hsw reg2 reg3 => Sys2Proof.Machine.execHsw reg2 reg3 s
  | .rotlF1 imm5 reg2 reg3 => Sys2Proof.Machine.execRotlF1 imm5 reg2 reg3 s
  | .rotlF2 reg1 reg2 reg3 => Sys2Proof.Machine.execRotlF2 reg1 reg2 reg3 s
  | .sarF1 reg1 reg2 => Sys2Proof.Machine.execSarF1 reg1 reg2 s
  | .sarF2 imm5 reg2 => Sys2Proof.Machine.execSarF2 imm5 reg2 s
  | .sarF3 reg1 reg2 reg3 => Sys2Proof.Machine.execSarF3 reg1 reg2 reg3 s
  | .sasf cccc reg2 => Sys2Proof.Machine.execSasf cccc reg2 s
  | .setf cccc reg2 => Sys2Proof.Machine.execSetf cccc reg2 s
  | .shlF1 reg1 reg2 => Sys2Proof.Machine.execShlF1 reg1 reg2 s
  | .shlF2 imm5 reg2 => Sys2Proof.Machine.execShlF2 imm5 reg2 s
  | .shlF3 reg1 reg2 reg3 => Sys2Proof.Machine.execShlF3 reg1 reg2 reg3 s
  | .shrF1 reg1 reg2 => Sys2Proof.Machine.execShrF1 reg1 reg2 s
  | .shrF2 imm5 reg2 => Sys2Proof.Machine.execShrF2 imm5 reg2 s
  | .shrF3 reg1 reg2 reg3 => Sys2Proof.Machine.execShrF3 reg1 reg2 reg3 s
  | .sxb reg1 => Sys2Proof.Machine.execSxb reg1 s
  | .sxh reg1 => Sys2Proof.Machine.execSxh reg1 s
  | .zxb reg1 => Sys2Proof.Machine.execZxb reg1 s
  | .zxh reg1 => Sys2Proof.Machine.execZxh reg1 s
  | .sch0l reg2 reg3 => Sys2Proof.Machine.execSch0l reg2 reg3 s
  | .sch0r reg2 reg3 => Sys2Proof.Machine.execSch0r reg2 reg3 s
  | .sch1l reg2 reg3 => Sys2Proof.Machine.execSch1l reg2 reg3 s
  | .sch1r reg2 reg3 => Sys2Proof.Machine.execSch1r reg2 reg3 s
  | .clr1F1 bit3 disp16 reg1 => Sys2Proof.Machine.execClr1F1 bit3 disp16 reg1 s
  | .clr1F2 reg1 reg2 => Sys2Proof.Machine.execClr1F2 reg1 reg2 s
  | .not1F1 bit3 disp16 reg1 => Sys2Proof.Machine.execNot1F1 bit3 disp16 reg1 s
  | .not1F2 reg1 reg2 => Sys2Proof.Machine.execNot1F2 reg1 reg2 s
  | .set1F1 bit3 disp16 reg1 => Sys2Proof.Machine.execSet1F1 bit3 disp16 reg1 s
  | .set1F2 reg1 reg2 => Sys2Proof.Machine.execSet1F2 reg1 reg2 s
  | .tst1F1 bit3 disp16 reg1 => Sys2Proof.Machine.execTst1F1 bit3 disp16 reg1 s
  | .tst1F2 reg1 reg2 => Sys2Proof.Machine.execTst1F2 reg1 reg2 s
  | .ldBF1 disp16 reg1 reg2 => Sys2Proof.Machine.execLdBF1 disp16 reg1 reg2 s
  | .ldBF2 disp23 reg1 reg3 => Sys2Proof.Machine.execLdBF2 disp23 reg1 reg3 s
  | .ldBF3 reg1 reg3 => Sys2Proof.Machine.execLdBF3 reg1 reg3 s
  | .ldBF4 reg1 reg3 => Sys2Proof.Machine.execLdBF4 reg1 reg3 s
  | .ldBuF1 disp16 reg1 reg2 => Sys2Proof.Machine.execLdBuF1 disp16 reg1 reg2 s
  | .ldBuF2 disp23 reg1 reg3 => Sys2Proof.Machine.execLdBuF2 disp23 reg1 reg3 s
  | .ldBuF3 reg1 reg3 => Sys2Proof.Machine.execLdBuF3 reg1 reg3 s
  | .ldBuF4 reg1 reg3 => Sys2Proof.Machine.execLdBuF4 reg1 reg3 s
  | .ldDw disp23 reg1 reg3 => Sys2Proof.Machine.execLdDw disp23 reg1 reg3 s
  | .ldHF1 disp16 reg1 reg2 => Sys2Proof.Machine.execLdHF1 disp16 reg1 reg2 s
  | .ldHF2 disp23 reg1 reg3 => Sys2Proof.Machine.execLdHF2 disp23 reg1 reg3 s
  | .ldHF3 reg1 reg3 => Sys2Proof.Machine.execLdHF3 reg1 reg3 s
  | .ldHF4 reg1 reg3 => Sys2Proof.Machine.execLdHF4 reg1 reg3 s
  | .ldHuF1 disp16 reg1 reg2 => Sys2Proof.Machine.execLdHuF1 disp16 reg1 reg2 s
  | .ldHuF2 disp23 reg1 reg3 => Sys2Proof.Machine.execLdHuF2 disp23 reg1 reg3 s
  | .ldHuF3 reg1 reg3 => Sys2Proof.Machine.execLdHuF3 reg1 reg3 s
  | .ldHuF4 reg1 reg3 => Sys2Proof.Machine.execLdHuF4 reg1 reg3 s
  | .ldWF1 disp16 reg1 reg2 => Sys2Proof.Machine.execLdWF1 disp16 reg1 reg2 s
  | .ldWF2 disp23 reg1 reg3 => Sys2Proof.Machine.execLdWF2 disp23 reg1 reg3 s
  | .ldWF3 reg1 reg3 => Sys2Proof.Machine.execLdWF3 reg1 reg3 s
  | .ldWF4 reg1 reg3 => Sys2Proof.Machine.execLdWF4 reg1 reg3 s
  | .sldB disp7 reg2 => Sys2Proof.Machine.execSldB disp7 reg2 s
  | .sldBu disp4 reg2 => Sys2Proof.Machine.execSldBu disp4 reg2 s
  | .sldH disp8 reg2 => Sys2Proof.Machine.execSldH disp8 reg2 s
  | .sldHu disp5 reg2 => Sys2Proof.Machine.execSldHu disp5 reg2 s
  | .sldW disp8 reg2 => Sys2Proof.Machine.execSldW disp8 reg2 s
  | .stBF1 disp16 reg1 reg2 => Sys2Proof.Machine.execStBF1 disp16 reg1 reg2 s
  | .stBF2 disp23 reg1 reg3 => Sys2Proof.Machine.execStBF2 disp23 reg1 reg3 s
  | .stBF3 reg1 reg3 => Sys2Proof.Machine.execStBF3 reg1 reg3 s
  | .stBF4 reg1 reg3 => Sys2Proof.Machine.execStBF4 reg1 reg3 s
  | .stDw disp23 reg1 reg3 => Sys2Proof.Machine.execStDw disp23 reg1 reg3 s
  | .stHF1 disp16 reg1 reg2 => Sys2Proof.Machine.execStHF1 disp16 reg1 reg2 s
  | .stHF2 disp23 reg1 reg3 => Sys2Proof.Machine.execStHF2 disp23 reg1 reg3 s
  | .stHF3 reg1 reg3 => Sys2Proof.Machine.execStHF3 reg1 reg3 s
  | .stHF4 reg1 reg3 => Sys2Proof.Machine.execStHF4 reg1 reg3 s
  | .stWF1 disp16 reg1 reg2 => Sys2Proof.Machine.execStWF1 disp16 reg1 reg2 s
  | .stWF2 disp23 reg1 reg3 => Sys2Proof.Machine.execStWF2 disp23 reg1 reg3 s
  | .stWF3 reg1 reg3 => Sys2Proof.Machine.execStWF3 reg1 reg3 s
  | .stWF4 reg1 reg3 => Sys2Proof.Machine.execStWF4 reg1 reg3 s
  | .sstB disp7 reg2 => Sys2Proof.Machine.execSstB disp7 reg2 s
  | .sstH disp8 reg2 => Sys2Proof.Machine.execSstH disp8 reg2 s
  | .sstW disp8 reg2 => Sys2Proof.Machine.execSstW disp8 reg2 s
  | .callt imm6 => Sys2Proof.Machine.execCallt imm6 s
  | .ctret => Sys2Proof.Machine.execCtret s
  | .switch reg1 => Sys2Proof.Machine.execSwitch reg1 s
  | .prepareF1 list12 imm5 => Sys2Proof.Machine.execPrepareF1 list12 imm5 s
  | .prepareF2a list12 imm5 => Sys2Proof.Machine.execPrepareF2a list12 imm5 s
  | .prepareF2b list12 imm5 imm16 => Sys2Proof.Machine.execPrepareF2b list12 imm5 imm16 s
  | .prepareF2c list12 imm5 imm16 => Sys2Proof.Machine.execPrepareF2c list12 imm5 imm16 s
  | .prepareF2d list12 imm5 imm32 => Sys2Proof.Machine.execPrepareF2d list12 imm5 imm32 s
  | .disposeF1 list12 imm5 => Sys2Proof.Machine.execDisposeF1 list12 imm5 s
  | .disposeF2 list12 imm5 reg1 => Sys2Proof.Machine.execDisposeF2 list12 imm5 reg1 s
  | .pushsp reg1 reg3 => Sys2Proof.Machine.execPushsp reg1 reg3 s
  | .popsp reg1 reg3 => Sys2Proof.Machine.execPopsp reg1 reg3 s
  | .caxi reg1 reg2 reg3 => Sys2Proof.Machine.execCaxi reg1 reg2 reg3 s
  | .cll => Sys2Proof.Machine.execCll s
  | .ldlBu reg1 reg3 => Sys2Proof.Machine.execLdlBu reg1 reg3 s
  | .ldlHu reg1 reg3 => Sys2Proof.Machine.execLdlHu reg1 reg3 s
  | .ldlW reg1 reg3 => Sys2Proof.Machine.execLdlW reg1 reg3 s
  | .stcB reg1 reg3 => Sys2Proof.Machine.execStcB reg1 reg3 s
  | .stcH reg1 reg3 => Sys2Proof.Machine.execStcH reg1 reg3 s
  | .stcW reg1 reg3 => Sys2Proof.Machine.execStcW reg1 reg3 s
  | .nop => Sys2Proof.Machine.execNop s
  | .rieF1 => Sys2Proof.Machine.execRieF1 s
  | .rieF2 imm5 imm4 => Sys2Proof.Machine.execRieF2 imm5 imm4 s
  | .di => Sys2Proof.Machine.execDi s
  | .ei => Sys2Proof.Machine.execEi s
  | .eiret => Sys2Proof.Machine.execEiret s
  | .feret => Sys2Proof.Machine.execFeret s
  | .fetrap vector4 => Sys2Proof.Machine.execFetrap vector4 s
  | .trap vector5 => Sys2Proof.Machine.execTrap vector5 s
  | .syscall vector8 => Sys2Proof.Machine.execSyscall vector8 s
  | .halt => Sys2Proof.Machine.execHalt s
  | .snooze => Sys2Proof.Machine.execSnooze s
  | .ldsr regID selID reg2 => Sys2Proof.Machine.execLdsr regID selID reg2 s
  | .stsr regID selID reg2 => Sys2Proof.Machine.execStsr regID selID reg2 s
  | .ldmMp eh et reg1 => Sys2Proof.Machine.execLdmMp eh et reg1 s
  | .stmMp eh et reg1 => Sys2Proof.Machine.execStmMp eh et reg1 s
  | .resbank => Sys2Proof.Machine.execResbank s
  | .synce => Sys2Proof.Machine.execSynce s
  | .synci => Sys2Proof.Machine.execSynci s
  | .syncm => Sys2Proof.Machine.execSyncm s
  | .syncp => Sys2Proof.Machine.execSyncp s
  | .cache cacheop reg1 => Sys2Proof.Machine.execCache cacheop reg1 s
  | .pref prefop reg1 => Sys2Proof.Machine.execPref prefop reg1 s
  | .absfD reg2 reg3 => Sys2Proof.Machine.execAbsfD reg2 reg3 s
  | .absfS reg2 reg3 => Sys2Proof.Machine.execAbsfS reg2 reg3 s
  | .negfD reg2 reg3 => Sys2Proof.Machine.execNegfD reg2 reg3 s
  | .negfS reg2 reg3 => Sys2Proof.Machine.execNegfS reg2 reg3 s
  | .addfD reg1 reg2 reg3 => Sys2Proof.Machine.execAddfD reg1 reg2 reg3 s
  | .addfS reg1 reg2 reg3 => Sys2Proof.Machine.execAddfS reg1 reg2 reg3 s
  | .subfD reg1 reg2 reg3 => Sys2Proof.Machine.execSubfD reg1 reg2 reg3 s
  | .subfS reg1 reg2 reg3 => Sys2Proof.Machine.execSubfS reg1 reg2 reg3 s
  | .mulfD reg1 reg2 reg3 => Sys2Proof.Machine.execMulfD reg1 reg2 reg3 s
  | .mulfS reg1 reg2 reg3 => Sys2Proof.Machine.execMulfS reg1 reg2 reg3 s
  | .divfD reg1 reg2 reg3 => Sys2Proof.Machine.execDivfD reg1 reg2 reg3 s
  | .divfS reg1 reg2 reg3 => Sys2Proof.Machine.execDivfS reg1 reg2 reg3 s
  | .maxfD reg1 reg2 reg3 => Sys2Proof.Machine.execMaxfD reg1 reg2 reg3 s
  | .maxfS reg1 reg2 reg3 => Sys2Proof.Machine.execMaxfS reg1 reg2 reg3 s
  | .minfD reg1 reg2 reg3 => Sys2Proof.Machine.execMinfD reg1 reg2 reg3 s
  | .minfS reg1 reg2 reg3 => Sys2Proof.Machine.execMinfS reg1 reg2 reg3 s
  | .sqrtfD reg2 reg3 => Sys2Proof.Machine.execSqrtfD reg2 reg3 s
  | .sqrtfS reg2 reg3 => Sys2Proof.Machine.execSqrtfS reg2 reg3 s
  | .recipfD reg2 reg3 => Sys2Proof.Machine.execRecipfD reg2 reg3 s
  | .recipfS reg2 reg3 => Sys2Proof.Machine.execRecipfS reg2 reg3 s
  | .rsqrtfD reg2 reg3 => Sys2Proof.Machine.execRsqrtfD reg2 reg3 s
  | .rsqrtfS reg2 reg3 => Sys2Proof.Machine.execRsqrtfS reg2 reg3 s
  | .fmafS reg1 reg2 reg3 => Sys2Proof.Machine.execFmafS reg1 reg2 reg3 s
  | .fmsfS reg1 reg2 reg3 => Sys2Proof.Machine.execFmsfS reg1 reg2 reg3 s
  | .fnmafS reg1 reg2 reg3 => Sys2Proof.Machine.execFnmafS reg1 reg2 reg3 s
  | .fnmsfS reg1 reg2 reg3 => Sys2Proof.Machine.execFnmsfS reg1 reg2 reg3 s
  | .cmpfD fcond fff reg1 reg2 => Sys2Proof.Machine.execCmpfD fcond fff reg1 reg2 s
  | .cmpfS fcond fff reg1 reg2 => Sys2Proof.Machine.execCmpfS fcond fff reg1 reg2 s
  | .cmovfD fff reg1 reg2 reg3 => Sys2Proof.Machine.execCmovfD fff reg1 reg2 reg3 s
  | .cmovfS fff reg1 reg2 reg3 => Sys2Proof.Machine.execCmovfS fff reg1 reg2 reg3 s
  | .trfsr fff => Sys2Proof.Machine.execTrfsr fff s
  | .ceilfDl reg2 reg3 => Sys2Proof.Machine.execCeilfDl reg2 reg3 s
  | .ceilfDul reg2 reg3 => Sys2Proof.Machine.execCeilfDul reg2 reg3 s
  | .ceilfDuw reg2 reg3 => Sys2Proof.Machine.execCeilfDuw reg2 reg3 s
  | .ceilfDw reg2 reg3 => Sys2Proof.Machine.execCeilfDw reg2 reg3 s
  | .ceilfSl reg2 reg3 => Sys2Proof.Machine.execCeilfSl reg2 reg3 s
  | .ceilfSul reg2 reg3 => Sys2Proof.Machine.execCeilfSul reg2 reg3 s
  | .ceilfSuw reg2 reg3 => Sys2Proof.Machine.execCeilfSuw reg2 reg3 s
  | .ceilfSw reg2 reg3 => Sys2Proof.Machine.execCeilfSw reg2 reg3 s
  | .floorfDl reg2 reg3 => Sys2Proof.Machine.execFloorfDl reg2 reg3 s
  | .floorfDul reg2 reg3 => Sys2Proof.Machine.execFloorfDul reg2 reg3 s
  | .floorfDuw reg2 reg3 => Sys2Proof.Machine.execFloorfDuw reg2 reg3 s
  | .floorfDw reg2 reg3 => Sys2Proof.Machine.execFloorfDw reg2 reg3 s
  | .floorfSl reg2 reg3 => Sys2Proof.Machine.execFloorfSl reg2 reg3 s
  | .floorfSul reg2 reg3 => Sys2Proof.Machine.execFloorfSul reg2 reg3 s
  | .floorfSuw reg2 reg3 => Sys2Proof.Machine.execFloorfSuw reg2 reg3 s
  | .floorfSw reg2 reg3 => Sys2Proof.Machine.execFloorfSw reg2 reg3 s
  | .roundfDl reg2 reg3 => Sys2Proof.Machine.execRoundfDl reg2 reg3 s
  | .roundfDul reg2 reg3 => Sys2Proof.Machine.execRoundfDul reg2 reg3 s
  | .roundfDuw reg2 reg3 => Sys2Proof.Machine.execRoundfDuw reg2 reg3 s
  | .roundfDw reg2 reg3 => Sys2Proof.Machine.execRoundfDw reg2 reg3 s
  | .roundfSl reg2 reg3 => Sys2Proof.Machine.execRoundfSl reg2 reg3 s
  | .roundfSul reg2 reg3 => Sys2Proof.Machine.execRoundfSul reg2 reg3 s
  | .roundfSuw reg2 reg3 => Sys2Proof.Machine.execRoundfSuw reg2 reg3 s
  | .roundfSw reg2 reg3 => Sys2Proof.Machine.execRoundfSw reg2 reg3 s
  | .trncfDl reg2 reg3 => Sys2Proof.Machine.execTrncfDl reg2 reg3 s
  | .trncfDul reg2 reg3 => Sys2Proof.Machine.execTrncfDul reg2 reg3 s
  | .trncfDuw reg2 reg3 => Sys2Proof.Machine.execTrncfDuw reg2 reg3 s
  | .trncfDw reg2 reg3 => Sys2Proof.Machine.execTrncfDw reg2 reg3 s
  | .trncfSl reg2 reg3 => Sys2Proof.Machine.execTrncfSl reg2 reg3 s
  | .trncfSul reg2 reg3 => Sys2Proof.Machine.execTrncfSul reg2 reg3 s
  | .trncfSuw reg2 reg3 => Sys2Proof.Machine.execTrncfSuw reg2 reg3 s
  | .trncfSw reg2 reg3 => Sys2Proof.Machine.execTrncfSw reg2 reg3 s
  | .cvtfDl reg2 reg3 => Sys2Proof.Machine.execCvtfDl reg2 reg3 s
  | .cvtfDul reg2 reg3 => Sys2Proof.Machine.execCvtfDul reg2 reg3 s
  | .cvtfDuw reg2 reg3 => Sys2Proof.Machine.execCvtfDuw reg2 reg3 s
  | .cvtfDw reg2 reg3 => Sys2Proof.Machine.execCvtfDw reg2 reg3 s
  | .cvtfSl reg2 reg3 => Sys2Proof.Machine.execCvtfSl reg2 reg3 s
  | .cvtfSul reg2 reg3 => Sys2Proof.Machine.execCvtfSul reg2 reg3 s
  | .cvtfSuw reg2 reg3 => Sys2Proof.Machine.execCvtfSuw reg2 reg3 s
  | .cvtfSw reg2 reg3 => Sys2Proof.Machine.execCvtfSw reg2 reg3 s
  | .cvtfDs reg2 reg3 => Sys2Proof.Machine.execCvtfDs reg2 reg3 s
  | .cvtfHs reg2 reg3 => Sys2Proof.Machine.execCvtfHs reg2 reg3 s
  | .cvtfLd reg2 reg3 => Sys2Proof.Machine.execCvtfLd reg2 reg3 s
  | .cvtfLs reg2 reg3 => Sys2Proof.Machine.execCvtfLs reg2 reg3 s
  | .cvtfSd reg2 reg3 => Sys2Proof.Machine.execCvtfSd reg2 reg3 s
  | .cvtfSh reg2 reg3 => Sys2Proof.Machine.execCvtfSh reg2 reg3 s
  | .cvtfUld reg2 reg3 => Sys2Proof.Machine.execCvtfUld reg2 reg3 s
  | .cvtfUls reg2 reg3 => Sys2Proof.Machine.execCvtfUls reg2 reg3 s
  | .cvtfUwd reg2 reg3 => Sys2Proof.Machine.execCvtfUwd reg2 reg3 s
  | .cvtfUws reg2 reg3 => Sys2Proof.Machine.execCvtfUws reg2 reg3 s
  | .cvtfWd reg2 reg3 => Sys2Proof.Machine.execCvtfWd reg2 reg3 s
  | .cvtfWs reg2 reg3 => Sys2Proof.Machine.execCvtfWs reg2 reg3 s
  | .movvW4 wreg2 wreg3 => Sys2Proof.Machine.execMovvW4 wreg2 wreg3 s
  | .flpvS4 imm2 wreg2 wreg3 => Sys2Proof.Machine.execFlpvS4 imm2 wreg2 wreg3 s
  | .shflvW4 imm12 wreg1 wreg2 wreg3 => Sys2Proof.Machine.execShflvW4 imm12 wreg1 wreg2 wreg3 s
  | .ldvW imm4 disp16 reg1 wreg3 => Sys2Proof.Machine.execLdvW imm4 disp16 reg1 wreg3 s
  | .ldvDw imm2 disp16 reg1 wreg3 => Sys2Proof.Machine.execLdvDw imm2 disp16 reg1 wreg3 s
  | .ldvQw disp16 reg1 wreg3 => Sys2Proof.Machine.execLdvQw disp16 reg1 wreg3 s
  | .ldvzH4 disp16 reg1 wreg3 => Sys2Proof.Machine.execLdvzH4 disp16 reg1 wreg3 s
  | .stvW imm2 disp16 reg1 wreg3 => Sys2Proof.Machine.execStvW imm2 disp16 reg1 wreg3 s
  | .stvDw imm1 disp16 reg1 wreg3 => Sys2Proof.Machine.execStvDw imm1 disp16 reg1 wreg3 s
  | .stvQw disp16 reg1 wreg3 => Sys2Proof.Machine.execStvQw disp16 reg1 wreg3 s
  | .stvzH4 disp16 reg1 wreg3 => Sys2Proof.Machine.execStvzH4 disp16 reg1 wreg3 s
  | .cmovfW4 wreg1 wreg2 wreg3 wreg4 => Sys2Proof.Machine.execCmovfW4 wreg1 wreg2 wreg3 wreg4 s
  | .trfsrvW4 imm3 wreg2 => Sys2Proof.Machine.execTrfsrvW4 imm3 wreg2 s
  | .cmpfS4 fcond wreg1 wreg2 wreg3 => Sys2Proof.Machine.execCmpfS4 fcond wreg1 wreg2 wreg3 s
  | .absfS4 wreg2 wreg3 => Sys2Proof.Machine.execAbsfS4 wreg2 wreg3 s
  | .negfS4 wreg2 wreg3 => Sys2Proof.Machine.execNegfS4 wreg2 wreg3 s
  | .addfS4 wreg1 wreg2 wreg3 => Sys2Proof.Machine.execAddfS4 wreg1 wreg2 wreg3 s
  | .subfS4 wreg1 wreg2 wreg3 => Sys2Proof.Machine.execSubfS4 wreg1 wreg2 wreg3 s
  | .mulfS4 wreg1 wreg2 wreg3 => Sys2Proof.Machine.execMulfS4 wreg1 wreg2 wreg3 s
  | .divfS4 wreg1 wreg2 wreg3 => Sys2Proof.Machine.execDivfS4 wreg1 wreg2 wreg3 s
  | .maxfS4 wreg1 wreg2 wreg3 => Sys2Proof.Machine.execMaxfS4 wreg1 wreg2 wreg3 s
  | .minfS4 wreg1 wreg2 wreg3 => Sys2Proof.Machine.execMinfS4 wreg1 wreg2 wreg3 s
  | .sqrtfS4 wreg2 wreg3 => Sys2Proof.Machine.execSqrtfS4 wreg2 wreg3 s
  | .recipfS4 wreg2 wreg3 => Sys2Proof.Machine.execRecipfS4 wreg2 wreg3 s
  | .rsqrtfS4 wreg2 wreg3 => Sys2Proof.Machine.execRsqrtfS4 wreg2 wreg3 s
  | .fmafS4 wreg1 wreg2 wreg3 => Sys2Proof.Machine.execFmafS4 wreg1 wreg2 wreg3 s
  | .fmsfS4 wreg1 wreg2 wreg3 => Sys2Proof.Machine.execFmsfS4 wreg1 wreg2 wreg3 s
  | .fnmafS4 wreg1 wreg2 wreg3 => Sys2Proof.Machine.execFnmafS4 wreg1 wreg2 wreg3 s
  | .fnmsfS4 wreg1 wreg2 wreg3 => Sys2Proof.Machine.execFnmsfS4 wreg1 wreg2 wreg3 s
  | .roundfSw4 wreg2 wreg3 => Sys2Proof.Machine.execRoundfSw4 wreg2 wreg3 s
  | .roundfSuw4 wreg2 wreg3 => Sys2Proof.Machine.execRoundfSuw4 wreg2 wreg3 s
  | .trncfSw4 wreg2 wreg3 => Sys2Proof.Machine.execTrncfSw4 wreg2 wreg3 s
  | .trncfSuw4 wreg2 wreg3 => Sys2Proof.Machine.execTrncfSuw4 wreg2 wreg3 s
  | .ceilfSw4 wreg2 wreg3 => Sys2Proof.Machine.execCeilfSw4 wreg2 wreg3 s
  | .ceilfSuw4 wreg2 wreg3 => Sys2Proof.Machine.execCeilfSuw4 wreg2 wreg3 s
  | .floorfSw4 wreg2 wreg3 => Sys2Proof.Machine.execFloorfSw4 wreg2 wreg3 s
  | .floorfSuw4 wreg2 wreg3 => Sys2Proof.Machine.execFloorfSuw4 wreg2 wreg3 s
  | .cvtfSw4 wreg2 wreg3 => Sys2Proof.Machine.execCvtfSw4 wreg2 wreg3 s
  | .cvtfSuw4 wreg2 wreg3 => Sys2Proof.Machine.execCvtfSuw4 wreg2 wreg3 s
  | .cvtfWs4 wreg2 wreg3 => Sys2Proof.Machine.execCvtfWs4 wreg2 wreg3 s
  | .cvtfUws4 wreg2 wreg3 => Sys2Proof.Machine.execCvtfUws4 wreg2 wreg3 s
  | .cvtfHs4 wreg2 wreg3 => Sys2Proof.Machine.execCvtfHs4 wreg2 wreg3 s
  | .cvtfSh4 wreg2 wreg3 => Sys2Proof.Machine.execCvtfSh4 wreg2 wreg3 s
  | .addsubfS4 wreg1 wreg2 wreg3 => Sys2Proof.Machine.execAddsubfS4 wreg1 wreg2 wreg3 s
  | .subaddfS4 wreg1 wreg2 wreg3 => Sys2Proof.Machine.execSubaddfS4 wreg1 wreg2 wreg3 s
  | .addsubnfS4 wreg1 wreg2 wreg3 => Sys2Proof.Machine.execAddsubnfS4 wreg1 wreg2 wreg3 s
  | .subaddnfS4 wreg1 wreg2 wreg3 => Sys2Proof.Machine.execSubaddnfS4 wreg1 wreg2 wreg3 s
  | .addxfS4 wreg1 wreg2 wreg3 => Sys2Proof.Machine.execAddxfS4 wreg1 wreg2 wreg3 s
  | .subxfS4 wreg1 wreg2 wreg3 => Sys2Proof.Machine.execSubxfS4 wreg1 wreg2 wreg3 s
  | .mulxfS4 wreg1 wreg2 wreg3 => Sys2Proof.Machine.execMulxfS4 wreg1 wreg2 wreg3 s
  | .addsubxfS4 wreg1 wreg2 wreg3 => Sys2Proof.Machine.execAddsubxfS4 wreg1 wreg2 wreg3 s
  | .subaddxfS4 wreg1 wreg2 wreg3 => Sys2Proof.Machine.execSubaddxfS4 wreg1 wreg2 wreg3 s
  | .addsubnxfS4 wreg1 wreg2 wreg3 => Sys2Proof.Machine.execAddsubnxfS4 wreg1 wreg2 wreg3 s
  | .subaddnxfS4 wreg1 wreg2 wreg3 => Sys2Proof.Machine.execSubaddnxfS4 wreg1 wreg2 wreg3 s
  | .addrfS4 wreg1 wreg2 wreg3 => Sys2Proof.Machine.execAddrfS4 wreg1 wreg2 wreg3 s
  | .subrfS4 wreg1 wreg2 wreg3 => Sys2Proof.Machine.execSubrfS4 wreg1 wreg2 wreg3 s
  | .mulrfS4 wreg1 wreg2 wreg3 => Sys2Proof.Machine.execMulrfS4 wreg1 wreg2 wreg3 s
  | .maxrfS4 wreg1 wreg2 wreg3 => Sys2Proof.Machine.execMaxrfS4 wreg1 wreg2 wreg3 s
  | .minrfS4 wreg1 wreg2 wreg3 => Sys2Proof.Machine.execMinrfS4 wreg1 wreg2 wreg3 s
  | .hvtrap vector5 => Sys2Proof.Machine.execHvtrap vector5 s
  | .ldmGsr reg1 => Sys2Proof.Machine.execLdmGsr reg1 s
  | .stmGsr reg1 => Sys2Proof.Machine.execStmGsr reg1 s

end Sys2Proof.Machine
end

