-- ==== Sys2Proof/Machine/Step.lean ====
section
/-!
DEFINITION. One step of the machine (60_exceptions.md R806). It only joins the operations of Count, Interrupt and Fetch.
-/

namespace Sys2Proof.Machine

noncomputable section

/-- R806: a step of a running core: an interrupt is accepted, or an instruction is fetched and run. -/
def State.runStep (s : State) : Host.Outcome State Fault Refusal :=
  match s.pick with
  | some a => mapNext (s.finish false) (s.accept a)
  | none => mapNext (s.finish true) (s.fetchRun Sys2Proof.Machine.exec)

/-- R806: one step. -/
def step (s : State) : Host.Outcome State Fault Refusal :=
  let s0 := s.begin
  if s0.env.reset then .next s0.afterReset
  else
    match s0.wake with
    | none => .next (s0.finish false s0.pause)
    | some s1 => s1.runStep

/-- The state with an instruction stored where `step` fetches its next instruction: the bits above `nbits` are zero, up to the 8 bytes
of the longest instruction; each halfword little-endian, the first at pc (R209). -/
def State.withFetchWord (s : State) (nbits w : Nat) : State := s.writeDWord s.pc (BitVec.ofNat 64 (w % 2 ^ nbits))

end

end Sys2Proof.Machine
end

