-- ==== Sys2Proof/Laws/State.lean ====
section
/-!
SUPPORT. What each update of the state leaves alone: one lemma for each field and update, then for the accessors.
-/

namespace Sys2Proof.Machine

variable (s : State)


/-! ### setReg -/

@[simp] theorem State.setReg_pc (r : Reg) (v : Word) : (s.setReg r v).pc = s.pc := by unfold State.setReg; split <;> rfl
@[simp] theorem State.setReg_wr (r : Reg) (v : Word) : (s.setReg r v).wr = s.wr := by unfold State.setReg; split <;> rfl
@[simp] theorem State.setReg_host (r : Reg) (v : Word) : (s.setReg r v).host = s.host := by unfold State.setReg; split <;> rfl
@[simp] theorem State.setReg_guest (r : Reg) (v : Word) : (s.setReg r v).guest = s.guest := by unfold State.setReg; split <;> rfl
@[simp] theorem State.setReg_sys (r : Reg) (v : Word) : (s.setReg r v).sys = s.sys := by unfold State.setReg; split <;> rfl
@[simp] theorem State.setReg_mpu (r : Reg) (v : Word) : (s.setReg r v).mpu = s.mpu := by unfold State.setReg; split <;> rfl
@[simp] theorem State.setReg_cnt (r : Reg) (v : Word) : (s.setReg r v).cnt = s.cnt := by unfold State.setReg; split <;> rfl
@[simp] theorem State.setReg_link (r : Reg) (v : Word) : (s.setReg r v).link = s.link := by unfold State.setReg; split <;> rfl
@[simp] theorem State.setReg_halt (r : Reg) (v : Word) : (s.setReg r v).halt = s.halt := by unfold State.setReg; split <;> rfl
@[simp] theorem State.setReg_lastPc (r : Reg) (v : Word) : (s.setReg r v).lastPc = s.lastPc := by unfold State.setReg; split <;> rfl
@[simp] theorem State.setReg_mem (r : Reg) (v : Word) : (s.setReg r v).mem = s.mem := by unfold State.setReg; split <;> rfl
@[simp] theorem State.setReg_env (r : Reg) (v : Word) : (s.setReg r v).env = s.env := by unfold State.setReg; split <;> rfl
@[simp] theorem State.setReg_inputs (r : Reg) (v : Word) : (s.setReg r v).inputs = s.inputs := by unfold State.setReg; split <;> rfl
@[simp] theorem State.setReg_out (r : Reg) (v : Word) : (s.setReg r v).out = s.out := by unfold State.setReg; split <;> rfl
@[simp] theorem State.setReg_free (r : Reg) (v : Word) : (s.setReg r v).free = s.free := by unfold State.setReg; split <;> rfl
@[simp] theorem State.setReg_prod (r : Reg) (v : Word) : (s.setReg r v).prod = s.prod := by unfold State.setReg; split <;> rfl

/-! ### setRegPair -/

@[simp] theorem State.setRegPair_pc (p : RegPair) (v : DWord) : (s.setRegPair p v).pc = s.pc := by simp [State.setRegPair]
@[simp] theorem State.setRegPair_wr (p : RegPair) (v : DWord) : (s.setRegPair p v).wr = s.wr := by simp [State.setRegPair]
@[simp] theorem State.setRegPair_host (p : RegPair) (v : DWord) : (s.setRegPair p v).host = s.host := by simp [State.setRegPair]
@[simp] theorem State.setRegPair_guest (p : RegPair) (v : DWord) : (s.setRegPair p v).guest = s.guest := by simp [State.setRegPair]
@[simp] theorem State.setRegPair_sys (p : RegPair) (v : DWord) : (s.setRegPair p v).sys = s.sys := by simp [State.setRegPair]
@[simp] theorem State.setRegPair_mpu (p : RegPair) (v : DWord) : (s.setRegPair p v).mpu = s.mpu := by simp [State.setRegPair]
@[simp] theorem State.setRegPair_cnt (p : RegPair) (v : DWord) : (s.setRegPair p v).cnt = s.cnt := by simp [State.setRegPair]
@[simp] theorem State.setRegPair_link (p : RegPair) (v : DWord) : (s.setRegPair p v).link = s.link := by simp [State.setRegPair]
@[simp] theorem State.setRegPair_halt (p : RegPair) (v : DWord) : (s.setRegPair p v).halt = s.halt := by simp [State.setRegPair]
@[simp] theorem State.setRegPair_lastPc (p : RegPair) (v : DWord) : (s.setRegPair p v).lastPc = s.lastPc := by simp [State.setRegPair]
@[simp] theorem State.setRegPair_mem (p : RegPair) (v : DWord) : (s.setRegPair p v).mem = s.mem := by simp [State.setRegPair]
@[simp] theorem State.setRegPair_env (p : RegPair) (v : DWord) : (s.setRegPair p v).env = s.env := by simp [State.setRegPair]
@[simp] theorem State.setRegPair_inputs (p : RegPair) (v : DWord) : (s.setRegPair p v).inputs = s.inputs := by simp [State.setRegPair]
@[simp] theorem State.setRegPair_out (p : RegPair) (v : DWord) : (s.setRegPair p v).out = s.out := by simp [State.setRegPair]
@[simp] theorem State.setRegPair_free (p : RegPair) (v : DWord) : (s.setRegPair p v).free = s.free := by simp [State.setRegPair]
@[simp] theorem State.setRegPair_prod (p : RegPair) (v : DWord) : (s.setRegPair p v).prod = s.prod := by simp [State.setRegPair]

/-! ### setVreg -/

@[simp] theorem State.setVreg_gpr (r : VReg) (v : QWord) : (s.setVreg r v).gpr = s.gpr := rfl
@[simp] theorem State.setVreg_pc (r : VReg) (v : QWord) : (s.setVreg r v).pc = s.pc := rfl
@[simp] theorem State.setVreg_host (r : VReg) (v : QWord) : (s.setVreg r v).host = s.host := rfl
@[simp] theorem State.setVreg_guest (r : VReg) (v : QWord) : (s.setVreg r v).guest = s.guest := rfl
@[simp] theorem State.setVreg_sys (r : VReg) (v : QWord) : (s.setVreg r v).sys = s.sys := rfl
@[simp] theorem State.setVreg_mpu (r : VReg) (v : QWord) : (s.setVreg r v).mpu = s.mpu := rfl
@[simp] theorem State.setVreg_cnt (r : VReg) (v : QWord) : (s.setVreg r v).cnt = s.cnt := rfl
@[simp] theorem State.setVreg_link (r : VReg) (v : QWord) : (s.setVreg r v).link = s.link := rfl
@[simp] theorem State.setVreg_halt (r : VReg) (v : QWord) : (s.setVreg r v).halt = s.halt := rfl
@[simp] theorem State.setVreg_lastPc (r : VReg) (v : QWord) : (s.setVreg r v).lastPc = s.lastPc := rfl
@[simp] theorem State.setVreg_mem (r : VReg) (v : QWord) : (s.setVreg r v).mem = s.mem := rfl
@[simp] theorem State.setVreg_env (r : VReg) (v : QWord) : (s.setVreg r v).env = s.env := rfl
@[simp] theorem State.setVreg_inputs (r : VReg) (v : QWord) : (s.setVreg r v).inputs = s.inputs := rfl
@[simp] theorem State.setVreg_out (r : VReg) (v : QWord) : (s.setVreg r v).out = s.out := rfl
@[simp] theorem State.setVreg_free (r : VReg) (v : QWord) : (s.setVreg r v).free = s.free := rfl
@[simp] theorem State.setVreg_prod (r : VReg) (v : QWord) : (s.setVreg r v).prod = s.prod := rfl

/-! ### advance -/

@[simp] theorem State.advance_gpr (n : Nat) : (s.advance n).gpr = s.gpr := rfl
@[simp] theorem State.advance_wr (n : Nat) : (s.advance n).wr = s.wr := rfl
@[simp] theorem State.advance_host (n : Nat) : (s.advance n).host = s.host := rfl
@[simp] theorem State.advance_guest (n : Nat) : (s.advance n).guest = s.guest := rfl
@[simp] theorem State.advance_sys (n : Nat) : (s.advance n).sys = s.sys := rfl
@[simp] theorem State.advance_mpu (n : Nat) : (s.advance n).mpu = s.mpu := rfl
@[simp] theorem State.advance_cnt (n : Nat) : (s.advance n).cnt = s.cnt := rfl
@[simp] theorem State.advance_link (n : Nat) : (s.advance n).link = s.link := rfl
@[simp] theorem State.advance_halt (n : Nat) : (s.advance n).halt = s.halt := rfl
@[simp] theorem State.advance_lastPc (n : Nat) : (s.advance n).lastPc = s.lastPc := rfl
@[simp] theorem State.advance_mem (n : Nat) : (s.advance n).mem = s.mem := rfl
@[simp] theorem State.advance_env (n : Nat) : (s.advance n).env = s.env := rfl
@[simp] theorem State.advance_inputs (n : Nat) : (s.advance n).inputs = s.inputs := rfl
@[simp] theorem State.advance_out (n : Nat) : (s.advance n).out = s.out := rfl
@[simp] theorem State.advance_free (n : Nat) : (s.advance n).free = s.free := rfl
@[simp] theorem State.advance_prod (n : Nat) : (s.advance n).prod = s.prod := rfl
@[simp] theorem State.advance_pc (n : Nat) : (s.advance n).pc = evenPc (s.pc + BitVec.ofNat 32 n) := rfl

/-! ### jump -/

@[simp] theorem State.jump_gpr (a : Word) : (s.jump a).gpr = s.gpr := rfl
@[simp] theorem State.jump_wr (a : Word) : (s.jump a).wr = s.wr := rfl
@[simp] theorem State.jump_host (a : Word) : (s.jump a).host = s.host := rfl
@[simp] theorem State.jump_guest (a : Word) : (s.jump a).guest = s.guest := rfl
@[simp] theorem State.jump_sys (a : Word) : (s.jump a).sys = s.sys := rfl
@[simp] theorem State.jump_mpu (a : Word) : (s.jump a).mpu = s.mpu := rfl
@[simp] theorem State.jump_cnt (a : Word) : (s.jump a).cnt = s.cnt := rfl
@[simp] theorem State.jump_link (a : Word) : (s.jump a).link = s.link := rfl
@[simp] theorem State.jump_halt (a : Word) : (s.jump a).halt = s.halt := rfl
@[simp] theorem State.jump_lastPc (a : Word) : (s.jump a).lastPc = s.lastPc := rfl
@[simp] theorem State.jump_mem (a : Word) : (s.jump a).mem = s.mem := rfl
@[simp] theorem State.jump_env (a : Word) : (s.jump a).env = s.env := rfl
@[simp] theorem State.jump_inputs (a : Word) : (s.jump a).inputs = s.inputs := rfl
@[simp] theorem State.jump_out (a : Word) : (s.jump a).out = s.out := rfl
@[simp] theorem State.jump_free (a : Word) : (s.jump a).free = s.free := rfl
@[simp] theorem State.jump_prod (a : Word) : (s.jump a).prod = s.prod := rfl
@[simp] theorem State.jump_pc (a : Word) : (s.jump a).pc = evenPc a := rfl

/-! ### setCtx -/

@[simp] theorem State.setCtx_gpr (m : Mode) (c : Ctx) : (s.setCtx m c).gpr = s.gpr := by cases m <;> rfl
@[simp] theorem State.setCtx_pc (m : Mode) (c : Ctx) : (s.setCtx m c).pc = s.pc := by cases m <;> rfl
@[simp] theorem State.setCtx_wr (m : Mode) (c : Ctx) : (s.setCtx m c).wr = s.wr := by cases m <;> rfl
@[simp] theorem State.setCtx_sys (m : Mode) (c : Ctx) : (s.setCtx m c).sys = s.sys := by cases m <;> rfl
@[simp] theorem State.setCtx_mpu (m : Mode) (c : Ctx) : (s.setCtx m c).mpu = s.mpu := by cases m <;> rfl
@[simp] theorem State.setCtx_cnt (m : Mode) (c : Ctx) : (s.setCtx m c).cnt = s.cnt := by cases m <;> rfl
@[simp] theorem State.setCtx_link (m : Mode) (c : Ctx) : (s.setCtx m c).link = s.link := by cases m <;> rfl
@[simp] theorem State.setCtx_halt (m : Mode) (c : Ctx) : (s.setCtx m c).halt = s.halt := by cases m <;> rfl
@[simp] theorem State.setCtx_lastPc (m : Mode) (c : Ctx) : (s.setCtx m c).lastPc = s.lastPc := by cases m <;> rfl
@[simp] theorem State.setCtx_mem (m : Mode) (c : Ctx) : (s.setCtx m c).mem = s.mem := by cases m <;> rfl
@[simp] theorem State.setCtx_env (m : Mode) (c : Ctx) : (s.setCtx m c).env = s.env := by cases m <;> rfl
@[simp] theorem State.setCtx_inputs (m : Mode) (c : Ctx) : (s.setCtx m c).inputs = s.inputs := by cases m <;> rfl
@[simp] theorem State.setCtx_out (m : Mode) (c : Ctx) : (s.setCtx m c).out = s.out := by cases m <;> rfl
@[simp] theorem State.setCtx_free (m : Mode) (c : Ctx) : (s.setCtx m c).free = s.free := by cases m <;> rfl
@[simp] theorem State.setCtx_prod (m : Mode) (c : Ctx) : (s.setCtx m c).prod = s.prod := by cases m <;> rfl

/-! ### setPsw -/

@[simp] theorem State.setPsw_gpr (w : Word) : (s.setPsw w).gpr = s.gpr := State.setCtx_gpr ..
@[simp] theorem State.setPsw_pc (w : Word) : (s.setPsw w).pc = s.pc := State.setCtx_pc ..
@[simp] theorem State.setPsw_wr (w : Word) : (s.setPsw w).wr = s.wr := State.setCtx_wr ..
@[simp] theorem State.setPsw_sys (w : Word) : (s.setPsw w).sys = s.sys := State.setCtx_sys ..
@[simp] theorem State.setPsw_mpu (w : Word) : (s.setPsw w).mpu = s.mpu := State.setCtx_mpu ..
@[simp] theorem State.setPsw_cnt (w : Word) : (s.setPsw w).cnt = s.cnt := State.setCtx_cnt ..
@[simp] theorem State.setPsw_link (w : Word) : (s.setPsw w).link = s.link := State.setCtx_link ..
@[simp] theorem State.setPsw_halt (w : Word) : (s.setPsw w).halt = s.halt := State.setCtx_halt ..
@[simp] theorem State.setPsw_lastPc (w : Word) : (s.setPsw w).lastPc = s.lastPc := State.setCtx_lastPc ..
@[simp] theorem State.setPsw_mem (w : Word) : (s.setPsw w).mem = s.mem := State.setCtx_mem ..
@[simp] theorem State.setPsw_env (w : Word) : (s.setPsw w).env = s.env := State.setCtx_env ..
@[simp] theorem State.setPsw_inputs (w : Word) : (s.setPsw w).inputs = s.inputs := State.setCtx_inputs ..
@[simp] theorem State.setPsw_out (w : Word) : (s.setPsw w).out = s.out := State.setCtx_out ..
@[simp] theorem State.setPsw_free (w : Word) : (s.setPsw w).free = s.free := State.setCtx_free ..
@[simp] theorem State.setPsw_prod (w : Word) : (s.setPsw w).prod = s.prod := State.setCtx_prod ..

/-! ### setFlags -/

@[simp] theorem State.setFlags_gpr (f : Flags) : (s.setFlags f).gpr = s.gpr := State.setPsw_gpr ..
@[simp] theorem State.setFlags_pc (f : Flags) : (s.setFlags f).pc = s.pc := State.setPsw_pc ..
@[simp] theorem State.setFlags_wr (f : Flags) : (s.setFlags f).wr = s.wr := State.setPsw_wr ..
@[simp] theorem State.setFlags_sys (f : Flags) : (s.setFlags f).sys = s.sys := State.setPsw_sys ..
@[simp] theorem State.setFlags_mpu (f : Flags) : (s.setFlags f).mpu = s.mpu := State.setPsw_mpu ..
@[simp] theorem State.setFlags_cnt (f : Flags) : (s.setFlags f).cnt = s.cnt := State.setPsw_cnt ..
@[simp] theorem State.setFlags_link (f : Flags) : (s.setFlags f).link = s.link := State.setPsw_link ..
@[simp] theorem State.setFlags_halt (f : Flags) : (s.setFlags f).halt = s.halt := State.setPsw_halt ..
@[simp] theorem State.setFlags_lastPc (f : Flags) : (s.setFlags f).lastPc = s.lastPc := State.setPsw_lastPc ..
@[simp] theorem State.setFlags_mem (f : Flags) : (s.setFlags f).mem = s.mem := State.setPsw_mem ..
@[simp] theorem State.setFlags_env (f : Flags) : (s.setFlags f).env = s.env := State.setPsw_env ..
@[simp] theorem State.setFlags_inputs (f : Flags) : (s.setFlags f).inputs = s.inputs := State.setPsw_inputs ..
@[simp] theorem State.setFlags_out (f : Flags) : (s.setFlags f).out = s.out := State.setPsw_out ..
@[simp] theorem State.setFlags_free (f : Flags) : (s.setFlags f).free = s.free := State.setPsw_free ..
@[simp] theorem State.setFlags_prod (f : Flags) : (s.setFlags f).prod = s.prod := State.setPsw_prod ..

/-! ### setFlagsNoCy -/

@[simp] theorem State.setFlagsNoCy_gpr (f : Flags) : (s.setFlagsNoCy f).gpr = s.gpr := State.setPsw_gpr ..
@[simp] theorem State.setFlagsNoCy_pc (f : Flags) : (s.setFlagsNoCy f).pc = s.pc := State.setPsw_pc ..
@[simp] theorem State.setFlagsNoCy_wr (f : Flags) : (s.setFlagsNoCy f).wr = s.wr := State.setPsw_wr ..
@[simp] theorem State.setFlagsNoCy_sys (f : Flags) : (s.setFlagsNoCy f).sys = s.sys := State.setPsw_sys ..
@[simp] theorem State.setFlagsNoCy_mpu (f : Flags) : (s.setFlagsNoCy f).mpu = s.mpu := State.setPsw_mpu ..
@[simp] theorem State.setFlagsNoCy_cnt (f : Flags) : (s.setFlagsNoCy f).cnt = s.cnt := State.setPsw_cnt ..
@[simp] theorem State.setFlagsNoCy_link (f : Flags) : (s.setFlagsNoCy f).link = s.link := State.setPsw_link ..
@[simp] theorem State.setFlagsNoCy_halt (f : Flags) : (s.setFlagsNoCy f).halt = s.halt := State.setPsw_halt ..
@[simp] theorem State.setFlagsNoCy_lastPc (f : Flags) : (s.setFlagsNoCy f).lastPc = s.lastPc := State.setPsw_lastPc ..
@[simp] theorem State.setFlagsNoCy_mem (f : Flags) : (s.setFlagsNoCy f).mem = s.mem := State.setPsw_mem ..
@[simp] theorem State.setFlagsNoCy_env (f : Flags) : (s.setFlagsNoCy f).env = s.env := State.setPsw_env ..
@[simp] theorem State.setFlagsNoCy_inputs (f : Flags) : (s.setFlagsNoCy f).inputs = s.inputs := State.setPsw_inputs ..
@[simp] theorem State.setFlagsNoCy_out (f : Flags) : (s.setFlagsNoCy f).out = s.out := State.setPsw_out ..
@[simp] theorem State.setFlagsNoCy_free (f : Flags) : (s.setFlagsNoCy f).free = s.free := State.setPsw_free ..
@[simp] theorem State.setFlagsNoCy_prod (f : Flags) : (s.setFlagsNoCy f).prod = s.prod := State.setPsw_prod ..

/-! ### setZ -/

@[simp] theorem State.setZ_gpr (z : Bool) : (s.setZ z).gpr = s.gpr := State.setPsw_gpr ..
@[simp] theorem State.setZ_pc (z : Bool) : (s.setZ z).pc = s.pc := State.setPsw_pc ..
@[simp] theorem State.setZ_wr (z : Bool) : (s.setZ z).wr = s.wr := State.setPsw_wr ..
@[simp] theorem State.setZ_sys (z : Bool) : (s.setZ z).sys = s.sys := State.setPsw_sys ..
@[simp] theorem State.setZ_mpu (z : Bool) : (s.setZ z).mpu = s.mpu := State.setPsw_mpu ..
@[simp] theorem State.setZ_cnt (z : Bool) : (s.setZ z).cnt = s.cnt := State.setPsw_cnt ..
@[simp] theorem State.setZ_link (z : Bool) : (s.setZ z).link = s.link := State.setPsw_link ..
@[simp] theorem State.setZ_halt (z : Bool) : (s.setZ z).halt = s.halt := State.setPsw_halt ..
@[simp] theorem State.setZ_lastPc (z : Bool) : (s.setZ z).lastPc = s.lastPc := State.setPsw_lastPc ..
@[simp] theorem State.setZ_mem (z : Bool) : (s.setZ z).mem = s.mem := State.setPsw_mem ..
@[simp] theorem State.setZ_env (z : Bool) : (s.setZ z).env = s.env := State.setPsw_env ..
@[simp] theorem State.setZ_inputs (z : Bool) : (s.setZ z).inputs = s.inputs := State.setPsw_inputs ..
@[simp] theorem State.setZ_out (z : Bool) : (s.setZ z).out = s.out := State.setPsw_out ..
@[simp] theorem State.setZ_free (z : Bool) : (s.setZ z).free = s.free := State.setPsw_free ..
@[simp] theorem State.setZ_prod (z : Bool) : (s.setZ z).prod = s.prod := State.setPsw_prod ..

/-! ### setSat -/

@[simp] theorem State.setSat_gpr (b : Bool) : (s.setSat b).gpr = s.gpr := State.setPsw_gpr ..
@[simp] theorem State.setSat_pc (b : Bool) : (s.setSat b).pc = s.pc := State.setPsw_pc ..
@[simp] theorem State.setSat_wr (b : Bool) : (s.setSat b).wr = s.wr := State.setPsw_wr ..
@[simp] theorem State.setSat_sys (b : Bool) : (s.setSat b).sys = s.sys := State.setPsw_sys ..
@[simp] theorem State.setSat_mpu (b : Bool) : (s.setSat b).mpu = s.mpu := State.setPsw_mpu ..
@[simp] theorem State.setSat_cnt (b : Bool) : (s.setSat b).cnt = s.cnt := State.setPsw_cnt ..
@[simp] theorem State.setSat_link (b : Bool) : (s.setSat b).link = s.link := State.setPsw_link ..
@[simp] theorem State.setSat_halt (b : Bool) : (s.setSat b).halt = s.halt := State.setPsw_halt ..
@[simp] theorem State.setSat_lastPc (b : Bool) : (s.setSat b).lastPc = s.lastPc := State.setPsw_lastPc ..
@[simp] theorem State.setSat_mem (b : Bool) : (s.setSat b).mem = s.mem := State.setPsw_mem ..
@[simp] theorem State.setSat_env (b : Bool) : (s.setSat b).env = s.env := State.setPsw_env ..
@[simp] theorem State.setSat_inputs (b : Bool) : (s.setSat b).inputs = s.inputs := State.setPsw_inputs ..
@[simp] theorem State.setSat_out (b : Bool) : (s.setSat b).out = s.out := State.setPsw_out ..
@[simp] theorem State.setSat_free (b : Bool) : (s.setSat b).free = s.free := State.setPsw_free ..
@[simp] theorem State.setSat_prod (b : Bool) : (s.setSat b).prod = s.prod := State.setPsw_prod ..

/-! ### writeByte -/

@[simp] theorem State.writeByte_gpr (a : Word) (v : Byte) : (s.writeByte a v).gpr = s.gpr := rfl
@[simp] theorem State.writeByte_pc (a : Word) (v : Byte) : (s.writeByte a v).pc = s.pc := rfl
@[simp] theorem State.writeByte_wr (a : Word) (v : Byte) : (s.writeByte a v).wr = s.wr := rfl
@[simp] theorem State.writeByte_host (a : Word) (v : Byte) : (s.writeByte a v).host = s.host := rfl
@[simp] theorem State.writeByte_guest (a : Word) (v : Byte) : (s.writeByte a v).guest = s.guest := rfl
@[simp] theorem State.writeByte_sys (a : Word) (v : Byte) : (s.writeByte a v).sys = s.sys := rfl
@[simp] theorem State.writeByte_mpu (a : Word) (v : Byte) : (s.writeByte a v).mpu = s.mpu := rfl
@[simp] theorem State.writeByte_cnt (a : Word) (v : Byte) : (s.writeByte a v).cnt = s.cnt := rfl
@[simp] theorem State.writeByte_link (a : Word) (v : Byte) : (s.writeByte a v).link = s.link := rfl
@[simp] theorem State.writeByte_halt (a : Word) (v : Byte) : (s.writeByte a v).halt = s.halt := rfl
@[simp] theorem State.writeByte_lastPc (a : Word) (v : Byte) : (s.writeByte a v).lastPc = s.lastPc := rfl
@[simp] theorem State.writeByte_env (a : Word) (v : Byte) : (s.writeByte a v).env = s.env := rfl
@[simp] theorem State.writeByte_inputs (a : Word) (v : Byte) : (s.writeByte a v).inputs = s.inputs := rfl
@[simp] theorem State.writeByte_out (a : Word) (v : Byte) : (s.writeByte a v).out = s.out := rfl
@[simp] theorem State.writeByte_free (a : Word) (v : Byte) : (s.writeByte a v).free = s.free := rfl
@[simp] theorem State.writeByte_prod (a : Word) (v : Byte) : (s.writeByte a v).prod = s.prod := rfl

/-! ### writeHalf -/

@[simp] theorem State.writeHalf_gpr (a : Word) (v : Half) : (s.writeHalf a v).gpr = s.gpr := by simp [State.writeHalf]
@[simp] theorem State.writeHalf_pc (a : Word) (v : Half) : (s.writeHalf a v).pc = s.pc := by simp [State.writeHalf]
@[simp] theorem State.writeHalf_wr (a : Word) (v : Half) : (s.writeHalf a v).wr = s.wr := by simp [State.writeHalf]
@[simp] theorem State.writeHalf_host (a : Word) (v : Half) : (s.writeHalf a v).host = s.host := by simp [State.writeHalf]
@[simp] theorem State.writeHalf_guest (a : Word) (v : Half) : (s.writeHalf a v).guest = s.guest := by simp [State.writeHalf]
@[simp] theorem State.writeHalf_sys (a : Word) (v : Half) : (s.writeHalf a v).sys = s.sys := by simp [State.writeHalf]
@[simp] theorem State.writeHalf_mpu (a : Word) (v : Half) : (s.writeHalf a v).mpu = s.mpu := by simp [State.writeHalf]
@[simp] theorem State.writeHalf_cnt (a : Word) (v : Half) : (s.writeHalf a v).cnt = s.cnt := by simp [State.writeHalf]
@[simp] theorem State.writeHalf_link (a : Word) (v : Half) : (s.writeHalf a v).link = s.link := by simp [State.writeHalf]
@[simp] theorem State.writeHalf_halt (a : Word) (v : Half) : (s.writeHalf a v).halt = s.halt := by simp [State.writeHalf]
@[simp] theorem State.writeHalf_lastPc (a : Word) (v : Half) : (s.writeHalf a v).lastPc = s.lastPc := by simp [State.writeHalf]
@[simp] theorem State.writeHalf_env (a : Word) (v : Half) : (s.writeHalf a v).env = s.env := by simp [State.writeHalf]
@[simp] theorem State.writeHalf_inputs (a : Word) (v : Half) : (s.writeHalf a v).inputs = s.inputs := by simp [State.writeHalf]
@[simp] theorem State.writeHalf_out (a : Word) (v : Half) : (s.writeHalf a v).out = s.out := by simp [State.writeHalf]
@[simp] theorem State.writeHalf_free (a : Word) (v : Half) : (s.writeHalf a v).free = s.free := by simp [State.writeHalf]
@[simp] theorem State.writeHalf_prod (a : Word) (v : Half) : (s.writeHalf a v).prod = s.prod := by simp [State.writeHalf]

/-! ### writeWord -/

@[simp] theorem State.writeWord_gpr (a : Word) (v : Word) : (s.writeWord a v).gpr = s.gpr := by simp [State.writeWord]
@[simp] theorem State.writeWord_pc (a : Word) (v : Word) : (s.writeWord a v).pc = s.pc := by simp [State.writeWord]
@[simp] theorem State.writeWord_wr (a : Word) (v : Word) : (s.writeWord a v).wr = s.wr := by simp [State.writeWord]
@[simp] theorem State.writeWord_host (a : Word) (v : Word) : (s.writeWord a v).host = s.host := by simp [State.writeWord]
@[simp] theorem State.writeWord_guest (a : Word) (v : Word) : (s.writeWord a v).guest = s.guest := by simp [State.writeWord]
@[simp] theorem State.writeWord_sys (a : Word) (v : Word) : (s.writeWord a v).sys = s.sys := by simp [State.writeWord]
@[simp] theorem State.writeWord_mpu (a : Word) (v : Word) : (s.writeWord a v).mpu = s.mpu := by simp [State.writeWord]
@[simp] theorem State.writeWord_cnt (a : Word) (v : Word) : (s.writeWord a v).cnt = s.cnt := by simp [State.writeWord]
@[simp] theorem State.writeWord_link (a : Word) (v : Word) : (s.writeWord a v).link = s.link := by simp [State.writeWord]
@[simp] theorem State.writeWord_halt (a : Word) (v : Word) : (s.writeWord a v).halt = s.halt := by simp [State.writeWord]
@[simp] theorem State.writeWord_lastPc (a : Word) (v : Word) : (s.writeWord a v).lastPc = s.lastPc := by simp [State.writeWord]
@[simp] theorem State.writeWord_env (a : Word) (v : Word) : (s.writeWord a v).env = s.env := by simp [State.writeWord]
@[simp] theorem State.writeWord_inputs (a : Word) (v : Word) : (s.writeWord a v).inputs = s.inputs := by simp [State.writeWord]
@[simp] theorem State.writeWord_out (a : Word) (v : Word) : (s.writeWord a v).out = s.out := by simp [State.writeWord]
@[simp] theorem State.writeWord_free (a : Word) (v : Word) : (s.writeWord a v).free = s.free := by simp [State.writeWord]
@[simp] theorem State.writeWord_prod (a : Word) (v : Word) : (s.writeWord a v).prod = s.prod := by simp [State.writeWord]

/-! ### writeDWord -/

@[simp] theorem State.writeDWord_gpr (a : Word) (v : DWord) : (s.writeDWord a v).gpr = s.gpr := by simp [State.writeDWord]
@[simp] theorem State.writeDWord_pc (a : Word) (v : DWord) : (s.writeDWord a v).pc = s.pc := by simp [State.writeDWord]
@[simp] theorem State.writeDWord_wr (a : Word) (v : DWord) : (s.writeDWord a v).wr = s.wr := by simp [State.writeDWord]
@[simp] theorem State.writeDWord_host (a : Word) (v : DWord) : (s.writeDWord a v).host = s.host := by simp [State.writeDWord]
@[simp] theorem State.writeDWord_guest (a : Word) (v : DWord) : (s.writeDWord a v).guest = s.guest := by simp [State.writeDWord]
@[simp] theorem State.writeDWord_sys (a : Word) (v : DWord) : (s.writeDWord a v).sys = s.sys := by simp [State.writeDWord]
@[simp] theorem State.writeDWord_mpu (a : Word) (v : DWord) : (s.writeDWord a v).mpu = s.mpu := by simp [State.writeDWord]
@[simp] theorem State.writeDWord_cnt (a : Word) (v : DWord) : (s.writeDWord a v).cnt = s.cnt := by simp [State.writeDWord]
@[simp] theorem State.writeDWord_link (a : Word) (v : DWord) : (s.writeDWord a v).link = s.link := by simp [State.writeDWord]
@[simp] theorem State.writeDWord_halt (a : Word) (v : DWord) : (s.writeDWord a v).halt = s.halt := by simp [State.writeDWord]
@[simp] theorem State.writeDWord_lastPc (a : Word) (v : DWord) : (s.writeDWord a v).lastPc = s.lastPc := by simp [State.writeDWord]
@[simp] theorem State.writeDWord_env (a : Word) (v : DWord) : (s.writeDWord a v).env = s.env := by simp [State.writeDWord]
@[simp] theorem State.writeDWord_inputs (a : Word) (v : DWord) : (s.writeDWord a v).inputs = s.inputs := by simp [State.writeDWord]
@[simp] theorem State.writeDWord_out (a : Word) (v : DWord) : (s.writeDWord a v).out = s.out := by simp [State.writeDWord]
@[simp] theorem State.writeDWord_free (a : Word) (v : DWord) : (s.writeDWord a v).free = s.free := by simp [State.writeDWord]
@[simp] theorem State.writeDWord_prod (a : Word) (v : DWord) : (s.writeDWord a v).prod = s.prod := by simp [State.writeDWord]

/-! ### writeQWord -/

@[simp] theorem State.writeQWord_gpr (a : Word) (v : QWord) : (s.writeQWord a v).gpr = s.gpr := by simp [State.writeQWord]
@[simp] theorem State.writeQWord_pc (a : Word) (v : QWord) : (s.writeQWord a v).pc = s.pc := by simp [State.writeQWord]
@[simp] theorem State.writeQWord_wr (a : Word) (v : QWord) : (s.writeQWord a v).wr = s.wr := by simp [State.writeQWord]
@[simp] theorem State.writeQWord_host (a : Word) (v : QWord) : (s.writeQWord a v).host = s.host := by simp [State.writeQWord]
@[simp] theorem State.writeQWord_guest (a : Word) (v : QWord) : (s.writeQWord a v).guest = s.guest := by simp [State.writeQWord]
@[simp] theorem State.writeQWord_sys (a : Word) (v : QWord) : (s.writeQWord a v).sys = s.sys := by simp [State.writeQWord]
@[simp] theorem State.writeQWord_mpu (a : Word) (v : QWord) : (s.writeQWord a v).mpu = s.mpu := by simp [State.writeQWord]
@[simp] theorem State.writeQWord_cnt (a : Word) (v : QWord) : (s.writeQWord a v).cnt = s.cnt := by simp [State.writeQWord]
@[simp] theorem State.writeQWord_link (a : Word) (v : QWord) : (s.writeQWord a v).link = s.link := by simp [State.writeQWord]
@[simp] theorem State.writeQWord_halt (a : Word) (v : QWord) : (s.writeQWord a v).halt = s.halt := by simp [State.writeQWord]
@[simp] theorem State.writeQWord_lastPc (a : Word) (v : QWord) : (s.writeQWord a v).lastPc = s.lastPc := by simp [State.writeQWord]
@[simp] theorem State.writeQWord_env (a : Word) (v : QWord) : (s.writeQWord a v).env = s.env := by simp [State.writeQWord]
@[simp] theorem State.writeQWord_inputs (a : Word) (v : QWord) : (s.writeQWord a v).inputs = s.inputs := by simp [State.writeQWord]
@[simp] theorem State.writeQWord_out (a : Word) (v : QWord) : (s.writeQWord a v).out = s.out := by simp [State.writeQWord]
@[simp] theorem State.writeQWord_free (a : Word) (v : QWord) : (s.writeQWord a v).free = s.free := by simp [State.writeQWord]
@[simp] theorem State.writeQWord_prod (a : Word) (v : QWord) : (s.writeQWord a v).prod = s.prod := by simp [State.writeQWord]

/-! ### dropLink -/

@[simp] theorem State.dropLink_gpr  : (s.dropLink).gpr = s.gpr := rfl
@[simp] theorem State.dropLink_pc  : (s.dropLink).pc = s.pc := rfl
@[simp] theorem State.dropLink_wr  : (s.dropLink).wr = s.wr := rfl
@[simp] theorem State.dropLink_host  : (s.dropLink).host = s.host := rfl
@[simp] theorem State.dropLink_guest  : (s.dropLink).guest = s.guest := rfl
@[simp] theorem State.dropLink_sys  : (s.dropLink).sys = s.sys := rfl
@[simp] theorem State.dropLink_mpu  : (s.dropLink).mpu = s.mpu := rfl
@[simp] theorem State.dropLink_cnt  : (s.dropLink).cnt = s.cnt := rfl
@[simp] theorem State.dropLink_halt  : (s.dropLink).halt = s.halt := rfl
@[simp] theorem State.dropLink_lastPc  : (s.dropLink).lastPc = s.lastPc := rfl
@[simp] theorem State.dropLink_mem  : (s.dropLink).mem = s.mem := rfl
@[simp] theorem State.dropLink_env  : (s.dropLink).env = s.env := rfl
@[simp] theorem State.dropLink_inputs  : (s.dropLink).inputs = s.inputs := rfl
@[simp] theorem State.dropLink_out  : (s.dropLink).out = s.out := rfl
@[simp] theorem State.dropLink_free  : (s.dropLink).free = s.free := rfl
@[simp] theorem State.dropLink_prod  : (s.dropLink).prod = s.prod := rfl

/-! ### skipFree -/

@[simp] theorem State.skipFree_gpr (n : Nat) : (s.skipFree n).gpr = s.gpr := rfl
@[simp] theorem State.skipFree_pc (n : Nat) : (s.skipFree n).pc = s.pc := rfl
@[simp] theorem State.skipFree_wr (n : Nat) : (s.skipFree n).wr = s.wr := rfl
@[simp] theorem State.skipFree_host (n : Nat) : (s.skipFree n).host = s.host := rfl
@[simp] theorem State.skipFree_guest (n : Nat) : (s.skipFree n).guest = s.guest := rfl
@[simp] theorem State.skipFree_sys (n : Nat) : (s.skipFree n).sys = s.sys := rfl
@[simp] theorem State.skipFree_mpu (n : Nat) : (s.skipFree n).mpu = s.mpu := rfl
@[simp] theorem State.skipFree_cnt (n : Nat) : (s.skipFree n).cnt = s.cnt := rfl
@[simp] theorem State.skipFree_link (n : Nat) : (s.skipFree n).link = s.link := rfl
@[simp] theorem State.skipFree_halt (n : Nat) : (s.skipFree n).halt = s.halt := rfl
@[simp] theorem State.skipFree_lastPc (n : Nat) : (s.skipFree n).lastPc = s.lastPc := rfl
@[simp] theorem State.skipFree_mem (n : Nat) : (s.skipFree n).mem = s.mem := rfl
@[simp] theorem State.skipFree_env (n : Nat) : (s.skipFree n).env = s.env := rfl
@[simp] theorem State.skipFree_inputs (n : Nat) : (s.skipFree n).inputs = s.inputs := rfl
@[simp] theorem State.skipFree_out (n : Nat) : (s.skipFree n).out = s.out := rfl
@[simp] theorem State.skipFree_prod (n : Nat) : (s.skipFree n).prod = s.prod := rfl

/-! ### emit -/

@[simp] theorem State.emit_gpr (e : Event) : (s.emit e).gpr = s.gpr := rfl
@[simp] theorem State.emit_pc (e : Event) : (s.emit e).pc = s.pc := rfl
@[simp] theorem State.emit_wr (e : Event) : (s.emit e).wr = s.wr := rfl
@[simp] theorem State.emit_host (e : Event) : (s.emit e).host = s.host := rfl
@[simp] theorem State.emit_guest (e : Event) : (s.emit e).guest = s.guest := rfl
@[simp] theorem State.emit_sys (e : Event) : (s.emit e).sys = s.sys := rfl
@[simp] theorem State.emit_mpu (e : Event) : (s.emit e).mpu = s.mpu := rfl
@[simp] theorem State.emit_cnt (e : Event) : (s.emit e).cnt = s.cnt := rfl
@[simp] theorem State.emit_link (e : Event) : (s.emit e).link = s.link := rfl
@[simp] theorem State.emit_halt (e : Event) : (s.emit e).halt = s.halt := rfl
@[simp] theorem State.emit_lastPc (e : Event) : (s.emit e).lastPc = s.lastPc := rfl
@[simp] theorem State.emit_mem (e : Event) : (s.emit e).mem = s.mem := rfl
@[simp] theorem State.emit_env (e : Event) : (s.emit e).env = s.env := rfl
@[simp] theorem State.emit_inputs (e : Event) : (s.emit e).inputs = s.inputs := rfl
@[simp] theorem State.emit_free (e : Event) : (s.emit e).free = s.free := rfl
@[simp] theorem State.emit_prod (e : Event) : (s.emit e).prod = s.prod := rfl

/-! ### Contexts and modes -/

@[simp] theorem State.setReg_mode (r : Reg) (v : Word) : (s.setReg r v).mode = s.mode := by simp [State.mode, State.hve]
@[simp] theorem State.setReg_hve (r : Reg) (v : Word) : (s.setReg r v).hve = s.hve := by simp [State.hve]
@[simp] theorem State.setReg_gpid (r : Reg) (v : Word) : (s.setReg r v).gpid = s.gpid := by simp [State.gpid]
@[simp] theorem State.setReg_isMh2 (r : Reg) (v : Word) : (s.setReg r v).isMh2 = s.isMh2 := by simp [State.isMh2]
@[simp] theorem State.setReg_ctx (r : Reg) (v : Word) (k : Mode) : (s.setReg r v).ctx k = s.ctx k := by cases k <;> simp [State.ctx]
@[simp] theorem State.setReg_cur (r : Reg) (v : Word) : (s.setReg r v).cur = s.cur := by simp [State.cur]
@[simp] theorem State.setReg_psw (r : Reg) (v : Word) : (s.setReg r v).psw = s.psw := by simp [State.psw]
@[simp] theorem State.setReg_um (r : Reg) (v : Word) : (s.setReg r v).um = s.um := by simp [State.um]
@[simp] theorem State.setReg_vreg (r : Reg) (v : Word) (k : VReg) : (s.setReg r v).vreg k = s.vreg k := by simp [State.vreg]
@[simp] theorem State.setReg_readByte (r : Reg) (v : Word) (k : Word) : (s.setReg r v).readByte k = s.readByte k := by simp [State.readByte]
@[simp] theorem State.setReg_readHalf (r : Reg) (v : Word) (k : Word) : (s.setReg r v).readHalf k = s.readHalf k := by simp [State.readHalf]
@[simp] theorem State.setReg_readWord (r : Reg) (v : Word) (k : Word) : (s.setReg r v).readWord k = s.readWord k := by simp [State.readWord]
@[simp] theorem State.setRegPair_mode (p : RegPair) (v : DWord) : (s.setRegPair p v).mode = s.mode := by simp [State.mode, State.hve]
@[simp] theorem State.setRegPair_hve (p : RegPair) (v : DWord) : (s.setRegPair p v).hve = s.hve := by simp [State.hve]
@[simp] theorem State.setRegPair_gpid (p : RegPair) (v : DWord) : (s.setRegPair p v).gpid = s.gpid := by simp [State.gpid]
@[simp] theorem State.setRegPair_isMh2 (p : RegPair) (v : DWord) : (s.setRegPair p v).isMh2 = s.isMh2 := by simp [State.isMh2]
@[simp] theorem State.setRegPair_ctx (p : RegPair) (v : DWord) (k : Mode) : (s.setRegPair p v).ctx k = s.ctx k := by cases k <;> simp [State.ctx]
@[simp] theorem State.setRegPair_cur (p : RegPair) (v : DWord) : (s.setRegPair p v).cur = s.cur := by simp [State.cur]
@[simp] theorem State.setRegPair_psw (p : RegPair) (v : DWord) : (s.setRegPair p v).psw = s.psw := by simp [State.psw]
@[simp] theorem State.setRegPair_um (p : RegPair) (v : DWord) : (s.setRegPair p v).um = s.um := by simp [State.um]
@[simp] theorem State.setRegPair_vreg (p : RegPair) (v : DWord) (k : VReg) : (s.setRegPair p v).vreg k = s.vreg k := by simp [State.vreg]
@[simp] theorem State.setRegPair_readByte (p : RegPair) (v : DWord) (k : Word) : (s.setRegPair p v).readByte k = s.readByte k := by simp [State.readByte]
@[simp] theorem State.setRegPair_readHalf (p : RegPair) (v : DWord) (k : Word) : (s.setRegPair p v).readHalf k = s.readHalf k := by simp [State.readHalf]
@[simp] theorem State.setRegPair_readWord (p : RegPair) (v : DWord) (k : Word) : (s.setRegPair p v).readWord k = s.readWord k := by simp [State.readWord]
@[simp] theorem State.setVreg_mode (r : VReg) (v : QWord) : (s.setVreg r v).mode = s.mode := by simp [State.mode, State.hve]
@[simp] theorem State.setVreg_hve (r : VReg) (v : QWord) : (s.setVreg r v).hve = s.hve := by simp [State.hve]
@[simp] theorem State.setVreg_gpid (r : VReg) (v : QWord) : (s.setVreg r v).gpid = s.gpid := by simp [State.gpid]
@[simp] theorem State.setVreg_isMh2 (r : VReg) (v : QWord) : (s.setVreg r v).isMh2 = s.isMh2 := by simp [State.isMh2]
@[simp] theorem State.setVreg_ctx (r : VReg) (v : QWord) (k : Mode) : (s.setVreg r v).ctx k = s.ctx k := by cases k <;> simp [State.ctx]
@[simp] theorem State.setVreg_cur (r : VReg) (v : QWord) : (s.setVreg r v).cur = s.cur := by simp [State.cur]
@[simp] theorem State.setVreg_psw (r : VReg) (v : QWord) : (s.setVreg r v).psw = s.psw := by simp [State.psw]
@[simp] theorem State.setVreg_um (r : VReg) (v : QWord) : (s.setVreg r v).um = s.um := by simp [State.um]
@[simp] theorem State.setVreg_reg (r : VReg) (v : QWord) (k : Reg) : (s.setVreg r v).reg k = s.reg k := by simp [State.reg]
@[simp] theorem State.setVreg_readByte (r : VReg) (v : QWord) (k : Word) : (s.setVreg r v).readByte k = s.readByte k := by simp [State.readByte]
@[simp] theorem State.setVreg_readHalf (r : VReg) (v : QWord) (k : Word) : (s.setVreg r v).readHalf k = s.readHalf k := by simp [State.readHalf]
@[simp] theorem State.setVreg_readWord (r : VReg) (v : QWord) (k : Word) : (s.setVreg r v).readWord k = s.readWord k := by simp [State.readWord]
@[simp] theorem State.advance_mode (n : Nat) : (s.advance n).mode = s.mode := by simp [State.mode, State.hve]
@[simp] theorem State.advance_hve (n : Nat) : (s.advance n).hve = s.hve := by simp [State.hve]
@[simp] theorem State.advance_gpid (n : Nat) : (s.advance n).gpid = s.gpid := by simp [State.gpid]
@[simp] theorem State.advance_isMh2 (n : Nat) : (s.advance n).isMh2 = s.isMh2 := by simp [State.isMh2]
@[simp] theorem State.advance_ctx (n : Nat) (k : Mode) : (s.advance n).ctx k = s.ctx k := by cases k <;> simp [State.ctx]
@[simp] theorem State.advance_cur (n : Nat) : (s.advance n).cur = s.cur := by simp [State.cur]
@[simp] theorem State.advance_psw (n : Nat) : (s.advance n).psw = s.psw := by simp [State.psw]
@[simp] theorem State.advance_um (n : Nat) : (s.advance n).um = s.um := by simp [State.um]
@[simp] theorem State.advance_reg (n : Nat) (k : Reg) : (s.advance n).reg k = s.reg k := by simp [State.reg]
@[simp] theorem State.advance_vreg (n : Nat) (k : VReg) : (s.advance n).vreg k = s.vreg k := by simp [State.vreg]
@[simp] theorem State.advance_readByte (n : Nat) (k : Word) : (s.advance n).readByte k = s.readByte k := by simp [State.readByte]
@[simp] theorem State.advance_readHalf (n : Nat) (k : Word) : (s.advance n).readHalf k = s.readHalf k := by simp [State.readHalf]
@[simp] theorem State.advance_readWord (n : Nat) (k : Word) : (s.advance n).readWord k = s.readWord k := by simp [State.readWord]
@[simp] theorem State.jump_mode (a : Word) : (s.jump a).mode = s.mode := by simp [State.mode, State.hve]
@[simp] theorem State.jump_hve (a : Word) : (s.jump a).hve = s.hve := by simp [State.hve]
@[simp] theorem State.jump_gpid (a : Word) : (s.jump a).gpid = s.gpid := by simp [State.gpid]
@[simp] theorem State.jump_isMh2 (a : Word) : (s.jump a).isMh2 = s.isMh2 := by simp [State.isMh2]
@[simp] theorem State.jump_ctx (a : Word) (k : Mode) : (s.jump a).ctx k = s.ctx k := by cases k <;> simp [State.ctx]
@[simp] theorem State.jump_cur (a : Word) : (s.jump a).cur = s.cur := by simp [State.cur]
@[simp] theorem State.jump_psw (a : Word) : (s.jump a).psw = s.psw := by simp [State.psw]
@[simp] theorem State.jump_um (a : Word) : (s.jump a).um = s.um := by simp [State.um]
@[simp] theorem State.jump_reg (a : Word) (k : Reg) : (s.jump a).reg k = s.reg k := by simp [State.reg]
@[simp] theorem State.jump_vreg (a : Word) (k : VReg) : (s.jump a).vreg k = s.vreg k := by simp [State.vreg]
@[simp] theorem State.jump_readByte (a : Word) (k : Word) : (s.jump a).readByte k = s.readByte k := by simp [State.readByte]
@[simp] theorem State.jump_readHalf (a : Word) (k : Word) : (s.jump a).readHalf k = s.readHalf k := by simp [State.readHalf]
@[simp] theorem State.jump_readWord (a : Word) (k : Word) : (s.jump a).readWord k = s.readWord k := by simp [State.readWord]
@[simp] theorem State.setCtx_mode (m : Mode) (c : Ctx) : (s.setCtx m c).mode = s.mode := by simp [State.mode, State.hve]
@[simp] theorem State.setCtx_hve (m : Mode) (c : Ctx) : (s.setCtx m c).hve = s.hve := by simp [State.hve]
@[simp] theorem State.setCtx_gpid (m : Mode) (c : Ctx) : (s.setCtx m c).gpid = s.gpid := by simp [State.gpid]
@[simp] theorem State.setCtx_isMh2 (m : Mode) (c : Ctx) : (s.setCtx m c).isMh2 = s.isMh2 := by simp [State.isMh2]
@[simp] theorem State.setCtx_reg (m : Mode) (c : Ctx) (k : Reg) : (s.setCtx m c).reg k = s.reg k := by simp [State.reg]
@[simp] theorem State.setCtx_vreg (m : Mode) (c : Ctx) (k : VReg) : (s.setCtx m c).vreg k = s.vreg k := by simp [State.vreg]
@[simp] theorem State.setCtx_readByte (m : Mode) (c : Ctx) (k : Word) : (s.setCtx m c).readByte k = s.readByte k := by simp [State.readByte]
@[simp] theorem State.setCtx_readHalf (m : Mode) (c : Ctx) (k : Word) : (s.setCtx m c).readHalf k = s.readHalf k := by simp [State.readHalf]
@[simp] theorem State.setCtx_readWord (m : Mode) (c : Ctx) (k : Word) : (s.setCtx m c).readWord k = s.readWord k := by simp [State.readWord]
@[simp] theorem State.setPsw_mode (w : Word) : (s.setPsw w).mode = s.mode := by simp [State.mode, State.hve]
@[simp] theorem State.setPsw_hve (w : Word) : (s.setPsw w).hve = s.hve := by simp [State.hve]
@[simp] theorem State.setPsw_gpid (w : Word) : (s.setPsw w).gpid = s.gpid := by simp [State.gpid]
@[simp] theorem State.setPsw_isMh2 (w : Word) : (s.setPsw w).isMh2 = s.isMh2 := by simp [State.isMh2]
@[simp] theorem State.setPsw_reg (w : Word) (k : Reg) : (s.setPsw w).reg k = s.reg k := by simp [State.reg]
@[simp] theorem State.setPsw_vreg (w : Word) (k : VReg) : (s.setPsw w).vreg k = s.vreg k := by simp [State.vreg]
@[simp] theorem State.setPsw_readByte (w : Word) (k : Word) : (s.setPsw w).readByte k = s.readByte k := by simp [State.readByte]
@[simp] theorem State.setPsw_readHalf (w : Word) (k : Word) : (s.setPsw w).readHalf k = s.readHalf k := by simp [State.readHalf]
@[simp] theorem State.setPsw_readWord (w : Word) (k : Word) : (s.setPsw w).readWord k = s.readWord k := by simp [State.readWord]
@[simp] theorem State.setFlags_mode (f : Flags) : (s.setFlags f).mode = s.mode := by simp [State.mode, State.hve]
@[simp] theorem State.setFlags_hve (f : Flags) : (s.setFlags f).hve = s.hve := by simp [State.hve]
@[simp] theorem State.setFlags_gpid (f : Flags) : (s.setFlags f).gpid = s.gpid := by simp [State.gpid]
@[simp] theorem State.setFlags_isMh2 (f : Flags) : (s.setFlags f).isMh2 = s.isMh2 := by simp [State.isMh2]
@[simp] theorem State.setFlags_reg (f : Flags) (k : Reg) : (s.setFlags f).reg k = s.reg k := by simp [State.reg]
@[simp] theorem State.setFlags_vreg (f : Flags) (k : VReg) : (s.setFlags f).vreg k = s.vreg k := by simp [State.vreg]
@[simp] theorem State.setFlags_readByte (f : Flags) (k : Word) : (s.setFlags f).readByte k = s.readByte k := by simp [State.readByte]
@[simp] theorem State.setFlags_readHalf (f : Flags) (k : Word) : (s.setFlags f).readHalf k = s.readHalf k := by simp [State.readHalf]
@[simp] theorem State.setFlags_readWord (f : Flags) (k : Word) : (s.setFlags f).readWord k = s.readWord k := by simp [State.readWord]
@[simp] theorem State.setFlagsNoCy_mode (f : Flags) : (s.setFlagsNoCy f).mode = s.mode := by simp [State.mode, State.hve]
@[simp] theorem State.setFlagsNoCy_hve (f : Flags) : (s.setFlagsNoCy f).hve = s.hve := by simp [State.hve]
@[simp] theorem State.setFlagsNoCy_gpid (f : Flags) : (s.setFlagsNoCy f).gpid = s.gpid := by simp [State.gpid]
@[simp] theorem State.setFlagsNoCy_isMh2 (f : Flags) : (s.setFlagsNoCy f).isMh2 = s.isMh2 := by simp [State.isMh2]
@[simp] theorem State.setFlagsNoCy_reg (f : Flags) (k : Reg) : (s.setFlagsNoCy f).reg k = s.reg k := by simp [State.reg]
@[simp] theorem State.setFlagsNoCy_vreg (f : Flags) (k : VReg) : (s.setFlagsNoCy f).vreg k = s.vreg k := by simp [State.vreg]
@[simp] theorem State.setFlagsNoCy_readByte (f : Flags) (k : Word) : (s.setFlagsNoCy f).readByte k = s.readByte k := by simp [State.readByte]
@[simp] theorem State.setFlagsNoCy_readHalf (f : Flags) (k : Word) : (s.setFlagsNoCy f).readHalf k = s.readHalf k := by simp [State.readHalf]
@[simp] theorem State.setFlagsNoCy_readWord (f : Flags) (k : Word) : (s.setFlagsNoCy f).readWord k = s.readWord k := by simp [State.readWord]
@[simp] theorem State.setZ_mode (z : Bool) : (s.setZ z).mode = s.mode := by simp [State.mode, State.hve]
@[simp] theorem State.setZ_hve (z : Bool) : (s.setZ z).hve = s.hve := by simp [State.hve]
@[simp] theorem State.setZ_gpid (z : Bool) : (s.setZ z).gpid = s.gpid := by simp [State.gpid]
@[simp] theorem State.setZ_isMh2 (z : Bool) : (s.setZ z).isMh2 = s.isMh2 := by simp [State.isMh2]
@[simp] theorem State.setZ_reg (z : Bool) (k : Reg) : (s.setZ z).reg k = s.reg k := by simp [State.reg]
@[simp] theorem State.setZ_vreg (z : Bool) (k : VReg) : (s.setZ z).vreg k = s.vreg k := by simp [State.vreg]
@[simp] theorem State.setZ_readByte (z : Bool) (k : Word) : (s.setZ z).readByte k = s.readByte k := by simp [State.readByte]
@[simp] theorem State.setZ_readHalf (z : Bool) (k : Word) : (s.setZ z).readHalf k = s.readHalf k := by simp [State.readHalf]
@[simp] theorem State.setZ_readWord (z : Bool) (k : Word) : (s.setZ z).readWord k = s.readWord k := by simp [State.readWord]
@[simp] theorem State.setSat_mode (b : Bool) : (s.setSat b).mode = s.mode := by simp [State.mode, State.hve]
@[simp] theorem State.setSat_hve (b : Bool) : (s.setSat b).hve = s.hve := by simp [State.hve]
@[simp] theorem State.setSat_gpid (b : Bool) : (s.setSat b).gpid = s.gpid := by simp [State.gpid]
@[simp] theorem State.setSat_isMh2 (b : Bool) : (s.setSat b).isMh2 = s.isMh2 := by simp [State.isMh2]
@[simp] theorem State.setSat_reg (b : Bool) (k : Reg) : (s.setSat b).reg k = s.reg k := by simp [State.reg]
@[simp] theorem State.setSat_vreg (b : Bool) (k : VReg) : (s.setSat b).vreg k = s.vreg k := by simp [State.vreg]
@[simp] theorem State.setSat_readByte (b : Bool) (k : Word) : (s.setSat b).readByte k = s.readByte k := by simp [State.readByte]
@[simp] theorem State.setSat_readHalf (b : Bool) (k : Word) : (s.setSat b).readHalf k = s.readHalf k := by simp [State.readHalf]
@[simp] theorem State.setSat_readWord (b : Bool) (k : Word) : (s.setSat b).readWord k = s.readWord k := by simp [State.readWord]
@[simp] theorem State.writeByte_mode (a : Word) (v : Byte) : (s.writeByte a v).mode = s.mode := by simp [State.mode, State.hve]
@[simp] theorem State.writeByte_hve (a : Word) (v : Byte) : (s.writeByte a v).hve = s.hve := by simp [State.hve]
@[simp] theorem State.writeByte_gpid (a : Word) (v : Byte) : (s.writeByte a v).gpid = s.gpid := by simp [State.gpid]
@[simp] theorem State.writeByte_isMh2 (a : Word) (v : Byte) : (s.writeByte a v).isMh2 = s.isMh2 := by simp [State.isMh2]
@[simp] theorem State.writeByte_ctx (a : Word) (v : Byte) (k : Mode) : (s.writeByte a v).ctx k = s.ctx k := by cases k <;> simp [State.ctx]
@[simp] theorem State.writeByte_cur (a : Word) (v : Byte) : (s.writeByte a v).cur = s.cur := by simp [State.cur]
@[simp] theorem State.writeByte_psw (a : Word) (v : Byte) : (s.writeByte a v).psw = s.psw := by simp [State.psw]
@[simp] theorem State.writeByte_um (a : Word) (v : Byte) : (s.writeByte a v).um = s.um := by simp [State.um]
@[simp] theorem State.writeByte_reg (a : Word) (v : Byte) (k : Reg) : (s.writeByte a v).reg k = s.reg k := by simp [State.reg]
@[simp] theorem State.writeByte_vreg (a : Word) (v : Byte) (k : VReg) : (s.writeByte a v).vreg k = s.vreg k := by simp [State.vreg]
@[simp] theorem State.writeHalf_mode (a : Word) (v : Half) : (s.writeHalf a v).mode = s.mode := by simp [State.mode, State.hve]
@[simp] theorem State.writeHalf_hve (a : Word) (v : Half) : (s.writeHalf a v).hve = s.hve := by simp [State.hve]
@[simp] theorem State.writeHalf_gpid (a : Word) (v : Half) : (s.writeHalf a v).gpid = s.gpid := by simp [State.gpid]
@[simp] theorem State.writeHalf_isMh2 (a : Word) (v : Half) : (s.writeHalf a v).isMh2 = s.isMh2 := by simp [State.isMh2]
@[simp] theorem State.writeHalf_ctx (a : Word) (v : Half) (k : Mode) : (s.writeHalf a v).ctx k = s.ctx k := by cases k <;> simp [State.ctx]
@[simp] theorem State.writeHalf_cur (a : Word) (v : Half) : (s.writeHalf a v).cur = s.cur := by simp [State.cur]
@[simp] theorem State.writeHalf_psw (a : Word) (v : Half) : (s.writeHalf a v).psw = s.psw := by simp [State.psw]
@[simp] theorem State.writeHalf_um (a : Word) (v : Half) : (s.writeHalf a v).um = s.um := by simp [State.um]
@[simp] theorem State.writeHalf_reg (a : Word) (v : Half) (k : Reg) : (s.writeHalf a v).reg k = s.reg k := by simp [State.reg]
@[simp] theorem State.writeHalf_vreg (a : Word) (v : Half) (k : VReg) : (s.writeHalf a v).vreg k = s.vreg k := by simp [State.vreg]
@[simp] theorem State.writeWord_mode (a : Word) (v : Word) : (s.writeWord a v).mode = s.mode := by simp [State.mode, State.hve]
@[simp] theorem State.writeWord_hve (a : Word) (v : Word) : (s.writeWord a v).hve = s.hve := by simp [State.hve]
@[simp] theorem State.writeWord_gpid (a : Word) (v : Word) : (s.writeWord a v).gpid = s.gpid := by simp [State.gpid]
@[simp] theorem State.writeWord_isMh2 (a : Word) (v : Word) : (s.writeWord a v).isMh2 = s.isMh2 := by simp [State.isMh2]
@[simp] theorem State.writeWord_ctx (a : Word) (v : Word) (k : Mode) : (s.writeWord a v).ctx k = s.ctx k := by cases k <;> simp [State.ctx]
@[simp] theorem State.writeWord_cur (a : Word) (v : Word) : (s.writeWord a v).cur = s.cur := by simp [State.cur]
@[simp] theorem State.writeWord_psw (a : Word) (v : Word) : (s.writeWord a v).psw = s.psw := by simp [State.psw]
@[simp] theorem State.writeWord_um (a : Word) (v : Word) : (s.writeWord a v).um = s.um := by simp [State.um]
@[simp] theorem State.writeWord_reg (a : Word) (v : Word) (k : Reg) : (s.writeWord a v).reg k = s.reg k := by simp [State.reg]
@[simp] theorem State.writeWord_vreg (a : Word) (v : Word) (k : VReg) : (s.writeWord a v).vreg k = s.vreg k := by simp [State.vreg]
@[simp] theorem State.writeDWord_mode (a : Word) (v : DWord) : (s.writeDWord a v).mode = s.mode := by simp [State.mode, State.hve]
@[simp] theorem State.writeDWord_hve (a : Word) (v : DWord) : (s.writeDWord a v).hve = s.hve := by simp [State.hve]
@[simp] theorem State.writeDWord_gpid (a : Word) (v : DWord) : (s.writeDWord a v).gpid = s.gpid := by simp [State.gpid]
@[simp] theorem State.writeDWord_isMh2 (a : Word) (v : DWord) : (s.writeDWord a v).isMh2 = s.isMh2 := by simp [State.isMh2]
@[simp] theorem State.writeDWord_ctx (a : Word) (v : DWord) (k : Mode) : (s.writeDWord a v).ctx k = s.ctx k := by cases k <;> simp [State.ctx]
@[simp] theorem State.writeDWord_cur (a : Word) (v : DWord) : (s.writeDWord a v).cur = s.cur := by simp [State.cur]
@[simp] theorem State.writeDWord_psw (a : Word) (v : DWord) : (s.writeDWord a v).psw = s.psw := by simp [State.psw]
@[simp] theorem State.writeDWord_um (a : Word) (v : DWord) : (s.writeDWord a v).um = s.um := by simp [State.um]
@[simp] theorem State.writeDWord_reg (a : Word) (v : DWord) (k : Reg) : (s.writeDWord a v).reg k = s.reg k := by simp [State.reg]
@[simp] theorem State.writeDWord_vreg (a : Word) (v : DWord) (k : VReg) : (s.writeDWord a v).vreg k = s.vreg k := by simp [State.vreg]
@[simp] theorem State.writeQWord_mode (a : Word) (v : QWord) : (s.writeQWord a v).mode = s.mode := by simp [State.mode, State.hve]
@[simp] theorem State.writeQWord_hve (a : Word) (v : QWord) : (s.writeQWord a v).hve = s.hve := by simp [State.hve]
@[simp] theorem State.writeQWord_gpid (a : Word) (v : QWord) : (s.writeQWord a v).gpid = s.gpid := by simp [State.gpid]
@[simp] theorem State.writeQWord_isMh2 (a : Word) (v : QWord) : (s.writeQWord a v).isMh2 = s.isMh2 := by simp [State.isMh2]
@[simp] theorem State.writeQWord_ctx (a : Word) (v : QWord) (k : Mode) : (s.writeQWord a v).ctx k = s.ctx k := by cases k <;> simp [State.ctx]
@[simp] theorem State.writeQWord_cur (a : Word) (v : QWord) : (s.writeQWord a v).cur = s.cur := by simp [State.cur]
@[simp] theorem State.writeQWord_psw (a : Word) (v : QWord) : (s.writeQWord a v).psw = s.psw := by simp [State.psw]
@[simp] theorem State.writeQWord_um (a : Word) (v : QWord) : (s.writeQWord a v).um = s.um := by simp [State.um]
@[simp] theorem State.writeQWord_reg (a : Word) (v : QWord) (k : Reg) : (s.writeQWord a v).reg k = s.reg k := by simp [State.reg]
@[simp] theorem State.writeQWord_vreg (a : Word) (v : QWord) (k : VReg) : (s.writeQWord a v).vreg k = s.vreg k := by simp [State.vreg]
@[simp] theorem State.dropLink_mode  : (s.dropLink).mode = s.mode := by simp [State.mode, State.hve]
@[simp] theorem State.dropLink_hve  : (s.dropLink).hve = s.hve := by simp [State.hve]
@[simp] theorem State.dropLink_gpid  : (s.dropLink).gpid = s.gpid := by simp [State.gpid]
@[simp] theorem State.dropLink_isMh2  : (s.dropLink).isMh2 = s.isMh2 := by simp [State.isMh2]
@[simp] theorem State.dropLink_ctx (k : Mode) : (s.dropLink).ctx k = s.ctx k := by cases k <;> simp [State.ctx]
@[simp] theorem State.dropLink_cur  : (s.dropLink).cur = s.cur := by simp [State.cur]
@[simp] theorem State.dropLink_psw  : (s.dropLink).psw = s.psw := by simp [State.psw]
@[simp] theorem State.dropLink_um  : (s.dropLink).um = s.um := by simp [State.um]
@[simp] theorem State.dropLink_reg  (k : Reg) : (s.dropLink).reg k = s.reg k := by simp [State.reg]
@[simp] theorem State.dropLink_vreg  (k : VReg) : (s.dropLink).vreg k = s.vreg k := by simp [State.vreg]
@[simp] theorem State.dropLink_readByte  (k : Word) : (s.dropLink).readByte k = s.readByte k := by simp [State.readByte]
@[simp] theorem State.dropLink_readHalf  (k : Word) : (s.dropLink).readHalf k = s.readHalf k := by simp [State.readHalf]
@[simp] theorem State.dropLink_readWord  (k : Word) : (s.dropLink).readWord k = s.readWord k := by simp [State.readWord]
@[simp] theorem State.skipFree_mode (n : Nat) : (s.skipFree n).mode = s.mode := by simp [State.mode, State.hve]
@[simp] theorem State.skipFree_hve (n : Nat) : (s.skipFree n).hve = s.hve := by simp [State.hve]
@[simp] theorem State.skipFree_gpid (n : Nat) : (s.skipFree n).gpid = s.gpid := by simp [State.gpid]
@[simp] theorem State.skipFree_isMh2 (n : Nat) : (s.skipFree n).isMh2 = s.isMh2 := by simp [State.isMh2]
@[simp] theorem State.skipFree_ctx (n : Nat) (k : Mode) : (s.skipFree n).ctx k = s.ctx k := by cases k <;> simp [State.ctx]
@[simp] theorem State.skipFree_cur (n : Nat) : (s.skipFree n).cur = s.cur := by simp [State.cur]
@[simp] theorem State.skipFree_psw (n : Nat) : (s.skipFree n).psw = s.psw := by simp [State.psw]
@[simp] theorem State.skipFree_um (n : Nat) : (s.skipFree n).um = s.um := by simp [State.um]
@[simp] theorem State.skipFree_reg (n : Nat) (k : Reg) : (s.skipFree n).reg k = s.reg k := by simp [State.reg]
@[simp] theorem State.skipFree_vreg (n : Nat) (k : VReg) : (s.skipFree n).vreg k = s.vreg k := by simp [State.vreg]
@[simp] theorem State.skipFree_readByte (n : Nat) (k : Word) : (s.skipFree n).readByte k = s.readByte k := by simp [State.readByte]
@[simp] theorem State.skipFree_readHalf (n : Nat) (k : Word) : (s.skipFree n).readHalf k = s.readHalf k := by simp [State.readHalf]
@[simp] theorem State.skipFree_readWord (n : Nat) (k : Word) : (s.skipFree n).readWord k = s.readWord k := by simp [State.readWord]
@[simp] theorem State.emit_mode (e : Event) : (s.emit e).mode = s.mode := by simp [State.mode, State.hve]
@[simp] theorem State.emit_hve (e : Event) : (s.emit e).hve = s.hve := by simp [State.hve]
@[simp] theorem State.emit_gpid (e : Event) : (s.emit e).gpid = s.gpid := by simp [State.gpid]
@[simp] theorem State.emit_isMh2 (e : Event) : (s.emit e).isMh2 = s.isMh2 := by simp [State.isMh2]
@[simp] theorem State.emit_ctx (e : Event) (k : Mode) : (s.emit e).ctx k = s.ctx k := by cases k <;> simp [State.ctx]
@[simp] theorem State.emit_cur (e : Event) : (s.emit e).cur = s.cur := by simp [State.cur]
@[simp] theorem State.emit_psw (e : Event) : (s.emit e).psw = s.psw := by simp [State.psw]
@[simp] theorem State.emit_um (e : Event) : (s.emit e).um = s.um := by simp [State.um]
@[simp] theorem State.emit_reg (e : Event) (k : Reg) : (s.emit e).reg k = s.reg k := by simp [State.reg]
@[simp] theorem State.emit_vreg (e : Event) (k : VReg) : (s.emit e).vreg k = s.vreg k := by simp [State.vreg]
@[simp] theorem State.emit_readByte (e : Event) (k : Word) : (s.emit e).readByte k = s.readByte k := by simp [State.readByte]
@[simp] theorem State.emit_readHalf (e : Event) (k : Word) : (s.emit e).readHalf k = s.readHalf k := by simp [State.readHalf]
@[simp] theorem State.emit_readWord (e : Event) (k : Word) : (s.emit e).readWord k = s.readWord k := by simp [State.readWord]

/-! ### What the updates of registers, contexts and the PSW give -/

@[simp] theorem State.reg_zero : s.reg 0 = 0 := by simp [State.reg]

/-- A general register after a write: r0 takes nothing. -/
theorem State.setReg_reg (d : Reg) (v : Word) (r : Reg) :
    (s.setReg d v).reg r = if r = d ∧ d ≠ 0 then v else s.reg r := by
  unfold State.setReg
  by_cases hd : d = 0
  · rw [if_pos hd, if_neg (fun h => h.2 hd)]
  · rw [if_neg hd]
    unfold State.reg
    by_cases hr : r = 0
    · rw [if_pos hr, if_pos hr, if_neg (fun h => hd (hr ▸ h.1).symm)]
    · rw [if_neg hr, if_neg hr]
      by_cases h : r = d
      · rw [if_pos ⟨h, hd⟩]
        subst h
        simp
      · rw [if_neg (fun e => h e.1)]
        exact Vector.getElem_set_ne d.isLt r.isLt (fun e => h (BitVec.eq_of_toNat_eq e).symm)

theorem State.setReg_reg_same (d : Reg) (v : Word) : (s.setReg d v).reg d = if d = 0 then 0 else v := by
  rw [State.setReg_reg]
  by_cases h : d = 0
  · rw [if_pos h, if_neg (fun e => e.2 h), h, State.reg_zero]
  · rw [if_neg h, if_pos ⟨rfl, h⟩]

theorem State.setReg_reg_ne (d : Reg) (v : Word) (r : Reg) (h : r ≠ d) : (s.setReg d v).reg r = s.reg r := by
  simp [State.setReg_reg, h]

/-- A vector register after a write. -/
theorem State.setVreg_vreg (d : VReg) (v : QWord) (r : VReg) :
    (s.setVreg d v).vreg r = if r = d then v else s.vreg r := by
  unfold State.setVreg State.vreg
  by_cases h : r = d
  · subst h; simp
  · have : d.toNat ≠ r.toNat := fun e => h (BitVec.eq_of_toNat_eq e).symm
    simp [h, Vector.getElem_set_ne _ _ this]

@[simp] theorem State.setCtx_ctx_same (m : Mode) (c : Ctx) : (s.setCtx m c).ctx m = c := by cases m <;> rfl

theorem State.setCtx_ctx (m : Mode) (c : Ctx) (k : Mode) : (s.setCtx m c).ctx k = if k = m then c else s.ctx k := by
  cases m <;> cases k <;> simp [State.setCtx, State.ctx]

@[simp] theorem State.setPsw_cur (w : Word) : (s.setPsw w).cur = { s.cur with psw := w } := by
  simp only [State.cur, State.setPsw_mode]
  simp only [State.setPsw, State.setCtx_ctx_same]
  rfl

@[simp] theorem State.setPsw_psw (w : Word) : (s.setPsw w).psw = w := by simp [State.psw]

@[simp] theorem State.setFlags_psw (f : Flags) : (s.setFlags f).psw = putMasked s.psw 0xF f.bits := State.setPsw_psw ..
@[simp] theorem State.setFlagsNoCy_psw (f : Flags) : (s.setFlagsNoCy f).psw = putMasked s.psw 0x7 f.bits :=
  State.setPsw_psw ..
@[simp] theorem State.setZ_psw (z : Bool) : (s.setZ z).psw = putBit s.psw 0 z := State.setPsw_psw ..
@[simp] theorem State.setSat_psw (b : Bool) : (s.setSat b).psw = if b then putBit s.psw 4 true else s.psw :=
  State.setPsw_psw ..

/-! ### What an access carries -/

@[simp] theorem State.setReg_accessTag (r : Reg) (v : Word) : (s.setReg r v).accessTag = s.accessTag := by simp [State.accessTag]
@[simp] theorem State.setRegPair_accessTag (p : RegPair) (v : DWord) : (s.setRegPair p v).accessTag = s.accessTag := by simp [State.accessTag]
@[simp] theorem State.setVreg_accessTag (r : VReg) (v : QWord) : (s.setVreg r v).accessTag = s.accessTag := by simp [State.accessTag]
@[simp] theorem State.advance_accessTag (n : Nat) : (s.advance n).accessTag = s.accessTag := by simp [State.accessTag]
@[simp] theorem State.jump_accessTag (a : Word) : (s.jump a).accessTag = s.accessTag := by simp [State.accessTag]
@[simp] theorem State.writeByte_accessTag (a : Word) (v : Byte) : (s.writeByte a v).accessTag = s.accessTag := by simp [State.accessTag]
@[simp] theorem State.writeHalf_accessTag (a : Word) (v : Half) : (s.writeHalf a v).accessTag = s.accessTag := by simp [State.accessTag]
@[simp] theorem State.writeWord_accessTag (a : Word) (v : Word) : (s.writeWord a v).accessTag = s.accessTag := by simp [State.accessTag]
@[simp] theorem State.writeDWord_accessTag (a : Word) (v : DWord) : (s.writeDWord a v).accessTag = s.accessTag := by simp [State.accessTag]
@[simp] theorem State.writeQWord_accessTag (a : Word) (v : QWord) : (s.writeQWord a v).accessTag = s.accessTag := by simp [State.accessTag]
@[simp] theorem State.dropLink_accessTag : (s.dropLink).accessTag = s.accessTag := by simp [State.accessTag]
@[simp] theorem State.skipFree_accessTag (n : Nat) : (s.skipFree n).accessTag = s.accessTag := by simp [State.accessTag]
@[simp] theorem State.emit_accessTag (e : Event) : (s.emit e).accessTag = s.accessTag := by simp [State.accessTag]
@[simp] theorem State.setPsw_accessTag (w : Word) : (s.setPsw w).accessTag = s.accessTag := by
  simp [State.accessTag, Ctx.spid5]

/-! ### Bits of a word with fields replaced -/

theorem putMasked_getLsbD (w m v : Word) (i : Nat) :
    (putMasked w m v).getLsbD i = if m.getLsbD i then v.getLsbD i else w.getLsbD i := by
  by_cases h : i < 32
  · simp only [putMasked, BitVec.getLsbD_or, BitVec.getLsbD_and, BitVec.getLsbD_not, h, decide_true, Bool.true_and]
    cases m.getLsbD i <;> cases w.getLsbD i <;> cases v.getLsbD i <;> rfl
  · simp [BitVec.getLsbD_of_ge _ i (Nat.le_of_not_lt h)]

theorem putBit_getLsbD (w : Word) (i : Nat) (b : Bool) (k : Nat) (hi : i < 32) :
    (putBit w i b).getLsbD k = if k = i then b else w.getLsbD k := by
  by_cases hk : k < 32
  · cases b <;> by_cases h : k = i <;> simp [putBit, hi, hk, h]
  · have : k ≠ i := by omega
    simp [BitVec.getLsbD_of_ge _ k (Nat.le_of_not_lt hk), this]

theorem putMasked_getElem (w m v : Word) (i : Nat) (h : i < 32) :
    (putMasked w m v)[i] = if m[i] then v[i] else w[i] := by
  have := putMasked_getLsbD w m v i
  simpa [BitVec.getLsbD_eq_getElem h] using this

theorem putBit_getElem (w : Word) (i : Nat) (b : Bool) (k : Nat) (hi : i < 32) (hk : k < 32) :
    (putBit w i b)[k] = if k = i then b else w[k] := by
  have := putBit_getLsbD w i b k hi
  simpa [BitVec.getLsbD_eq_getElem hk] using this

@[simp] theorem Flags.bits_cy (f : Flags) : f.bits[3] = f.cy := by
  rcases f with ⟨a, b, c, d⟩
  cases a <;> cases b <;> cases c <;> cases d <;> rfl
@[simp] theorem Flags.bits_ov (f : Flags) : f.bits[2] = f.ov := by
  rcases f with ⟨a, b, c, d⟩
  cases a <;> cases b <;> cases c <;> cases d <;> rfl
@[simp] theorem Flags.bits_s (f : Flags) : f.bits[1] = f.s := by
  rcases f with ⟨a, b, c, d⟩
  cases a <;> cases b <;> cases c <;> cases d <;> rfl
@[simp] theorem Flags.bits_z (f : Flags) : f.bits[0] = f.z := by
  rcases f with ⟨a, b, c, d⟩
  cases a <;> cases b <;> cases c <;> cases d <;> rfl

/-- The flags after an instruction that writes CY, OV, S and Z. -/
theorem State.setFlags_flags (f : Flags) :
    (s.setFlags f).cy = f.cy ∧ (s.setFlags f).ov = f.ov ∧ (s.setFlags f).sf = f.s ∧ (s.setFlags f).zf = f.z ∧
      (s.setFlags f).sat = s.sat := by
  simp [State.cy, State.ov, State.sf, State.zf, State.sat, putMasked_getElem]

/-- The flags after an instruction that writes OV, S and Z. -/
theorem State.setFlagsNoCy_flags (f : Flags) :
    (s.setFlagsNoCy f).cy = s.cy ∧ (s.setFlagsNoCy f).ov = f.ov ∧ (s.setFlagsNoCy f).sf = f.s ∧
      (s.setFlagsNoCy f).zf = f.z ∧ (s.setFlagsNoCy f).sat = s.sat := by
  simp [State.cy, State.ov, State.sf, State.zf, State.sat, putMasked_getElem]

/-- Bits outside the mask keep their values. -/
theorem putMasked_outside (w m v : Word) : putMasked w m v &&& ~~~ m = w &&& ~~~ m := by
  apply BitVec.eq_of_getLsbD_eq
  intro i hi
  simp only [BitVec.getLsbD_and, BitVec.getLsbD_not, putMasked_getLsbD, hi, decide_true, Bool.true_and]
  cases m.getLsbD i <;> simp

/-- The program counter is even after every advance and jump. -/
theorem evenPc_getLsbD_zero (a : Word) : (evenPc a).getLsbD 0 = false := by simp [evenPc]

end Sys2Proof.Machine
end

