-- ==== Sys2Proof/Laws/Memory.lean ====
section
/-!
SUPPORT. Memory: reading after writing, and the canonical form that every memory operation keeps.
-/

namespace Sys2Proof.Machine

/-! ## The list of cells -/

/-- A byte read after a write: the value written, or what stood there. -/
theorem Memory.read_write (m : List Host.Cell) (hm : m.Pairwise fun c d => c.1 < d.1) (a : Nat) (v : Byte) (b : Nat) :
    Memory.read (Memory.write m a v) b = if b = a then v else Memory.read m b := by
  induction m with
  | nil =>
    by_cases hv : v = Memory.unlisted
    · by_cases hb : b = a <;> simp [Memory.write, Memory.read, hv, hb]
    · by_cases hb : b = a <;> simp [Memory.write, Memory.read, hv, hb]
  | cons c m ih =>
    obtain ⟨k, x⟩ := c
    have hk : ∀ d ∈ m, k < d.1 := (List.pairwise_cons.mp hm).1
    have hm' := (List.pairwise_cons.mp hm).2
    have absent : ∀ n, n ≤ k → Memory.read m n = Memory.unlisted := by
      intro n hn
      clear ih hm hm'
      induction m with
      | nil => rfl
      | cons d m ih2 =>
        have hd : k < d.1 := hk d (by simp)
        have : n ≠ d.1 := by omega
        simp only [Memory.read, this, if_false]
        exact ih2 fun e he => hk e (by simp [he])
    simp only [Memory.write]
    by_cases h1 : a < k
    · rw [if_pos h1]
      by_cases hv : v = Memory.unlisted
      · rw [if_pos hv]
        by_cases hb : b = a
        · have : b ≠ k := by omega
          simp [Memory.read, hb, hv, absent a (by omega), show a ≠ k by omega]
        · simp [hb]
      · rw [if_neg hv]
        by_cases hb : b = a <;> simp [Memory.read, hb]
    · rw [if_neg h1]
      by_cases h2 : a = k
      · rw [if_pos h2]
        by_cases hv : v = Memory.unlisted
        · rw [if_pos hv]
          by_cases hb : b = a
          · simp [hb, hv, absent a (by omega)]
          · simp [Memory.read, hb, show b ≠ k by omega]
        · rw [if_neg hv]
          by_cases hb : b = a
          · simp [Memory.read, hb]
          · simp [Memory.read, hb, show b ≠ k by omega]
      · rw [if_neg h2]
        simp only [Memory.read, ih hm']
        by_cases hb : b = k
        · simp [hb, show k ≠ a by omega]
        · simp [hb]

/-- A cell of memory after a write is the new one or an old one at another address. -/
theorem Memory.mem_write (m : List Host.Cell) (a : Nat) (v : Byte) (c : Host.Cell) (h : c ∈ Memory.write m a v) :
    (c = (a, v) ∧ v ≠ Memory.unlisted) ∨ c ∈ m := by
  induction m with
  | nil =>
    simp only [Memory.write] at h
    split at h
    · cases h
    · left; simp_all
  | cons d m ih =>
    obtain ⟨k, x⟩ := d
    simp only [Memory.write] at h
    split at h
    · split at h
      · exact .inr h
      · rcases List.mem_cons.mp h with h | h
        · left; simp_all
        · exact .inr h
    · split at h
      · split at h
        · exact .inr (List.mem_cons_of_mem _ h)
        · rcases List.mem_cons.mp h with h | h
          · left; simp_all
          · exact .inr (List.mem_cons_of_mem _ h)
      · rcases List.mem_cons.mp h with h | h
        · exact .inr (by simp [h])
        · rcases ih h with h | h
          · exact .inl h
          · exact .inr (List.mem_cons_of_mem _ h)

/-- A write keeps the canonical form. -/
theorem Memory.wf_write (m : List Host.Cell) (hm : Memory.wf m) (a : Nat) (ha : a < 2 ^ 32) (v : Byte) :
    Memory.wf (Memory.write m a v) := by
  refine ⟨?_, fun c hc => ?_⟩
  · obtain ⟨hp, -⟩ := hm
    induction m with
    | nil => simp only [Memory.write]; split <;> simp
    | cons d m ih =>
      obtain ⟨k, x⟩ := d
      have hk : ∀ d ∈ m, k < d.1 := (List.pairwise_cons.mp hp).1
      have hp' := (List.pairwise_cons.mp hp).2
      simp only [Memory.write]
      split
      · split
        · exact hp
        · refine List.pairwise_cons.mpr ⟨fun e he => ?_, hp⟩
          rcases List.mem_cons.mp he with he | he
          · subst he; assumption
          · exact Nat.lt_trans (by assumption) (hk e he)
      · split
        · subst_vars
          split
          · exact hp'
          · exact List.pairwise_cons.mpr ⟨hk, hp'⟩
        · refine List.pairwise_cons.mpr ⟨fun e he => ?_, ih hp'⟩
          rcases Memory.mem_write _ _ _ _ he with he | he
          · rw [he.1]; show k < a; omega
          · exact hk e he
  · rcases Memory.mem_write _ _ _ _ hc with h | h
    · rw [h.1]; exact ⟨ha, h.2⟩
    · exact hm.2 c h

/-! ## Bytes and wider data -/

theorem State.memWf_writeByte (s : State) (h : s.memWf) (a : Word) (v : Byte) : (s.writeByte a v).memWf :=
  Memory.wf_write _ h _ a.isLt _
theorem State.memWf_writeHalf (s : State) (h : s.memWf) (a : Word) (v : Half) : (s.writeHalf a v).memWf :=
  State.memWf_writeByte _ (State.memWf_writeByte _ h _ _) _ _
theorem State.memWf_writeWord (s : State) (h : s.memWf) (a : Word) (v : Word) : (s.writeWord a v).memWf :=
  State.memWf_writeHalf _ (State.memWf_writeHalf _ h _ _) _ _
theorem State.memWf_writeDWord (s : State) (h : s.memWf) (a : Word) (v : DWord) : (s.writeDWord a v).memWf :=
  State.memWf_writeWord _ (State.memWf_writeWord _ h _ _) _ _
theorem State.memWf_writeQWord (s : State) (h : s.memWf) (a : Word) (v : QWord) : (s.writeQWord a v).memWf :=
  State.memWf_writeDWord _ (State.memWf_writeDWord _ h _ _) _ _

/-- Reset memory lists nothing. -/
theorem State.memWf_reset : State.reset.memWf := by
  simp [State.memWf, State.reset, State.resetOf, Memory.wf]

/-- R201: a byte after a byte store. -/
theorem State.readByte_writeByte (s : State) (h : s.memWf) (a : Word) (v : Byte) (b : Word) :
    (s.writeByte a v).readByte b = if b = a then v else s.readByte b := by
  simp only [State.readByte, State.writeByte, Memory.read_write _ h.1]
  by_cases e : b = a
  · simp [e]
  · simp [e, show b.toNat ≠ a.toNat from fun n => e (BitVec.eq_of_toNat_eq n)]

/-- R201: bytes outside a halfword, word, double word or quad word stored keep their values. -/
theorem State.readByte_writeHalf_outside (s : State) (h : s.memWf) (a : Word) (v : Half) (b : Word)
    (hb : ¬ storedBytes a 2 b) : (s.writeHalf a v).readByte b = s.readByte b := by
  unfold storedBytes at hb
  have h0 : b ≠ a := by bv_omega
  have h1 : b ≠ a + 1 := by bv_omega
  unfold State.writeHalf
  rw [State.readByte_writeByte _ (State.memWf_writeByte _ h _ _), State.readByte_writeByte _ h, if_neg h1, if_neg h0]

@[inherit_doc State.readByte_writeHalf_outside]
theorem State.readByte_writeWord_outside (s : State) (h : s.memWf) (a : Word) (v : Word) (b : Word)
    (hb : ¬ storedBytes a 4 b) : (s.writeWord a v).readByte b = s.readByte b := by
  unfold storedBytes at hb
  unfold State.writeWord
  rw [State.readByte_writeHalf_outside _ (State.memWf_writeHalf _ h _ _) _ _ _ (by unfold storedBytes; bv_omega),
    State.readByte_writeHalf_outside _ h _ _ _ (by unfold storedBytes; bv_omega)]

@[inherit_doc State.readByte_writeHalf_outside]
theorem State.readByte_writeDWord_outside (s : State) (h : s.memWf) (a : Word) (v : DWord) (b : Word)
    (hb : ¬ storedBytes a 8 b) : (s.writeDWord a v).readByte b = s.readByte b := by
  unfold storedBytes at hb
  unfold State.writeDWord
  rw [State.readByte_writeWord_outside _ (State.memWf_writeWord _ h _ _) _ _ _ (by unfold storedBytes; bv_omega),
    State.readByte_writeWord_outside _ h _ _ _ (by unfold storedBytes; bv_omega)]

@[inherit_doc State.readByte_writeHalf_outside]
theorem State.readByte_writeQWord_outside (s : State) (h : s.memWf) (a : Word) (v : QWord) (b : Word)
    (hb : ¬ storedBytes a 16 b) : (s.writeQWord a v).readByte b = s.readByte b := by
  unfold storedBytes at hb
  unfold State.writeQWord
  rw [State.readByte_writeDWord_outside _ (State.memWf_writeDWord _ h _ _) _ _ _ (by unfold storedBytes; bv_omega),
    State.readByte_writeDWord_outside _ h _ _ _ (by unfold storedBytes; bv_omega)]

/-! ## Byte order -/

/-- The bits of two halves of two bytes each are those of four bytes. -/
theorem word_of_halves (b3 b2 b1 b0 : Byte) : ((b3 ++ b2 : Half) ++ (b1 ++ b0 : Half) : Word) = (b3 ++ b2 ++ b1 ++ b0 : Word) := by
  apply BitVec.eq_of_getLsbD_eq
  intro i hi
  simp only [BitVec.getLsbD_append]
  split_ifs <;> first | rfl | omega

/-- R200: a word by its bytes, the one at the lower address lower. -/
theorem State.readWord_bytes (s : State) (a : Word) :
    s.readWord a = s.readByte (a + 3) ++ s.readByte (a + 2) ++ s.readByte (a + 1) ++ s.readByte a := by
  have e : a + 2 + 1 = a + 3 := by bv_omega
  rw [State.readWord, State.readHalf, State.readHalf, e, word_of_halves]

/-- Byte `k` of a halfword and of a word, counted from the lowest. -/
theorem byte_of_half (b1 b0 : Byte) {k : Nat} (hk : k < 2) : (b1 ++ b0 : Half).extractLsb' (8 * k) 8 = [b0, b1].getD k 0 := by
  apply BitVec.eq_of_getLsbD_eq
  intro i hi
  rw [BitVec.getLsbD_extractLsb']
  simp only [BitVec.getLsbD_append, hi, decide_true, Bool.true_and]
  interval_cases k <;> simp only [List.getD_cons_zero, List.getD_cons_succ] <;> split_ifs <;> first | omega | (congr 1; omega)
@[inherit_doc byte_of_half]
theorem byte_of_word (b3 b2 b1 b0 : Byte) {k : Nat} (hk : k < 4) :
    (b3 ++ b2 ++ b1 ++ b0 : Word).extractLsb' (8 * k) 8 = [b0, b1, b2, b3].getD k 0 := by
  apply BitVec.eq_of_getLsbD_eq
  intro i hi
  rw [BitVec.getLsbD_extractLsb']
  simp only [BitVec.getLsbD_append, hi, decide_true, Bool.true_and]
  interval_cases k <;> simp only [List.getD_cons_zero, List.getD_cons_succ] <;> split_ifs <;> first | omega | (congr 1; omega)

/-- Byte `k` of the low halfword of a word is byte `k` of the word. -/
theorem extract_setWidth (v : Word) {k : Nat} (hk : k < 2) : (v.setWidth 16 : Half).extractLsb' (8 * k) 8 = v.extractLsb' (8 * k) 8 := by
  apply BitVec.eq_of_getLsbD_eq
  intro i hi
  simp only [BitVec.getLsbD_extractLsb', BitVec.getLsbD_setWidth, hi, decide_true, Bool.true_and]
  rw [decide_eq_true (by omega), Bool.true_and]

/-! ## What is stored is read back -/

/-- R200, R201: what is stored is read back. -/
theorem State.readHalf_writeHalf (s : State) (h : s.memWf) (a : Word) (v : Half) : (s.writeHalf a v).readHalf a = v := by
  have h1 : a ≠ a + 1 := by bv_omega
  unfold State.readHalf State.writeHalf
  rw [State.readByte_writeByte _ (State.memWf_writeByte _ h _ _), if_pos rfl,
    State.readByte_writeByte _ (State.memWf_writeByte _ h _ _), if_neg h1, State.readByte_writeByte _ h, if_pos rfl]
  exact BitVec.extractLsb'_append_extractLsb'_eq_extractLsb' (by rfl) |>.trans (by simp)

/-- R200: a halfword away from the bytes stored. -/
theorem State.readHalf_writeHalf_outside (s : State) (h : s.memWf) (a b : Word) (v : Half)
    (h0 : ¬ storedBytes a 2 b) (h1 : ¬ storedBytes a 2 (b + 1)) : (s.writeHalf a v).readHalf b = s.readHalf b := by
  unfold State.readHalf
  rw [State.readByte_writeHalf_outside _ h _ _ _ h0, State.readByte_writeHalf_outside _ h _ _ _ h1]

@[inherit_doc State.readHalf_writeHalf]
theorem State.readWord_writeWord (s : State) (h : s.memWf) (a : Word) (v : Word) : (s.writeWord a v).readWord a = v := by
  unfold State.readWord State.writeWord
  rw [State.readHalf_writeHalf _ (State.memWf_writeHalf _ h _ _),
    State.readHalf_writeHalf_outside _ (State.memWf_writeHalf _ h _ _) _ _ _
      (by unfold storedBytes; bv_omega) (by unfold storedBytes; bv_omega),
    State.readHalf_writeHalf _ h]
  exact BitVec.extractLsb'_append_extractLsb'_eq_extractLsb' (by rfl) |>.trans (by simp)

/-- R200: a word away from the bytes stored. -/
theorem State.readWord_writeWord_outside (s : State) (h : s.memWf) (a b : Word) (v : Word)
    (hb : ∀ n, n < 4 → ¬ storedBytes a 4 (b + BitVec.ofNat 32 n)) : (s.writeWord a v).readWord b = s.readWord b := by
  have h0 : ¬ storedBytes a 4 b := by simpa using hb 0 (by omega)
  have h1 : ¬ storedBytes a 4 (b + 1) := hb 1 (by omega)
  have h2 : ¬ storedBytes a 4 (b + 2) := hb 2 (by omega)
  have h3 : ¬ storedBytes a 4 (b + 3) := hb 3 (by omega)
  unfold State.readWord State.readHalf
  rw [State.readByte_writeWord_outside _ h _ _ _ h0, State.readByte_writeWord_outside _ h _ _ _ h1,
    State.readByte_writeWord_outside _ h _ _ _ h2, State.readByte_writeWord_outside _ h _ _ (b + 2 + 1) (by
      rw [show b + 2 + 1 = b + 3 by bv_omega]; exact h3)]

@[inherit_doc State.readHalf_writeHalf]
theorem State.readDWord_writeDWord (s : State) (h : s.memWf) (a : Word) (v : DWord) :
    (s.writeDWord a v).readDWord a = v := by
  unfold State.readDWord State.writeDWord
  rw [State.readWord_writeWord _ (State.memWf_writeWord _ h _ _),
    State.readWord_writeWord_outside _ (State.memWf_writeWord _ h _ _) _ _ _
      (by intro n hn; unfold storedBytes; bv_omega),
    State.readWord_writeWord _ h]
  exact BitVec.extractLsb'_append_extractLsb'_eq_extractLsb' (by rfl) |>.trans (by simp)

end Sys2Proof.Machine
end

