-- ==== Sys2Proof/Safety.lean ====
section
/-!
DEFINITION. What counts as a safe run, the invariants of the machine's data that every step is to keep, and the words in which
statements about instructions are made: what a completed instruction leaves alone, what it gives.
-/

namespace Sys2Proof.Machine

/-- The step answers a next state. -/
def State.goesOn (s : State) : Prop := ∃ t, step s = .next t

/-! ## Invariants -/

/-- 10_state.md R22: bit 0 of pc is 0. -/
def State.pcEven (s : State) : Prop := s.pc.getLsbD 0 = false

/-- 11_sysregs.md R103: HVE is 0 on a core without the virtualization support function, and HVCFG has no other bit. -/
def State.hvcfgLegal (s : State) : Prop := s.sys.hvcfg = 0 ∨ (s.sys.hvcfg = 1 ∧ s.hasHv = true)

/-- 11_sysregs.md R84, R85: PSWH is 0 while HVE = 0; its reserved bits and those of EIPSWH and FEPSWH are 0. -/
def State.pswhLegal (s : State) : Prop :=
  s.sys.pswh &&& 0x7FFFF8FF = 0 ∧ s.sys.eipswh &&& 0x7FFFF8FF = 0 ∧ s.sys.fepswh &&& 0x7FFFF8FF = 0 ∧
    (s.hve = false → s.sys.pswh = 0)

/-! ## What an instruction leaves alone -/

/-- No register, one register; no byte. -/
def noReg : Reg → Prop := fun _ => False
@[inherit_doc noReg]
def only (r : Reg) : Reg → Prop := fun k => k = r
@[inherit_doc noReg]
def noByte : Word → Prop := fun _ => False

/-- What `t` keeps of `s` when an instruction wrote at most the registers `dst`, the bytes `stored`, the bits `bits` of the PSW in
use, and the program counter: every other register and byte, the rest of the PSW, every multiplexed system register of both
contexts but the PSW in use (the registers an exception saves into among them), the MPU, the counters, the product, and what the
environment sees. The units of `State.SameUnits` are apart. -/
structure State.Frame (s t : State) (dst : Reg → Prop) (stored : Word → Prop) (bits : Word) : Prop where
  regs : ∀ r, ¬ dst r → t.reg r = s.reg r
  bytes : ∀ a, ¬ stored a → t.readByte a = s.readByte a
  mode : t.mode = s.mode
  psw : t.psw &&& ~~~ bits = s.psw &&& ~~~ bits
  contexts : ∀ m r, ¬ (m = s.mode ∧ r = CtxReg.psw) → (t.ctx m).get r = (s.ctx m).get r
  mpu : t.mpu = s.mpu
  counters : t.cnt = s.cnt
  product : t.prod = s.prod
  environment : t.env = s.env ∧ t.inputs = s.inputs ∧ t.out = s.out ∧ t.lastPc = s.lastPc

/-- The vector registers, the system registers that exist once (the floating-point status among them), the link, and the standby
state are kept. -/
structure State.SameUnits (s t : State) : Prop where
  vectors : t.wr = s.wr
  system : t.sys = s.sys
  link : t.link = s.link
  standby : t.halt = s.halt

/-- 10_state.md R20: register `r` holds `v` after a write, or 0 if it is r0. -/
def State.Holds (t : State) (r : Reg) (v : Word) : Prop := t.reg r = if r = 0 then 0 else v

/-- 10_state.md R22: the pc is that of the next instruction, `n` bytes on. -/
def State.NextAfter (s t : State) (n : Nat) : Prop := t.pc = evenPc (s.pc + BitVec.ofNat 32 n)

/-- The instruction completes at `s`: it answers a next state, which continues after its `len` bytes, differs from `s` only in the
registers `dst`, the bytes `stored` and the PSW bits `bits`, and satisfies `post`. -/
def Completes (i : Instr) (s : State) (len : Nat) (dst : Reg → Prop) (stored : Word → Prop) (bits : Word)
    (post : State → Prop) : Prop :=
  ∃ t, exec i s = .next t ∧ s.NextAfter t len ∧ s.Frame t dst stored bits ∧ s.SameUnits t ∧ post t

/-- The four flags of the PSW in use are CY, OV, S and Z in this order. -/
def State.FlagsAre (t : State) (cy ov sf zf : Prop) : Prop :=
  (t.cy = true ↔ cy) ∧ (t.ov = true ↔ ov) ∧ (t.sf = true ↔ sf) ∧ (t.zf = true ↔ zf)

/-- An exact integer result outside the signed 32-bit range. -/
def overflows (x : Int) : Prop := x < -2 ^ 31 ∨ 2 ^ 31 ≤ x

/-- The instruction completes, writes `v` to one register, and no flag. -/
def Writes (i : Instr) (s : State) (len : Nat) (dst : Reg) (v : Word) : Prop :=
  Completes i s len (only dst) noByte 0 fun t => t.Holds dst v

/-- 40_arith_logic.md R350: the instruction completes with the sum of `a`, `b` and the carry-in `c`, and its four flags. -/
def GivesSum (i : Instr) (s : State) (len : Nat) (dst : Reg) (a b : Word) (c : Nat) : Prop :=
  Completes i s len (only dst) noByte 0xF fun t =>
    let r := BitVec.ofNat 32 (a.toNat + b.toNat + c)
    t.Holds dst r ∧ t.FlagsAre (2 ^ 32 ≤ a.toNat + b.toNat + c) (overflows (a.toInt + b.toInt + c)) (r.toInt < 0) (r = 0)

/-- 40_arith_logic.md R351: the instruction completes with the difference of `a`, `b` and the borrow-in `c`, and its four flags. -/
def GivesDifference (i : Instr) (s : State) (len : Nat) (dst : Reg) (a b : Word) (c : Nat) : Prop :=
  Completes i s len (only dst) noByte 0xF fun t =>
    let r := BitVec.ofInt 32 ((a.toNat : Int) - b.toNat - c)
    t.Holds dst r ∧ t.FlagsAre (a.toNat < b.toNat + c) (overflows (a.toInt - b.toInt - c)) (r.toInt < 0) (r = 0)

/-- 40_arith_logic.md R352: the instruction completes with `r`, OV = 0, S and Z of `r`; CY and SAT are kept. -/
def GivesLogical (i : Instr) (s : State) (len : Nat) (dst : Reg) (r : Word) : Prop :=
  Completes i s len (only dst) noByte 0x7 fun t =>
    t.Holds dst r ∧ t.ov = false ∧ (t.sf = true ↔ r.toInt < 0) ∧ (t.zf = true ↔ r = 0)

/-- 40_arith_logic.md R353: an exact integer brought into the signed 32-bit range. -/
def saturate (x : Int) : Word := BitVec.ofInt 32 (max (-2 ^ 31) (min x (2 ^ 31 - 1)))

/-- 40_arith_logic.md R371, R372: the instruction completes with the saturated exact result `x`, CY as given, OV where `x` is out of
range, S and Z of what is stored; SAT is set by OV and otherwise kept. -/
def GivesSaturated (i : Instr) (s : State) (len : Nat) (dst : Reg) (x : Int) (cy : Prop) : Prop :=
  Completes i s len (only dst) noByte 0x1F fun t =>
    t.Holds dst (saturate x) ∧ t.FlagsAre cy (overflows x) ((saturate x).toInt < 0) (saturate x = 0) ∧
      (t.sat = true ↔ s.sat = true ∨ overflows x)

/-- The instruction completes with `r` in one register and the four flags given. -/
def GivesFlags (i : Instr) (s : State) (len : Nat) (dst : Reg) (r : Word) (cy ov sf zf : Prop) : Prop :=
  Completes i s len (only dst) noByte 0xF fun t => t.Holds dst r ∧ t.FlagsAre cy ov sf zf

/-- The instruction branches: it answers a next state at `target` (bit 0 cleared), differing from `s` only in the registers `dst` and
the PSW bits `bits`, and satisfying `post`. -/
def BranchesTo (i : Instr) (s : State) (target : Word) (dst : Reg → Prop) (bits : Word) (post : State → Prop) : Prop :=
  ∃ t, exec i s = .next t ∧ t.pc = evenPc target ∧ s.Frame t dst noByte bits ∧ s.SameUnits t ∧ post t

/-! ## Memory access -/

/-- 20_memory.md R204: the `n` bytes at `a` are ordinary memory: none of them lies in a device region or is reserved. -/
abbrev State.Ordinary (s : State) (a : Word) (n : Nat) : Prop := ∀ r ∈ s.prod.memmap, r.holds a n = false

/-- 20_memory.md R204, 21_mpu.md R262: an access of `n` bytes at `a` in the directions `ks` with the privilege `user` is permitted by the
MPU in the mode in use, and is to ordinary memory. -/
def State.Permits (s : State) (a : Word) (n : Nat) (ks : List AccessKind) (user : Bool) : Prop :=
  s.mpuViolation s.mode a.toNat (a.toNat + n - 1) ks user = none ∧ s.Ordinary a n

/-- 20_memory.md R205: the access is aligned, and permitted with the privilege in use. -/
def State.MayAccess (s : State) (a : Word) (n : Nat) (ks : List AccessKind) : Prop :=
  misaligned a n = false ∧ s.Permits a n ks s.um

/-- 21_mpu.md R252, 20_memory.md R204: the MPU is disabled in both contexts, and all memory is ordinary. -/
def State.Unprotected (s : State) : Prop :=
  s.host.mpe = false ∧ s.guest.mpe = false ∧ s.guest.gmpe = false ∧ s.prod.memmap = []

/-- The address of word `k` of a block at `a` (44_system.md R542: the two low bits are taken as 0). -/
def blockAddress (a : Word) (k : Nat) : Word := (a + BitVec.ofNat 32 (4 * k)) &&& 0xFFFFFFFC

/-- The bytes of the `n` words of a block at `a`. -/
def blockBytes (a : Word) (n : Nat) (b : Word) : Prop := ∃ k, k < n ∧ storedBytes (blockAddress a k) 4 b

/-- Every word of a block of `n` words at `a` is permitted. -/
def State.PermitsBlock (s : State) (a : Word) (n : Nat) (k : AccessKind) : Prop :=
  ∀ j, j < n → s.Permits (blockAddress a j) 4 [k] s.um

/-- 42_load_store.md R450: what a load of a size puts into a register: sign-extended, or zero-extended if `u`. -/
def State.Loaded (s : State) (a : Word) (z : Size) (u : Bool) : Word :=
  match z, u with
  | .byte, false => (s.readByte a).signExtend 32
  | .byte, true => (s.readByte a).setWidth 32
  | .half, false => (s.readHalf a).signExtend 32
  | .half, true => (s.readHalf a).setWidth 32
  | .word, _ => s.readWord a

/-- 42_load_store.md R450: the low bytes of `v` stand at `a`. -/
def State.Stands (t : State) (a : Word) (z : Size) (v : Word) : Prop :=
  match z with
  | .byte => t.readByte a = v.setWidth 8
  | .half => t.readHalf a = v.setWidth 16
  | .word => t.readWord a = v

/-- An access of an instruction: its address, its size in bytes, its directions. -/
abbrev AccessShape := Word × Nat × List AccessKind

/-- 20_memory.md R204: some byte of an access lies in a region of this kind. -/
def State.Reaches (s : State) (k : RegionKind) (x : AccessShape) : Prop :=
  ∃ g ∈ s.prod.memmap, g.kind = k ∧ ∃ b, storedBytes x.1 x.2.1 b ∧ g.lo ≤ b.toNat ∧ b.toNat ≤ g.hi

/-- 20_memory.md R202: `tag` is what an access made in mode `m` carries: the SPID of that context, and PSWH.GPID in guest mode alone. -/
def State.Tags (s : State) (m : Mode) (tag : AccessTag) : Prop :=
  tag.spid.toNat = (s.ctx m).spid.toNat % 32 ∧
    (∀ g, tag.gpid = some g ↔ m = .guest ∧ g.toNat = s.sys.pswh.toNat / 2 ^ 8 % 8)

/-- 20_memory.md R202, R204: the report of an access made in mode `m` by what ends in `t`, one event for each direction if the access
reaches a device region, with the tag of that mode: a write is reported with its bytes (notes/assumptions/21.md). -/
def State.Reports (s t : State) (m : Mode) (x : AccessShape) (es : List Event) : Prop :=
  (s.Reaches .device x → ∃ tag, s.Tags m tag ∧ es = x.2.2.map fun
    | .write => Event.deviceWrite tag x.1 ((List.range x.2.1).map fun k => t.readByte (x.1 + BitVec.ofNat 32 k))
    | _ => .deviceRead tag x.1 x.2.1) ∧
  (¬ s.Reaches .device x → es = [])

/-- 20_memory.md R204: the accesses `xs`, none of which reaches a reserved address, are performed in order: the instruction ends as it
does where all memory is ordinary, with the reports of the accesses ahead of its own. -/
def MakesAccesses (i : Instr) (s : State) (xs : List AccessShape) : Prop :=
  (∀ x ∈ xs, ¬ s.Reaches .reserved x) →
    ∃ (t : State) (es : List (List Event)), exec i { s with prod := { s.prod with memmap := [] } } = .next t ∧
      List.Forall₂ (s.Reports t s.mode) xs es ∧ exec i s = .next { t with prod := s.prod, out := es.flatten ++ t.out }

/-- 21_mpu.md R262: the match predicate that the rule states: entry `e` allows an access to the bytes `lo` to `hi`. -/
def State.EntryAllows (s : State) (e : MpuEntry) (lo hi : Nat) (k : AccessKind) (user : Bool) (spid : Nat) : Prop :=
  e.mpat.getLsbD 7 = true ∧ e.mpla.toNat ≤ lo ∧ hi ≤ (e.mpua ||| 3).toNat ∧
    (match k, user with
      | .exec, false => e.mpat.getLsbD 5 | .write, false => e.mpat.getLsbD 4 | .read, false => e.mpat.getLsbD 3
      | .exec, true => e.mpat.getLsbD 2 | .write, true => e.mpat.getLsbD 1 | .read, true => e.mpat.getLsbD 0) = true ∧
    (e.mpat.getLsbD (if k = .write then 15 else 14) = true ∨
      ∃ j : Fin 8, e.mpat.getLsbD ((if k = .write then 24 else 16) + j) = true ∧ (s.mpu.mpid[j]).toNat % 32 = spid)

/-- 21_mpu.md R258, R262: some entry of the selected bank, among those numbered by `sel`, allows the access. -/
def State.SomeEntryAllows (s : State) (sel : Nat → Prop) (lo hi : Nat) (k : AccessKind) (user : Bool) (spid : Nat) : Prop :=
  ∃ n, ∃ h : n < 32, sel n ∧ s.EntryAllows s.mpu.bank[n] lo hi k user spid

/-- 21_mpu.md R251: MPCFG.HBE (bits 13-8), the number of the first host management entry. -/
def State.FirstHostEntry (s : State) : Nat := s.mpu.mpcfg.toNat / 2 ^ 8 % 64

/-- 60_exceptions.md R822: the contents of MEI from the columns of the table, for an access of `n` bytes. -/
def meiRow (len : Nat) (r : Reg) (n : Nat) (u : Bool) (itype : Nat) (rw : Nat) : Word :=
  BitVec.ofNat 32 (len * 2 ^ 28 + r.toNat * 2 ^ 16 + Nat.log2 n * 2 ^ 9 + u.toNat * 2 ^ 8 + itype * 2 + rw)

/-- 21_mpu.md R275: the cause code of an operand MDP at `a`: the layer, MS (24), BL (23), RMW (22), and the denied directions (20, 19 in
supervisor mode, 17, 16 in user mode). -/
def State.MdpWord (s : State) (l : Layer) (a : Word) (n : Nat) (ks : List AccessKind) (user block : Bool) : Word :=
  let denies (k : AccessKind) : Prop := k ∈ ks ∧ s.layerDenies s.mode l a.toNat (a.toNat + n - 1) k user = true
  let bit (b : Nat) (p : Prop) [Decidable p] : Word := if p then BitVec.twoPow 32 b else 0
  (if l = .guest then 0x91 else 0x99) ||| bit 24 (n = 8 ∧ a.getLsbD 2 = true) ||| bit 23 (block = true) ||| bit 22 (ks.length = 2) |||
    bit (if user then 17 else 20) (denies .write) ||| bit (if user then 16 else 19) (denies .read)

/-! ## Fetch -/

/-- 30_encoding.md R317: the number of the coprocessor in whose opcode area an encoding lies. Format 1 has 111111 in bits 10-5, 1 in
bit 26 and 0 in bit 16; its bits 25-23 and 22-21 select the coprocessor. Format 2 has 00000111101 in bits 15-5 and 11101 in bits 20-16.
The two formats are the spec's inference from the opcode rows. -/
def coprocessorOf (w : Nat) : Option Nat :=
  let bits (lo width : Nat) : Nat := w / 2 ^ lo % 2 ^ width
  if bits 5 6 = 0b111111 ∧ bits 26 1 = 1 ∧ bits 16 1 = 0 then
    match bits 23 3, bits 21 2 with
    | 0b000, _ => some 0
    | 0b001, 0b10 => some 1
    | 0b001, _ => some 0
    | 0b011, _ => some 1
    | _, _ => some 2
  else if bits 5 11 = 0b00000111101 ∧ bits 16 5 = 0b11101 then some 1
  else none

/-- 21_mpu.md R262, R264 (d): the layer that denies the fetch of the halfword `n` at pc. -/
def State.HalfwordDenied (s : State) (n : Nat) : Option Layer :=
  let a := (s.pc + BitVec.ofNat 32 (2 * n)).toNat
  s.mpuViolation s.mode a (a + 1) [.exec] s.um

/-! ## Exceptions -/

/-- 60_exceptions.md R807: the base address of the direct vectors of a mode. -/
def State.HandlerBase (s : State) (hm : Mode) : Word :=
  (match hm with
    | .host => if s.host.psw.getLsbD 15 then s.host.ebase else s.prod.rbase
    | .guest => s.guest.ebase) &&& 0xFFFFFE00

/-- 60_exceptions.md R804, R805: the PSW of the handler: UM (30) 0, ID (5) 1, EP (6) as given, NP (7) 1 at FE level; the rest is
kept. -/
def HandlerPsw (before after : Word) (l : Level) (epBit : Bool) : Prop :=
  ∀ i, i < 32 → after.getLsbD i =
    if i = 30 then false else if i = 5 then true else if i = 6 then epBit
    else if i = 7 ∧ l = .fe then true else before.getLsbD i

/-- 21_mpu.md R263: the mode that handles a violation of a layer: host mode, but guest mode for one that a guest causes, unless
GMCFG.GMP (bit 0, guest layer) or GMCFG.HMP (bit 1, host layer) is set. -/
def State.ViolationMode (s : State) (l : Layer) : Mode :=
  if s.mode = .guest ∧ s.sys.gmcfg.getLsbD (if l = .guest then 0 else 1) = false then .guest else .host

/-- 60_exceptions.md R804, R805: the registers an entry of a level saves into. -/
def Level.saves : Level → CtxReg → Prop
  | .ei => fun r => r = .eipc ∨ r = .eipsw ∨ r = .eiic
  | .fe => fun r => r = .fepc ∨ r = .fepsw ∨ r = .feic

/-- 60_exceptions.md R804, R805: those registers hold the return pc, the PSW and the cause. -/
def Ctx.Saved (c : Ctx) : Level → Word → Word → Word → Prop
  | .ei, retpc, psw, cause => c.eipc = retpc ∧ c.eipsw = psw ∧ c.eiic = cause
  | .fe, retpc, psw, cause => c.fepc = retpc ∧ c.fepsw = psw ∧ c.feic = cause

/-- 60_exceptions.md R804, R805: PSWH saved by level, and GM (bit 31) cleared. -/
def SysRegs.enterHost (y : SysRegs) : Level → SysRegs
  | .ei => { y with eipswh := y.pswh, pswh := y.pswh &&& 0x7FFFFFFF }
  | .fe => { y with fepswh := y.pswh, pswh := y.pswh &&& 0x7FFFFFFF }

/-- 60_exceptions.md R804, R805: `t` is `s` after the entry of an exception of level `l` handled in mode `hm`: return pc, PSW and cause
are saved there; in host mode on a core with HVE = 1, PSWH is saved by level and GM cleared; the link is lost; and nothing else
changes, but for the registers `also` of the handling context. -/
structure State.Enters (s t : State) (l : Level) (cause retpc handler : Word) (hm : Mode) (epBit : Bool)
    (also : CtxReg → Prop) : Prop where
  pc : t.pc = evenPc handler
  saved : (t.ctx hm).Saved l retpc (s.ctx hm).psw cause
  psw : HandlerPsw (s.ctx hm).psw (t.ctx hm).psw l epBit
  kept : ∀ r, ¬ also r → r ≠ .psw → ¬ l.saves r → (t.ctx hm).get r = (s.ctx hm).get r
  other : ∀ m, m ≠ hm → t.ctx m = s.ctx m
  system : t.sys = if hm = .host ∧ s.hve = true then s.sys.enterHost l else s.sys
  regs : ∀ r, t.reg r = s.reg r
  vectors : t.wr = s.wr
  bytes : ∀ a, t.readByte a = s.readByte a
  link : t.link.bit = false
  rest : t.mpu = s.mpu ∧ t.cnt = s.cnt ∧ t.halt = s.halt ∧ t.prod = s.prod ∧ t.inputs = s.inputs

/-- The instruction takes an exception: its own effect, or where the form traps. -/
def Takes (i : Instr) (s : State) (l : Level) (cause retpc offset : Word) (hm : Mode) (also : CtxReg → Prop) : Prop :=
  ∃ t, exec i s = .next t ∧ s.Enters t l cause retpc (s.HandlerBase hm + offset) hm true also

/-- No register of the handling context besides those of every entry; MEA and MEI as well. -/
def noCtxReg : CtxReg → Prop := fun _ => False
@[inherit_doc noCtxReg]
def errorAddress : CtxReg → Prop := fun r => r = .mea ∨ r = .mei

/-- 60_exceptions.md R814 (b), 21_mpu.md R263, R265, R275: from `u`, the state that it has reached, the instruction raises the operand
MDP of a layer: the address of the access goes to MEA and its description to MEI, in the mode that GMCFG selects. -/
def RaisesMdp (i : Instr) (s u : State) (l : Layer) (a : Word) (n : Nat) (ks : List AccessKind) (user block : Bool) (mei : Word) :
    Prop :=
  let hm := u.ViolationMode l
  ∃ t, exec i s = .next t ∧ (t.ctx hm).mea = a ∧ (t.ctx hm).mei = mei ∧
    u.Enters t .fe (u.MdpWord l a n ks user block) s.pc (u.HandlerBase hm + 0x90) hm true errorAddress

/-- 60_exceptions.md R815: the mode that handles a SYSERR: host mode, but guest mode for one that occurs in guest mode, unless
GMCFG.GSYSE (bit 4) is set. -/
def State.SyserrMode (s : State) (m : Mode) : Mode := if m = .guest ∧ s.sys.gmcfg.getLsbD 4 = false then .guest else .host

/-- 20_memory.md R204, 93_implementation_defined.md U2: from `u`, the state that it has reached, the instruction raises the SYSERR of an
access to a reserved address, with the cause code of the product (notes/assumptions/21.md). -/
def RaisesReserved (i : Instr) (s u : State) : Prop :=
  let hm := u.SyserrMode u.mode
  ∃ t, exec i s = .next t ∧ u.Enters t .fe s.prod.causeReserved s.pc (u.HandlerBase hm + 0x10) hm true noCtxReg

/-- 20_memory.md R204: the one access `x` raises SYSERR at a reserved address, and is performed elsewhere. -/
def MakesAccess (i : Instr) (s : State) (x : AccessShape) : Prop :=
  (s.Reaches .reserved x → RaisesReserved i s s) ∧ MakesAccesses i s [x]

/-- The state after the first `k` words of a transfer, each of which does what `f` says. -/
def after (s : State) (f : Nat → State → State) (k : Nat) : State := (List.range k).foldl (fun t j => f j t) s

/-- Every word of a transfer of `n` words is permitted in the state that the words before it have made. -/
def State.PermitsTransfer (s : State) (n : Nat) (place : Nat → Word) (k : AccessKind) (f : Nat → State → State) : Prop :=
  ∀ j, j < n → (after s f j).Permits (place j) 4 [k] s.um

/-- 60_exceptions.md R806, R814 (b), R815: a transfer of words stops at the first one that the MPU denies or that is reserved, with the
words before it done. -/
def StopsAtWord (i : Instr) (s : State) (n : Nat) (place : Nat → Word) (k : AccessKind) (block : Bool) (mei : Nat → Word)
    (f : Nat → State → State) : Prop :=
  ∀ j, j < n → s.PermitsTransfer j place k f →
    let u := after s f j
    let violation := u.mpuViolation s.mode (place j).toNat ((place j).toNat + 3) [k] s.um
    (∀ l, violation = some l → RaisesMdp i s u l (place j) 4 [k] s.um block (mei j)) ∧
    (violation = none → s.Reaches .reserved (place j, 4, [k]) → RaisesReserved i s u)

/-! ## Interrupts -/

/-- 60_exceptions.md R803, R831: a request is presented, it is meant for the mode and the partition in use, and no mask stands in its way.
A SYSERR has no mask; a terminating one that was detected during guest mode operation does not occur in host mode
(70_reset_and_hazards.md R944). -/
def State.Acknowledgeable (s : State) (a : Accepted) : Prop :=
  let unmasked (c : Ctx) : Prop := c.psw.getLsbD 5 = false ∧ c.psw.getLsbD 7 = false
  let within (c : Ctx) (p : Nat) : Prop := p < c.plmr.toNat % 64
  let above (c : Ctx) (p : Nat) : Prop := p < c.psw.toNat / 2 ^ 20 % 64
  match a with
  | .fenmi => s.env.fenmi = true
  | .fe k q => s.env.fe = some q ∧ match k, q.guest with
    | .feint, none => s.host.psw.getLsbD 7 = false
    | .gmfeint, some g => s.mode = .guest ∧ g = s.gpid ∧ s.guest.psw.getLsbD 7 = false
    | .bgfeint, some g => s.mode = .guest ∧ g ≠ s.gpid ∧ q.background = true ∧ s.guest.psw.getLsbD 7 = false ∧ unmasked s.host
    | _, _ => False
  | .ei k q => s.env.ei = some q ∧
    let p := q.prio.toNat
    let guestOpen : Prop := unmasked s.guest ∧ within s.guest p ∧ above s.guest p
    match k, q.guest with
    | .eiint, none => unmasked s.host ∧ within s.host p ∧
        if s.host.intcfg.getLsbD 1 then above s.host p else ∀ n, n < 16 → n ≤ p → s.sys.ispr.getLsbD n = false
    | .gmeiint, some g => s.mode = .guest ∧ g = s.gpid ∧ guestOpen
    | .bgeiint, some g => s.mode = .guest ∧ g ≠ s.gpid ∧ q.background = true ∧ guestOpen ∧ unmasked s.host
    | _, _ => False
  | .syserr q => s.env.syserr = some q ∧ (q.pending = false → q.guest = true → s.mode = .guest)

/-- 60_exceptions.md R803: the masks of the two contexts for a request of priority `p`, in the order in which they are examined: ISPR or
EIMASK (EIMASK in the guest context), PLMR, ID, NP. -/
def State.HostMask (s : State) (p : Nat) : Nat → Prop
  | 0 => if s.host.intcfg.getLsbD 1 then s.host.psw.toNat / 2 ^ 20 % 64 ≤ p else ∃ n, n < 16 ∧ n ≤ p ∧ s.sys.ispr.getLsbD n = true
  | 1 => s.host.plmr.toNat % 64 ≤ p
  | 2 => s.host.psw.getLsbD 5 = true
  | _ => s.host.psw.getLsbD 7 = true
@[inherit_doc State.HostMask]
def State.GuestMask (s : State) (p : Nat) : Nat → Prop
  | 0 => s.guest.psw.toNat / 2 ^ 20 % 64 ≤ p
  | 1 => s.guest.plmr.toNat % 64 ≤ p
  | 2 => s.guest.psw.getLsbD 5 = true
  | _ => s.guest.psw.getLsbD 7 = true

/-- Mask `k` is the first of the masks from `lo` on that stands. -/
def FirstMask (mask : Nat → Prop) (lo k : Nat) : Prop := lo ≤ k ∧ mask k ∧ ∀ j, lo ≤ j → j < k → ¬ mask j

/-- 11_sysregs.md R111: bit `i` of IMSR is 1, by the requests presented and the masks: EEIM, EPLM, EID, ENP (0 to 3), FNP (4), and, in
guest mode alone, HEEIM, HEPLM, HEID, HENP (8 to 11) and HFNP (12). A request for the host shows its first mask in the group of the
mode; one for the guest its first guest mask; a background request shows the first of ID and NP of the host as well, a BGEIINT only
where neither EIMASK nor PLMR of the guest masks it. -/
def State.ImsrBit (s : State) (i : Nat) : Prop :=
  let bound (guest : Option (BitVec 3)) : Prop := s.mode = .guest ∧ guest = some s.gpid
  let behind (guest : Option (BitVec 3)) (background : Bool) : Prop :=
    s.mode = .guest ∧ guest ≠ none ∧ guest ≠ some s.gpid ∧ background = true
  let ei (shows : EiRequest → Nat → Prop) : Prop := ∃ q, s.env.ei = some q ∧ shows q q.prio.toNat
  let fe (shows : FeRequest → Prop) : Prop := ∃ q, s.env.fe = some q ∧ shows q
  if i < 4 then ei fun q p =>
    (q.guest = none ∧ s.mode = .host ∧ FirstMask (s.HostMask p) 0 i) ∨
      ((bound q.guest ∨ behind q.guest q.background) ∧ FirstMask (s.GuestMask p) 0 i)
  else if i = 4 then fe fun q =>
    (q.guest = none ∧ s.mode = .host ∧ s.host.psw.getLsbD 7 = true) ∨
      ((bound q.guest ∨ behind q.guest q.background) ∧ s.guest.psw.getLsbD 7 = true)
  else if 8 ≤ i ∧ i < 12 then
    (ei fun q p =>
      (q.guest = none ∧ s.mode = .guest ∧ FirstMask (s.HostMask p) 0 (i - 8)) ∨
        (behind q.guest q.background ∧ ¬ s.GuestMask p 0 ∧ ¬ s.GuestMask p 1 ∧ FirstMask (s.HostMask p) 2 (i - 8))) ∨
    fe fun q => behind q.guest q.background ∧ FirstMask (s.HostMask 0) 2 (i - 8)
  else i = 12 ∧ fe fun q => q.guest = none ∧ s.mode = .guest ∧ s.host.psw.getLsbD 7 = true

/-- 60_exceptions.md R802: the order of the requests, a smaller number first; the places of a SYSERR are the model's choice
(notes/assumptions/50.md). -/
def Accepted.place : Accepted → Nat
  | .fenmi => 0
  | .fe .feint _ => 1
  | .ei .eiint _ => 2
  | .fe .bgfeint _ => 3
  | .ei .bgeiint _ => 4
  | .fe _ _ => 5
  | .syserr q => if q.pending then 8 else 6
  | .ei _ _ => 7

/-- 60_exceptions.md R807: the base register of the vectors of a mode, whose bit 1 is DV and bit 0 RINT. -/
def State.VectorReg (s : State) : Mode → Word
  | .host => if s.host.psw.getLsbD 15 then s.host.ebase else s.prod.rbase
  | .guest => s.guest.ebase

/-- 60_exceptions.md R807, R825: the handler of an EIINT or GMEIINT by the direct vector method. -/
def State.DirectVector (s : State) (hm : Mode) (q : EiRequest) : Word :=
  s.HandlerBase hm + if (s.VectorReg hm).getLsbD 0 then 0x100 else 0x100 + 0x10 * BitVec.ofNat 32 (min q.prio.toNat 15)

/-- 61_virtualization.md R905: the address of word `j` of the bank that the next save fills, from its top downward. -/
def State.BankPlace (s : State) (j : Nat) : Word :=
  s.sys.rbip - BitVec.ofNat 32 (s.sys.rbnr.toNat % 64 * if s.sys.rbcr0.getLsbD 16 then 0x90 else 0x60) - BitVec.ofNat 32 (4 * (j + 1))

/-- 60_exceptions.md R821, R823, 61_virtualization.md R905: `t` is `s` after the acceptance of an EIINT (`hm` host) or GMEIINT (`hm`
guest): an EI level entry with the channel in its cause; the priority goes to EIMASK in guest mode and with EPL = 1, else to ISPR (0
to 15, unless ISPC is set); with a register bank (`saved`), RBNR counts up, PSW.ID is the NC bit of the priority, and memory holds
the bank; the request is withdrawn. -/
def State.EntersEi (s t : State) (q : EiRequest) (hm : Mode) (saved : Bool) (handler : Word) : Prop :=
  let p := q.prio.toNat
  let epl : Bool := hm == .guest || s.host.intcfg.getLsbD 1
  ∃ u, s.Enters u .ei (s.prod.causeEiint + q.channel.setWidth 32) s.pc handler hm false noCtxReg ∧
    t.pc = u.pc ∧ (∀ r, r ≠ .psw → (t.ctx hm).get r = (u.ctx hm).get r) ∧
    (∀ i, i < 32 → (t.ctx hm).psw.getLsbD i =
      if epl = true ∧ 20 ≤ i ∧ i < 26 then q.prio.getLsbD (i - 20)
      else if saved = true ∧ i = 5 then s.sys.rbcr1.getLsbD (min p 15)
      else (u.ctx hm).psw.getLsbD i) ∧
    (∀ m, m ≠ hm → t.ctx m = u.ctx m) ∧ t.sys = { u.sys with ispr := t.sys.ispr, rbnr := t.sys.rbnr } ∧
    (∀ n, n < 32 → (t.sys.ispr.getLsbD n = true ↔
      s.sys.ispr.getLsbD n = true ∨ (epl = false ∧ s.host.intcfg.getLsbD 0 = false ∧ n = p ∧ p < 16))) ∧
    t.sys.rbnr = (if saved then BitVec.ofNat 32 (s.sys.rbnr.toNat % 64 + 1) else s.sys.rbnr) ∧
    (saved = false → t.mem = u.mem) ∧ t.gpr = u.gpr ∧ t.wr = u.wr ∧ t.mpu = u.mpu ∧ t.link = u.link ∧
    t.env = { s.env with ei := none }

/-- 60_exceptions.md R814 (c), R815: what the entry of an EIINT or GMEIINT that is cancelled leaves: the registers it saves first. -/
def State.EntryBegun (s : State) (hm : Mode) : State :=
  let t := s.setCtx hm { s.ctx hm with eipc := s.pc, eipsw := (s.ctx hm).psw }
  if hm = .host ∧ s.hve = true then { t with sys := { t.sys with eipswh := t.sys.pswh } } else t

/-- 60_exceptions.md R814 (c), 21_mpu.md R266, R275: the entry of a request, having reached `u`, is cancelled by the MDP of the entry
hardware for the word at `a`: the request stays, and the exception returns to the instruction that was interrupted. -/
def State.CancelsWithMdp (s u : State) (k : IntKind) (q : EiRequest) (hm : Mode) (l : Layer) (a mei : Word) (bit : Nat) : Prop :=
  let h := if hm = .guest ∧ s.sys.gmcfg.getLsbD (if l = .guest then 0 else 1) = false then Mode.guest else .host
  ∃ t, s.accept (.ei k q) = .next t ∧ (t.ctx h).mea = a ∧ (t.ctx h).mei = mei ∧ t.env = s.env ∧
    u.Enters t .fe ((if l = .guest then 0x95 else 0x9D) ||| BitVec.twoPow 32 bit) s.pc (s.HandlerBase h + 0x90) h true errorAddress

/-- 60_exceptions.md R815: the entry of a request, having reached `u`, is cancelled by a SYSERR: the request stays, and the exception
returns to the instruction that was interrupted. -/
def State.CancelsWithSyserr (s u : State) (k : IntKind) (q : EiRequest) (hm : Mode) (cause : Word) : Prop :=
  let h := s.SyserrMode hm
  ∃ t, s.accept (.ei k q) = .next t ∧ t.env = s.env ∧
    u.Enters t .fe cause s.pc (s.HandlerBase h + 0x10) h true noCtxReg

/-! ## Performance counters -/

/-- 11_sysregs.md R155: how often (`n`) the event that PMCTRLn (`ctrl`) selects happens in a step from `s` to `u`, which runs an
instruction if `ran`. Whether an instruction counts for 10H and 18H that a resumable exception stops without a transition from
guest to host mode is not said (notes/assumptions/12.md); the events not listed count any number (92_eei_decisions.md D8). -/
def State.Counts (s u : State) (ran : Bool) (ctrl : Word) (n : Nat) : Prop :=
  let on : Mode → Bool
    | .host => !s.hve || ctrl.getLsbD 24
    | .guest => s.hve && ctrl.getLsbD (16 + s.gpid.toNat)
  let once (taken : Prop) : Prop :=
    n ≤ 1 ∧ (ran = false ∨ on s.mode = false ∨ ¬ taken → n = 0) ∧
      (ran = true → on s.mode = true → taken → u.completed = true ∨ (s.mode = .guest ∧ u.mode = .host) → n = 1)
  let events (p : Event → Bool) : Prop := n = (u.out.filter p).length
  match ctrl.toNat / 2 ^ 8 % 2 ^ 8 with
  | 0x10 => once True
  | 0x18 => once (u.pc ≠ s.pc + BitVec.ofNat 32 s.fetchLength ∨
      ∃ i k rest, decodeBytes s.prod.enc s.fetchBytes = .instr i k rest ∧ branches i s = true)
  | 0x20 => events fun e => (e == .accepted .eiint && on .host) || (e == .accepted .gmeiint && on .guest)
  | 0x21 => events fun e => (e == .accepted .feint && on .host) || (e == .accepted .gmfeint && on .guest)
  | 0x22 => events fun e =>
      (e ∈ [.accepted .fenmi, .accepted .feint, .accepted .eiint, .accepted .bgfeint, .accepted .bgeiint, .terminating .host] &&
        on .host) || (e ∈ [.accepted .gmfeint, .accepted .gmeiint, .terminating .guest] && on .guest)
  | 0x23 => events fun e =>
      (e ∈ [.resumable .host, .pending .host] && on .host) || (e ∈ [.resumable .guest, .pending .guest] && on .guest)
  | 0x24 => events fun e => e ∈ [.accepted .bgfeint, .accepted .bgeiint] && on .guest
  | _ => True

/-! ## Floating point: values -/

/-- 46_fpu.md R582: the number a finite pattern stands for; 0 for an infinity or a NaN. -/
def Fp.value : Fp → ℚ
  | .num neg man exp _ => (if neg then -1 else 1) * man * 2 ^ exp
  | _ => 0

/-- 46_fpu.md R582: neither an infinity nor a NaN. -/
def Fp.finite : Fp → Prop
  | .nan _ => False
  | .inf _ => False
  | _ => True

/-- 46_fpu.md R583: `r` is `v` rounded in mode `m` to a set of numbers. -/
def RoundedTo {K : Type} [Field K] [LinearOrder K] (m : RMode) (grid : K → Prop) (v r : K) : Prop :=
  grid r ∧ match m with
    | .nearest => ∀ y, grid y → |r - v| ≤ |y - v|
    | .zero => |r| ≤ |v| ∧ 0 ≤ r * v ∧ ∀ y, grid y → |y| ≤ |v| → 0 ≤ y * v → |y| ≤ |r|
    | .pos => v ≤ r ∧ ∀ y, grid y → v ≤ y → r ≤ y
    | .neg => r ≤ v ∧ ∀ y, grid y → y ≤ v → y ≤ r

/-- 46_fpu.md R582: the finite numbers of a format, rational and as reals. -/
def Fmt.grid (f : Fmt) (q : ℚ) : Prop := ∃ z, (decodeFp f z).finite ∧ q = (decodeFp f z).value
@[inherit_doc Fmt.grid]
def Fmt.realGrid (f : Fmt) (x : ℝ) : Prop := ∃ q, f.grid q ∧ x = q

/-- 46_fpu.md R582, R586: a nonzero number of the range of the normal numbers. -/
def Fmt.InRange (f : Fmt) (v : ℚ) : Prop :=
  (decodeFp f (minFp f false)).value ≤ |v| ∧ |v| ≤ (decodeFp f (maxFp f false)).value

/-- 46_fpu.md R583, R586: the result `r` of an operation whose exact value is `v`: correctly rounded, to even between two nearest; I is
detected where it is not exact, and nothing else. -/
def FpRes.Rounds (r : FpRes) (f : Fmt) (m : RMode) (v : ℚ) : Prop :=
  (decodeFp f r.val).finite ∧ RoundedTo m f.grid v (decodeFp f r.val).value ∧
    (m = .nearest → (∃ y, f.grid y ∧ y ≠ (decodeFp f r.val).value ∧ |y - v| = |(decodeFp f r.val).value - v|) →
      r.val.getLsbD 0 = false) ∧
    r.det = (if (decodeFp f r.val).value = v then 0 else detI) ∧ r.flushed = false

/-- 46_fpu.md R584, R586: the result `r` of an operation whose exact value `v` is above the largest finite number: an overflow with the
default result of the mode, or the largest number where the mode rounds to it. -/
def FpRes.Overflows (r : FpRes) (f : Fmt) (m : RMode) (v : ℚ) : Prop :=
  let most := (decodeFp f (maxFp f false)).value
  let neg := decide (v < 0)
  let away : Bool := match m with
    | .nearest => true
    | .zero => false
    | .pos => !neg
    | .neg => neg
  let exceeds : Prop := (2 : ℚ) ^ (f.bias + 1) ≤ |v| ∨ (away = true ∧ (m = .nearest → most + 2 ^ (f.bias + 1) ≤ 2 * |v|))
  most < |v| →
    (exceeds → r = ⟨detO ||| detI, if away then infFp f neg else maxFp f neg, false⟩) ∧ (¬ exceeds → r = ⟨detI, maxFp f neg, false⟩)

/-- 46_fpu.md R585: the result `r` of an operation whose exact nonzero value `v` is below the smallest normal number: E, or U if XE.U (bit
6) is 1, where FS (bit 17) is 0; else U and I with zero or the smallest normal number, by the mode and FN (bit 23). -/
def FpRes.Underflows (r : FpRes) (f : Fmt) (w : Word) (v : ℚ) : Prop :=
  let least := (decodeFp f (minFp f false)).value
  let neg := decide (v < 0)
  v ≠ 0 → |v| < least →
    (w.getLsbD 17 = false → r.det = if w.getLsbD 6 then detU else detE) ∧
    (w.getLsbD 17 = true → r.det = detU ||| detI ∧ r.flushed = false ∧
      r.val = match fpRm w with
        | .nearest => if w.getLsbD 23 = true ∧ least ≤ 2 * |v| then minFp f neg else zeroFp f neg
        | .zero => zeroFp f neg
        | .pos => if neg then zeroFp f true else minFp f false
        | .neg => if neg then minFp f true else zeroFp f false)

/-- 46_fpu.md R583 to R586: the result of an operation whose exact value is `v`, in every range. -/
def FpRes.Exactly (r : FpRes) (f : Fmt) (w : Word) (v : ℚ) : Prop :=
  (f.InRange v → r.Rounds f (fpRm w) v) ∧ r.Overflows f (fpRm w) v ∧ r.Underflows f w v

/-- A finite number that is not subnormal. -/
def Fp.Normal (x : Fp) : Prop := x.finite ∧ x.isSubnormal = false

/-- The sign bit of a pattern. -/
def signBit (f : Fmt) (v : DWord) : Bool := v.getLsbD (f.frac + f.ebits)

/-- 46_fpu.md R585: a pattern with a subnormal number replaced by the zero of its sign. -/
def flushedFp (f : Fmt) (v : DWord) : DWord := if (decodeFp f v).isSubnormal then zeroFp f (signBit f v) else v

/-! ## Floating point: instructions -/

/-- 46_fpu.md R584, 48_fxu.md R705: the status word after an operation that detected `d` and is not trapped: XC (15-10) is `d`, XP
(4-0) accumulates, IF (22) is set if a source was flushed; the rest is kept. -/
def StatusAfter (before after : Word) (d : FpDet) (flushed : Bool) : Prop :=
  ∀ i, i < 32 → after.getLsbD i =
    if 10 ≤ i ∧ i < 16 then d.getLsbD (i - 10)
    else if i < 5 then before.getLsbD i || d.getLsbD i
    else if i = 22 then before.getLsbD i || flushed
    else before.getLsbD i

/-- 46_fpu.md R584: the status word after a trapped operation: XC and IF, XP is kept. -/
def StatusTrapped (before after : Word) (d : FpDet) (flushed : Bool) : Prop :=
  ∀ i, i < 32 → after.getLsbD i =
    if 10 ≤ i ∧ i < 16 then d.getLsbD (i - 10)
    else if i = 22 then before.getLsbD i || flushed
    else before.getLsbD i

/-- 46_fpu.md R584: the exception of a detected set is taken: E always, another condition if its enable bit (9-5) is 1. -/
def Trapped (status : Word) (d : FpDet) : Prop :=
  d.getLsbD 5 = true ∨ ∃ i, i < 5 ∧ d.getLsbD i = true ∧ status.getLsbD (i + 5) = true

/-- 46_fpu.md R581: the registers of an operand, and what they hold. -/
def FpOperand.has : FpOperand → Reg → Prop
  | .one r => fun k => k = r
  | .pair p => fun k => k = RegPair.even p ∨ k = RegPair.odd p
@[inherit_doc FpOperand.has]
def State.HoldsFp (t : State) : FpOperand → DWord → Prop
  | .one r, v => t.Holds r (v.setWidth 32)
  | .pair p, v => t.Holds (RegPair.even p) (v.setWidth 32) ∧ t.Holds (RegPair.odd p) (v.extractLsb' 32 32)

/-- The instruction completes as an FPU instruction that touches FPSR only as `status` says, and writes `v` to `dst`. -/
def FpuCompletes (i : Instr) (s : State) (dst : FpOperand) (v : DWord) (status : Word → Word → Prop) : Prop :=
  ∃ t, exec i s = .next t ∧ s.NextAfter t 4 ∧ s.Frame t dst.has noByte 0 ∧ t.wr = s.wr ∧ t.link = s.link ∧ t.halt = s.halt ∧
    t.sys = { s.sys with fpsr := t.sys.fpsr } ∧ status s.sys.fpsr t.sys.fpsr ∧ t.HoldsFp dst v

/-- 46_fpu.md R580, R584: with CU0 = 1 (PSW bit 16) and no detected condition trapped, the instruction writes its result `r` and
records what was detected. -/
def FpuGives (i : Instr) (s : State) (dst : FpOperand) (r : FpRes) : Prop :=
  s.psw.getLsbD 16 = true → ¬ Trapped s.sys.fpsr r.det →
    FpuCompletes i s dst r.val fun before after => StatusAfter before after r.det r.flushed

/-- 46_fpu.md R580: an FPU instruction that raises no floating-point exception: FPSR is kept. -/
def FpuMoves (i : Instr) (s : State) (dst : FpOperand) (v : DWord) : Prop :=
  s.psw.getLsbD 16 = true → FpuCompletes i s dst v fun before after => after = before

/-- 60_exceptions.md R816, 46_fpu.md R584: a trapped FPU instruction with result `r`: XC and IF are recorded, FPEPC takes the address
of the instruction, FPE (cause 71H, offset 70H) is taken, no register is written. -/
def FpuTraps (i : Instr) (s : State) (r : FpRes) : Prop :=
  s.psw.getLsbD 16 = true → Trapped s.sys.fpsr r.det →
    ∃ t w, exec i s = .next t ∧ StatusTrapped s.sys.fpsr w r.det r.flushed ∧
      State.Enters { s with sys := { s.sys with fpsr := w, fpepc := evenPc s.pc } } t .ei 0x71 s.pc
        (s.HandlerBase s.mode + 0x70) s.mode true noCtxReg

/-- 60_exceptions.md R812: an FPU instruction with CU0 = 0. -/
def FpuUnusable (i : Instr) (s : State) : Prop :=
  s.psw.getLsbD 16 = false → Takes i s .fe 0x80 s.pc 0x80 s.mode noCtxReg

/-- An FPU instruction with result `r`: unusable, trapped, or completing. -/
def FpuDoes (i : Instr) (s : State) (dst : FpOperand) (r : FpRes) : Prop :=
  FpuUnusable i s ∧ FpuTraps i s r ∧ FpuGives i s dst r

/-- 48_fxu.md R700: the instruction completes as an FXU instruction of `len` bytes that moves data only: the word elements `w` (0 to 3)
go to one vector register, everything else is kept. -/
def FxuMoves (i : Instr) (s : State) (len : Nat) (dst : VReg) (w : Nat → Word) : Prop :=
  s.psw.getLsbD 17 = true →
    ∃ t, exec i s = .next t ∧ s.NextAfter t len ∧ s.Frame t noReg noByte 0 ∧ t.sys = s.sys ∧ t.link = s.link ∧ t.halt = s.halt ∧
      (∀ r, r ≠ dst → t.vreg r = s.vreg r) ∧ ∀ k, k < 4 → wordElem (t.vreg dst) k = w k

/-- 48_fxu.md R705: what some element detected, over the elements 0 to 3. -/
def Detected (r : Nat → FpRes) (d : FpDet) : Prop := ∀ i, d.getLsbD i = true ↔ ∃ k, k < 4 ∧ (r k).det.getLsbD i = true

/-- 48_fxu.md R705, R706: with CU1 = 1 (PSW bit 17) and nothing that some element detected trapped, the four results go to one vector
register; FXSR and, by element, FXXC and FXXP (a byte each) record what was detected. -/
def FxuGives (i : Instr) (s : State) (dst : VReg) (r : Nat → FpRes) : Prop :=
  ∀ d, Detected r d → s.psw.getLsbD 17 = true → ¬ Trapped s.sys.fxsr d →
    ∃ t, exec i s = .next t ∧ s.NextAfter t 4 ∧ s.Frame t noReg noByte 0 ∧ t.link = s.link ∧ t.halt = s.halt ∧
      (∀ n, n ≠ dst → t.vreg n = s.vreg n) ∧ (∀ k, k < 4 → wordElem (t.vreg dst) k = (r k).val.setWidth 32) ∧
      t.sys = { s.sys with fxsr := t.sys.fxsr, fxxc := t.sys.fxxc, fxxp := t.sys.fxxp } ∧
      StatusAfter s.sys.fxsr t.sys.fxsr d ((r 0).flushed || (r 1).flushed || (r 2).flushed || (r 3).flushed) ∧
      (∀ k, k < 4 → ∀ i, i < 8 → t.sys.fxxc.getLsbD (8 * k + i) = (r k).det.getLsbD i) ∧
      (∀ k, k < 4 → ∀ i, i < 8 →
        t.sys.fxxp.getLsbD (8 * k + i) = (s.sys.fxxp.getLsbD (8 * k + i) || decide (i < 5) && (r k).det.getLsbD i))

/-- 60_exceptions.md R817, 48_fxu.md R705: a trapped FXU instruction: FXSR (XC, IF) and FXXC record what was detected, FXE (cause 75H,
offset 70H) is taken, no register is written. -/
def FxuTraps (i : Instr) (s : State) (r : Nat → FpRes) : Prop :=
  ∀ d, Detected r d → s.psw.getLsbD 17 = true → Trapped s.sys.fxsr d →
    ∃ t w c, exec i s = .next t ∧
      StatusTrapped s.sys.fxsr w d ((r 0).flushed || (r 1).flushed || (r 2).flushed || (r 3).flushed) ∧
      (∀ k, k < 4 → ∀ i, i < 8 → c.getLsbD (8 * k + i) = (r k).det.getLsbD i) ∧
      State.Enters { s with sys := { s.sys with fxsr := w, fxxc := c } } t .ei 0x75 s.pc
        (s.HandlerBase s.mode + 0x70) s.mode true noCtxReg

/-- 60_exceptions.md R812: an FXU instruction with CU1 = 0. -/
def FxuUnusable (i : Instr) (s : State) : Prop :=
  s.psw.getLsbD 17 = false → Takes i s .fe 0x81 s.pc 0x80 s.mode noCtxReg

/-- An FXU instruction with the element results `r`: unusable, trapped, or completing. -/
def FxuDoes (i : Instr) (s : State) (dst : VReg) (r : Nat → FpRes) : Prop :=
  FxuUnusable i s ∧ FxuTraps i s r ∧ FxuGives i s dst r

/-! ## System registers -/

/-- 10_state.md R26, 11_sysregs.md R73, R128, 61_virtualization.md R890: `w` is what the PSW of a context holds after it takes the value
`v`: UM (30), NP, EP, ID, SAT and the flags (7 to 0) follow it; EIMASK (25 to 20) only with EPL = 1; CU0 (16) and CU1 (17) only where
the FPU and the FXU are present, in the guest context also with GMCFG.GCU0, GCU1; EBV (15) follows it in the host context and is 1 in
the guest's; every other bit is 0. -/
def State.PswTakes (s : State) (m : Mode) (v w : Word) : Prop :=
  let usable (n : Nat) (present : Bool) : Bool := present && (decide (m = .host) || s.sys.gmcfg.getLsbD n)
  ∀ i, i < 32 → w.getLsbD i =
    if i < 8 ∨ i = 30 then v.getLsbD i
    else if i = 15 then decide (m = .guest) || v.getLsbD i
    else if i = 16 then usable i s.prod.hasFpu && v.getLsbD i
    else if i = 17 then usable i s.prod.hasFxu && v.getLsbD i
    else if 20 ≤ i ∧ i < 26 then (s.ctx m).intcfg.getLsbD 1 && v.getLsbD i
    else false

/-- 61_virtualization.md R900: the registers of LDM.GSR and STM.GSR with their numbers in the table. -/
def guestBlock : List (Nat × SReg) :=
  [(1, .fpsr), (2, .fpepc), (3, .ctpc), (4, .ctpsw), (5, .ctbp), (6, .mctl), (7, .sccfg), (8, .scbp), (9, .rbcr0), (10, .rbcr1),
    (11, .rbnr), (12, .rbip), (13, .mca), (14, .mcs), (15, .mcr), (16, .mci), (17, .mpidx), (18, .gm .eipc), (19, .gm .eipsw),
    (20, .gm .fepc), (21, .gm .fepsw), (22, .gm .psw), (23, .gm .mea), (24, .gm .mei), (25, .gm .eiic), (26, .gm .feic),
    (27, .gm .spid), (28, .gm .spidlist), (29, .gm .ebase), (30, .gm .intbp), (31, .gm .intcfg), (32, .gm .plmr),
    (33, .gm .svlock), (34, .gm .mpm), (35, .gm .eiwr), (36, .gm .fewr)]

/-- 11_sysregs.md R195: registers that a write reaches by its writable bits alone, and nothing else with it. -/
def plainRegisters : List (SReg × Word) :=
  [(.orig .eipc, 0xFFFFFFFF), (.orig .fepc, 0xFFFFFFFF), (.orig .eiic, 0xFFFFFFFF), (.orig .feic, 0xFFFFFFFF),
    (.orig .eiwr, 0xFFFFFFFF), (.orig .fewr, 0xFFFFFFFF), (.orig .ebase, 0xFFFFFE03), (.orig .intbp, 0xFFFFFE00),
    (.orig .mea, 0xFFFFFFFF), (.orig .mei, 0xF01F0F3F), (.ctpc, 0xFFFFFFFF), (.ctpsw, 0x1F), (.ctbp, 0xFFFFFFFE),
    (.fpepc, 0xFFFFFFFE), (.sccfg, 0xFF), (.scbp, 0xFFFFFFFC), (.mctl, 1), (.snzcfg, 0xFF), (.hvsb, 0xFFFFFFFF),
    (.rbcr0, 0x1FFFF), (.rbcr1, 0xFFFF), (.rbnr, 0x3F), (.rbip, 0xFFFFFFF0), (.dbgen, 0x1FF), (.eipswh, 0x80000700),
    (.fepswh, 0x80000700), (.mca, 0xFFFFFFFF), (.mcs, 0xFFFFFFFF), (.mci, 0x1F), (.fxxc, 0x3F3F3F3F), (.fxxp, 0x1F1F1F1F),
    (.tsctrl, 1), (.pmumctrl, 0xFF), (.pmgmctrl, 0xFF)]

/-- 11_sysregs.md R122 to R128: the guest copies that a write from host mode reaches by their writable bits alone. -/
def guestCopies : List (SReg × Word) :=
  [(.gm .eipc, 0xFFFFFFFF), (.gm .fepc, 0xFFFFFFFF), (.gm .eiic, 0xFFFFFFFF), (.gm .feic, 0xFFFFFFFF), (.gm .eiwr, 0xFFFFFFFF),
    (.gm .fewr, 0xFFFFFFFF), (.gm .ebase, 0xFFFFFE03), (.gm .intbp, 0xFFFFFE00), (.gm .svlock, 1), (.gm .peid, 0x1F),
    (.gm .mea, 0xFFFFFFFF), (.gm .mei, 0xF01F0F3F), (.gm .plmr, 0x3F), (.gm .mpm, 7)]

/-- 11_sysregs.md R71: the registers that exist only while HVE = 1. -/
def SReg.classB (r : SReg) : Prop :=
  (∃ c, r = .gm c) ∨ r ∈ [SReg.pswh, .eipswh, .fepswh, .gmcfg, .hvsb, .dbgen, .pmgmctrl]

/-- 11_sysregs.md R195, R196, 21_mpu.md R250, 45_cache.md R572: regID, selID and register, row by row, by selID. -/
def numbers0 : List (Nat × Nat × SReg) :=
  [(0, 0, .orig .eipc), (1, 0, .orig .eipsw), (2, 0, .orig .fepc), (3, 0, .orig .fepsw), (5, 0, .orig .psw), (6, 0, .fpsr),
    (7, 0, .fpepc), (8, 0, .fpst), (9, 0, .fpcc), (10, 0, .fpcfg), (13, 0, .orig .eiic), (14, 0, .orig .feic), (15, 0, .pswh),
    (16, 0, .ctpc), (17, 0, .ctpsw), (18, 0, .eipswh), (19, 0, .fepswh), (20, 0, .ctbp), (21, 0, .snzcfg),
    (28, 0, .orig .eiwr), (29, 0, .orig .fewr)]
@[inherit_doc numbers0]
def numbers1 : List (Nat × Nat × SReg) :=
  [(0, 1, .orig .spid), (1, 1, .orig .spidlist), (2, 1, .rbase), (3, 1, .orig .ebase), (4, 1, .orig .intbp), (5, 1, .mctl),
    (6, 1, .pid), (8, 1, .orig .svlock), (11, 1, .sccfg), (12, 1, .scbp), (16, 1, .hvcfg), (17, 1, .gmcfg), (20, 1, .hvsb)]
@[inherit_doc numbers0]
def numbers2 : List (Nat × Nat × SReg) :=
  [(0, 2, .orig .peid), (1, 2, .bmid), (6, 2, .orig .mea), (8, 2, .orig .mei), (10, 2, .ispr), (11, 2, .imsr), (12, 2, .icsr),
    (13, 2, .orig .intcfg), (14, 2, .orig .plmr), (15, 2, .rbcr0), (16, 2, .rbcr1), (17, 2, .rbnr), (18, 2, .rbip)]
@[inherit_doc numbers0]
def numbers3to5 : List (Nat × Nat × SReg) :=
  [(0, 3, .dbgen), (16, 4, .ictagl), (17, 4, .ictagh), (18, 4, .icdatl), (19, 4, .icdath), (24, 4, .icctrl), (26, 4, .iccfg),
    (28, 4, .icerr), (0, 5, .orig .mpm), (2, 5, .mpcfg), (8, 5, .mca), (9, 5, .mcs), (10, 5, .mcc), (11, 5, .mcr), (12, 5, .mci),
    (16, 5, .mpidx), (17, 5, .mpbk), (20, 5, .mpla), (21, 5, .mpua), (22, 5, .mpat)]
@[inherit_doc numbers0]
def numbers9 : List (Nat × Nat × SReg) :=
  [(0, 9, .gm .eipc), (1, 9, .gm .eipsw), (2, 9, .gm .fepc), (3, 9, .gm .fepsw), (5, 9, .gm .psw), (6, 9, .gm .mea),
    (8, 9, .gm .mei), (13, 9, .gm .eiic), (14, 9, .gm .feic), (16, 9, .gm .spid), (17, 9, .gm .spidlist), (19, 9, .gm .ebase),
    (20, 9, .gm .intbp), (21, 9, .gm .intcfg), (22, 9, .gm .plmr), (24, 9, .gm .svlock), (25, 9, .gm .mpm), (28, 9, .gm .eiwr),
    (29, 9, .gm .fewr), (30, 9, .gm .peid)]
@[inherit_doc numbers0]
def numbers10to13 : List (Nat × Nat × SReg) :=
  [(6, 10, .fxsr), (8, 10, .fxst), (9, 10, .fxinfo), (10, 10, .fxcfg), (12, 10, .fxxc), (13, 10, .fxxp), (0, 11, .tscountl),
    (1, 11, .tscounth), (2, 11, .tsctrl), (8, 11, .pmumctrl), (9, 11, .pmgmctrl), (2, 12, .lscfg), (12, 13, .l1rcfg)]

/-- 11_sysregs.md R195, R196: the register that a pair of numbers names, whatever the mode; the number of RDBCR is a parameter. -/
def Numbered (p : Product) (regID selID : Nat) (r : SReg) : Prop :=
  (regID, selID, r) ∈ numbers0 ++ numbers1 ++ numbers2 ++ numbers3to5 ++ numbers9 ++ numbers10to13 ∨
    (∃ n : Fin 8, (selID = 5 ∧ regID = 24 + n ∧ r = .mpid n) ∨ (selID = 14 ∧ regID = n ∧ r = .pmctrl n) ∨
      (selID = 14 ∧ regID = 16 + n ∧ r = .pmcount n) ∨ (selID = 15 ∧ regID = n ∧ r = .pmsubcnd n)) ∨
    (selID = 13 ∧ regID = p.rdbcrRegid.toNat ∧ regID ≠ 12 ∧ r = .rdbcr)

/-- 11_sysregs.md R70, R71: the register exists in the state of HVE. -/
def SReg.Exists (r : SReg) (hve : Bool) : Prop := (r.classB → hve = true) ∧ (r = .icsr → hve = false)

/-- 11_sysregs.md R195: the registers with the authority UM, those that only a read has it of, and those that need HV while HVE = 1, for
any access and for a write only. All others need SV. -/
def openRegisters : List SReg :=
  [.orig .psw, .orig .peid, .bmid, .ctpc, .ctpsw, .ctbp, .fpst, .fpcc, .fpcfg, .fxst, .fxinfo, .fxcfg]
@[inherit_doc openRegisters]
def readableRegisters : List SReg := [.pswh, .hvsb, .tscountl, .tscounth]
@[inherit_doc openRegisters]
def hvRegisters : List SReg :=
  [.eipswh, .fepswh, .gmcfg, .dbgen, .pmgmctrl, .snzcfg, .hvcfg, .ictagl, .ictagh, .icdatl, .icdath, .mpbk, .tsctrl, .rdbcr]
@[inherit_doc openRegisters]
def hvWrittenRegisters : List SReg :=
  [.pswh, .hvsb, .tscountl, .tscounth, .icctrl, .mpcfg, .mpid 0, .mpid 1, .mpid 2, .mpid 3, .mpid 4, .mpid 5, .mpid 6, .mpid 7]

/-- 11_sysregs.md R70, R158, R195: the authority of the mode allows a read or a write of an existing register. -/
def State.MayReach (s : State) (r : SReg) (write : Bool) : Prop :=
  let channel (n : Fin 8) : Prop :=
    (s.mode = .guest → s.cnt.pmgmctrl.getLsbD n = true) ∧ (s.um = true → s.cnt.pmumctrl.getLsbD n = true)
  let raised : Prop := s.hve = true ∧ (r ∈ hvRegisters ∨ (∃ c, r = .gm c) ∨ (write = true ∧ r ∈ hvWrittenRegisters))
  match r with
  | .pmctrl n | .pmcount n | .pmsubcnd n => channel n
  | _ => r ∈ openRegisters ∨ (write = false ∧ r ∈ readableRegisters) ∨ (s.um = false ∧ (raised → s.mode = .host))

/-- 11_sysregs.md R180 to R190: the number of the coprocessor that a register belongs to. -/
def SReg.OfCoprocessor (r : SReg) (n : Nat) : Prop :=
  (n = 0 ∧ r ∈ [SReg.fpsr, .fpepc, .fpst, .fpcc, .fpcfg]) ∨ (n = 1 ∧ r ∈ [SReg.fxsr, .fxst, .fxinfo, .fxcfg, .fxxc, .fxxp])

/-- What a write to a system register keeps: the general and vector registers, memory, the link, the standby state, the product. -/
structure State.SameProgram (s t : State) : Prop where
  regs : ∀ r, t.reg r = s.reg r
  vectors : t.wr = s.wr
  bytes : ∀ a, t.readByte a = s.readByte a
  link : t.link = s.link
  standby : t.halt = s.halt
  product : t.prod = s.prod

/-- 21_mpu.md R260: what the setting check stores in MCR (MCA, MCS, MCI give the area and the SPID): supervisor and user results of both
layers together (bits 5-3, 2-0), of the host layer (29-27, 26-24) and of the guest layer (21-19, 18-16), each execute, write, read
from the top; the bits of the layers are 0 while HVE = 0. -/
def State.CheckStores (s : State) (m : Word) : Prop :=
  let lo := s.mpu.mca.toNat
  let hi := lo + s.mpu.mcs.toNat - 1
  let crosses : Prop := 2 ^ 32 ≤ hi ∨ (lo ≤ 0x7FFFFFFF ∧ 0x7FFFFFFF < hi)
  let ok (on svp : Bool) (sel : Nat → Prop) (k : AccessKind) (user : Bool) : Prop :=
    on = false ∨ (user = false ∧ svp = false) ∨ (¬ crosses ∧ s.SomeEntryAllows sel lo hi k user (s.mpu.mci.toNat % 32))
  let host (k : AccessKind) (user : Bool) : Prop :=
    let sel (n : Nat) : Prop := s.hve = false ∨ s.FirstHostEntry ≤ n
    match s.mode with
    | .host => ok s.host.mpe s.host.svp sel k user
    | .guest => ok s.guest.gmpe true sel k user
  let guest (k : AccessKind) (user : Bool) : Prop :=
    match s.mode with
    | .host => True
    | .guest => ok s.guest.mpe s.guest.svp (fun n => n < s.FirstHostEntry) k user
  (∀ j k, (j, k) ∈ [(2, AccessKind.exec), (1, .write), (0, .read)] →
    (m.getLsbD (3 + j) = true ↔ host k false ∧ guest k false) ∧ (m.getLsbD j = true ↔ host k true ∧ guest k true) ∧
    (m.getLsbD (27 + j) = true ↔ s.hve = true ∧ host k false) ∧ (m.getLsbD (24 + j) = true ↔ s.hve = true ∧ host k true) ∧
    (m.getLsbD (19 + j) = true ↔ s.hve = true ∧ guest k false) ∧ (m.getLsbD (16 + j) = true ↔ s.hve = true ∧ guest k true)) ∧
  (m.getLsbD 8 = true ↔ crosses ∧ (s.cur.mpe = true ∨ (s.mode = .guest ∧ s.guest.gmpe = true))) ∧ m &&& 0xC0C0FEC0 = 0

/-- 44_system.md R540: LDSR to the register `r`, where it is permitted, makes `r` read as `x` of what reg2 holds; every other register
reads as before, but the registers `shared`, of which `post` speaks; a context that the mode does not use is kept, and the MPU
entries but for a write to one. -/
def LdsrGives (s : State) (r : SReg) (x : Word → Word) (shared : SReg → Prop) (post : Word → State → Prop) : Prop :=
  ∀ (regID selID : BitVec 5) (reg2 : Reg), s.srAccess regID selID true = .reg r →
    ∃ t, exec (.ldsr regID selID reg2) s = .next t ∧ s.NextAfter t 4 ∧ s.SameProgram t ∧ t.readSr r = x (s.reg reg2) ∧
      (∀ k, k ≠ r → ¬ shared k → t.readSr k = s.readSr k) ∧ (s.mode = .guest → t.host = s.host) ∧
      (r ∉ [SReg.mpla, .mpua, .mpat] → t.mpu.bank0 = s.mpu.bank0 ∧ t.mpu.bank1 = s.mpu.bank1) ∧ post (s.reg reg2) t

end Sys2Proof.Machine
end

