-- ==== Sys2Proof/Certificates/Slice0/Obligations.lean ====
section
/-!
DEFINITION. The statements for the provers. OBLIGATIONS.json lists them with the rules they formalise.
-/

open Sys2Proof Sys2Proof.Machine

/-! ## Integer arithmetic and logic (40_arith_logic.md) -/

/-- R354, R355, R362: ADD, ADDI and ADF give the sum modulo 2^32 of their operands (and the condition) to one register, and CY, OV,
S and Z of the exact sum; SAT is kept. The arithmetic reading of the flags is the spec's own inference (R350). R351, R356, R360,
R361, R363: CMP, SUB, SUBR and SBF compute the difference modulo 2^32 (less the condition) and CY, OV, S and Z of it; SAT is kept;
SUB, SUBR and SBF write it to one register, CMP to none. -/
def Obligations.SumsAndDifferencesGiveResultAndFlags : Prop :=
  (∀ (s : State) (reg1 reg2 reg3 : Reg) (imm5 : BitVec 5) (imm16 : BitVec 16) (cccc : BitVec 4),
     GivesSum (.addF1 reg1 reg2) s 2 reg2 (s.reg reg2) (s.reg reg1) 0 ∧
     GivesSum (.addF2 imm5 reg2) s 2 reg2 (s.reg reg2) (imm5.signExtend 32) 0 ∧
     GivesSum (.addi imm16 reg1 reg2) s 4 reg2 (s.reg reg1) (imm16.signExtend 32) 0 ∧
     GivesSum (.adf cccc reg1 reg2 reg3) s 4 reg3 (s.reg reg1) (s.reg reg2) (s.cond cccc).toNat) ∧
  (∀ (s : State) (reg1 reg2 reg3 : Reg) (imm5 : BitVec 5) (cccc : BitVec 4),
     GivesDifference (.cmpF1 reg1 reg2) s 2 0 (s.reg reg2) (s.reg reg1) 0 ∧
     GivesDifference (.cmpF2 imm5 reg2) s 2 0 (s.reg reg2) (imm5.signExtend 32) 0 ∧
     GivesDifference (.sub reg1 reg2) s 2 reg2 (s.reg reg2) (s.reg reg1) 0 ∧
     GivesDifference (.subr reg1 reg2) s 2 reg2 (s.reg reg1) (s.reg reg2) 0 ∧
     GivesDifference (.sbf cccc reg1 reg2 reg3) s 4 reg3 (s.reg reg2) (s.reg reg1) (s.cond cccc).toNat)

/-- R357 to R359, R384, R385, R412, R417, R418, R421 to R424: MOV, MOVEA, MOVHI, MULH, MULHI, CMOV, SASF, SETF, SXB, SXH, ZXB and
ZXH write one register, and no flag. -/
def Obligations.FlaglessResultsReachOneRegister : Prop :=
  ∀ (s : State) (reg1 reg2 reg3 : Reg) (imm5 : BitVec 5) (imm16 : BitVec 16) (imm32 : BitVec 32) (cccc : BitVec 4),
    let low (w : Word) (n : Nat) : BitVec n := w.setWidth n
    Writes (.movF1 reg1 reg2) s 2 reg2 (s.reg reg1) ∧
    Writes (.movF2 imm5 reg2) s 2 reg2 (imm5.signExtend 32) ∧
    Writes (.movF3 imm32 reg1) s 6 reg1 imm32 ∧
    Writes (.movea imm16 reg1 reg2) s 4 reg2 (s.reg reg1 + imm16.signExtend 32) ∧
    Writes (.movhi imm16 reg1 reg2) s 4 reg2 (s.reg reg1 + imm16.setWidth 32 <<< 16) ∧
    Writes (.sasf cccc reg2) s 4 reg2 (s.reg reg2 <<< 1 ||| if s.cond cccc then 1 else 0) ∧
    Writes (.setf cccc reg2) s 4 reg2 (if s.cond cccc then 1 else 0) ∧
    Writes (.sxb reg1) s 2 reg1 ((low (s.reg reg1) 8).signExtend 32) ∧
    Writes (.sxh reg1) s 2 reg1 ((low (s.reg reg1) 16).signExtend 32) ∧
    Writes (.zxb reg1) s 2 reg1 (s.reg reg1 &&& 0xFF) ∧
    Writes (.zxh reg1) s 2 reg1 (s.reg reg1 &&& 0xFFFF) ∧
    Writes (.cmovF1 cccc reg1 reg2 reg3) s 4 reg3 (if s.cond cccc then s.reg reg1 else s.reg reg2) ∧
    Writes (.cmovF2 cccc imm5 reg2 reg3) s 4 reg3 (if s.cond cccc then imm5.signExtend 32 else s.reg reg2) ∧
    Writes (.mulhF1 reg1 reg2) s 2 reg2 (.ofInt 32 ((low (s.reg reg2) 16).toInt * (low (s.reg reg1) 16).toInt)) ∧
    Writes (.mulhF2 imm5 reg2) s 2 reg2 (.ofInt 32 ((low (s.reg reg2) 16).toInt * imm5.toInt)) ∧
    Writes (.mulhi imm16 reg1 reg2) s 4 reg2 (.ofInt 32 ((low (s.reg reg1) 16).toInt * imm16.toInt))

/-- R352, R375 to R382: the logical instructions write their result to one register (TST to none), clear OV, set S and Z by the
result, and keep CY and SAT. -/
def Obligations.LogicalResultsKeepCarry : Prop :=
  ∀ (s : State) (reg1 reg2 : Reg) (imm16 : BitVec 16),
    GivesLogical (.and reg1 reg2) s 2 reg2 (s.reg reg2 &&& s.reg reg1) ∧
    GivesLogical (.andi imm16 reg1 reg2) s 4 reg2 (s.reg reg1 &&& imm16.setWidth 32) ∧
    GivesLogical (.not reg1 reg2) s 2 reg2 (~~~ s.reg reg1) ∧
    GivesLogical (.or reg1 reg2) s 2 reg2 (s.reg reg2 ||| s.reg reg1) ∧
    GivesLogical (.ori imm16 reg1 reg2) s 4 reg2 (s.reg reg1 ||| imm16.setWidth 32) ∧
    GivesLogical (.tst reg1 reg2) s 2 0 (s.reg reg2 &&& s.reg reg1) ∧
    GivesLogical (.xor reg1 reg2) s 2 reg2 (s.reg reg2 ^^^ s.reg reg1) ∧
    GivesLogical (.xori imm16 reg1 reg2) s 4 reg2 (s.reg reg1 ^^^ imm16.setWidth 32)

/-- R371 to R374: the saturated instructions clamp the exact result to the signed 32-bit range; CY is that of the unsaturated
operation, OV tells that the result was clamped, S and Z are those of what is stored, and SAT is set by OV and otherwise kept. R408
to R411: CLIP brings a word into the range of a byte or a halfword; OV tells that it was outside, and SAT is set by it and otherwise
kept. The flags of CLIP.BU are the spec's inference from CLIP.HU (R409). -/
def Obligations.SaturationClampsAndIsSticky : Prop :=
  (∀ (s : State) (reg1 reg2 reg3 : Reg) (imm5 : BitVec 5) (imm16 : BitVec 16),
     let sum (i : Instr) (len : Nat) (dst : Reg) (a b : Word) : Prop :=
       GivesSaturated i s len dst (a.toInt + b.toInt) (2 ^ 32 ≤ a.toNat + b.toNat)
     let difference (i : Instr) (len : Nat) (dst : Reg) (a b : Word) : Prop :=
       GivesSaturated i s len dst (a.toInt - b.toInt) (a.toNat < b.toNat)
     sum (.sataddF1 reg1 reg2) 2 reg2 (s.reg reg2) (s.reg reg1) ∧
     sum (.sataddF2 imm5 reg2) 2 reg2 (s.reg reg2) (imm5.signExtend 32) ∧
     sum (.sataddF3 reg1 reg2 reg3) 4 reg3 (s.reg reg2) (s.reg reg1) ∧
     difference (.satsubF1 reg1 reg2) 2 reg2 (s.reg reg2) (s.reg reg1) ∧
     difference (.satsubF2 reg1 reg2 reg3) 4 reg3 (s.reg reg2) (s.reg reg1) ∧
     difference (.satsubi imm16 reg1 reg2) 4 reg2 (s.reg reg1) (imm16.signExtend 32) ∧
     difference (.satsubr reg1 reg2) 2 reg2 (s.reg reg1) (s.reg reg2)) ∧
  (∀ (s : State) (reg1 reg2 : Reg),
     let clips (i : Instr) (x lo hi : Int) : Prop :=
       let r := BitVec.ofInt 32 (max lo (min x hi))
       Completes i s 4 (only reg2) noByte 0x1F fun t =>
         t.Holds reg2 r ∧ t.FlagsAre False (x < lo ∨ hi < x) (r.toInt < 0) (r = 0) ∧
           (t.sat = true ↔ s.sat = true ∨ x < lo ∨ hi < x)
     clips (.clipB reg1 reg2) (s.reg reg1).toInt (-128) 127 ∧
     clips (.clipBu reg1 reg2) (s.reg reg1).toNat 0 255 ∧
     clips (.clipH reg1 reg2) (s.reg reg1).toInt (-32768) 32767 ∧
     clips (.clipHu reg1 reg2) (s.reg reg1).toNat 0 65535)

/-- R383, R386 to R388: the products of 64 bits. MUL and MULU give the low word to reg2, then the high word to reg3, which wins
where they are one register; MAC and MACU add a register pair modulo 2^64, where the wrapping is the spec's own inference (R387).
R364 to R370: the divisions, by every divisor: quotient truncated toward zero (general knowledge, R364) and remainder; the old
quotient register and a remainder of 0 where the divisor is 0; 80000000H and a remainder of 0 where the quotient overflows
(92_eei_decisions.md D14). Where reg2 and reg3 are one register, it takes the remainder, and OV, S and Z are any values
(93_implementation_defined.md U4, notes/assumptions/7.md). R366 form (1): DIVH without a remainder. -/
def Obligations.ProductsAndDivisionsFillTheirRegisters : Prop :=
  (∀ (s : State) (reg1 reg2 reg3 : Reg) (pair3 pair4 : RegPair) (imm9 : BitVec 9),
     let two (i : Instr) (lo hi : Reg) (p : DWord) : Prop :=
       Completes i s 4 (fun r => r = lo ∨ r = hi) noByte 0 fun t =>
         t.Holds hi (.ofNat 32 (p.toNat / 2 ^ 32)) ∧ (lo ≠ hi → t.Holds lo (.ofNat 32 p.toNat))
     let both (i : Instr) (p : DWord) : Prop := two i (RegPair.even pair4) (RegPair.odd pair4) p
     two (.mulF1 reg1 reg2 reg3) reg2 reg3 (.ofInt 64 ((s.reg reg2).toInt * (s.reg reg1).toInt)) ∧
     two (.mulF2 imm9 reg2 reg3) reg2 reg3 (.ofInt 64 ((s.reg reg2).toInt * imm9.toInt)) ∧
     two (.muluF1 reg1 reg2 reg3) reg2 reg3 (.ofNat 64 ((s.reg reg2).toNat * (s.reg reg1).toNat)) ∧
     two (.muluF2 imm9 reg2 reg3) reg2 reg3 (.ofNat 64 ((s.reg reg2).toNat * imm9.toNat)) ∧
     both (.mac reg1 reg2 pair3 pair4) (.ofInt 64 ((s.reg reg2).toInt * (s.reg reg1).toInt + (s.regPair pair3).toInt)) ∧
     both (.macu reg1 reg2 pair3 pair4) (.ofNat 64 ((s.reg reg2).toNat * (s.reg reg1).toNat + (s.regPair pair3).toNat))) ∧
  ((∀ (s : State) (reg1 reg2 reg3 : Reg),
      let divides (i : Instr) (a b : Int) (signed : Bool) : Prop :=
        let wraps := signed = true ∧ a = -2 ^ 31 ∧ b = -1
        let rest : Word := if b = 0 ∨ wraps then 0 else .ofInt 32 (a - a.tdiv b * b)
        Completes i s 4 (fun r => r = reg2 ∨ r = reg3) noByte 0x7 fun t =>
          t.Holds reg3 rest ∧
            (reg2 ≠ reg3 →
              t.Holds reg2 (if b = 0 then s.reg reg2 else .ofInt 32 (a.tdiv b)) ∧
                (t.ov = true ↔ b = 0 ∨ wraps) ∧
                (t.sf = true ↔ b ≠ 0 ∧ (BitVec.ofInt 32 (a.tdiv b)).toInt < 0) ∧
                (t.zf = true ↔ b ≠ 0 ∧ a.tdiv b = 0))
      let a := s.reg reg2
      let b := s.reg reg1
      let half : BitVec 16 := b.setWidth 16
      divides (.div reg1 reg2 reg3) a.toInt b.toInt true ∧
      divides (.divhF2 reg1 reg2 reg3) a.toInt half.toInt true ∧
      divides (.divq reg1 reg2 reg3) a.toInt b.toInt true ∧
      divides (.divu reg1 reg2 reg3) a.toNat b.toNat false ∧
      divides (.divhu reg1 reg2 reg3) a.toNat half.toNat false ∧
      divides (.divqu reg1 reg2 reg3) a.toNat b.toNat false) ∧
   (∀ (s : State) (reg1 reg2 : Reg),
      let a := (s.reg reg2).toInt
      let b := ((s.reg reg1).setWidth 16 : BitVec 16).toInt
      Completes (.divhF1 reg1 reg2) s 2 (only reg2) noByte 0x7 fun t =>
        t.Holds reg2 (if b = 0 then s.reg reg2 else .ofInt 32 (a.tdiv b)) ∧
          (t.ov = true ↔ b = 0 ∨ (a = -2 ^ 31 ∧ b = -1)) ∧
          (t.sf = true ↔ b ≠ 0 ∧ (BitVec.ofInt 32 (a.tdiv b)).toInt < 0) ∧
          (t.zf = true ↔ b ≠ 0 ∧ a.tdiv b = 0)))

/-! ## Data manipulation, bits, branches and table calls (41_data_bit_branch.md, 43_special_stack_atomic.md, 10_state.md) -/

/-- R29: the condition codes, from the five flags; a code and the code with its top bit inverted are opposite, but for 0101 (always)
and 1101 (SAT). -/
def Obligations.ConditionCodesReadTheFlags : Prop :=
  ∀ s : State,
    (s.cond 0 = s.ov ∧ s.cond 1 = s.cy ∧ s.cond 2 = s.zf ∧ s.cond 3 = (s.cy || s.zf) ∧ s.cond 4 = s.sf ∧ s.cond 5 = true ∧
      s.cond 6 = (s.sf ^^ s.ov) ∧ s.cond 7 = ((s.sf ^^ s.ov) || s.zf) ∧ s.cond 13 = s.sat) ∧
    ∀ c : BitVec 4, c ≠ 5 → c ≠ 13 → s.cond (c ^^^ 8) = !s.cond c

/-- R405: BINS replaces bits msb to lsb of reg2 by the low bits of reg1; where msb < lsb it completes, and reg2, OV, S and Z take
any values (93_implementation_defined.md U6, notes/assumptions/8.md). R415, R416, R419, R420: shifts and rotations by 0 to 31, a
register amount modulo 32. CY is the last bit shifted out (for ROTL bit 0 of the result) and 0 for an amount of 0 (for ROTL the
spec's decision D16); OV is 0. -/
def Obligations.BitFieldsAndShiftsMoveBits : Prop :=
  (∀ (s : State) (msb lsb : BitVec 4) (reg1 reg2 : Reg),
     let inserts (i : Instr) (hi lo : Nat) : Prop :=
       (lo ≤ hi → ∃ r : Word,
         (∀ k, k < 32 → r.getLsbD k = if lo ≤ k ∧ k ≤ hi then (s.reg reg1).getLsbD (k - lo) else (s.reg reg2).getLsbD k) ∧
         GivesLogical i s 4 reg2 r) ∧
       (hi < lo → Completes i s 4 (only reg2) noByte 0x7 fun _ => True)
     inserts (.binsF1 msb lsb reg1 reg2) (16 + msb.toNat) (16 + lsb.toNat) ∧
     inserts (.binsF2 msb lsb reg1 reg2) (16 + msb.toNat) lsb.toNat ∧
     inserts (.binsF3 msb lsb reg1 reg2) msb.toNat lsb.toNat) ∧
  (∀ (s : State) (reg1 reg2 reg3 : Reg) (imm5 : BitVec 5),
     let v := s.reg reg2
     let amount := (s.reg reg1).toNat % 32
     let moves (i : Instr) (len : Nat) (dst : Reg) (n : Nat) (r : Word) (cy : Prop) : Prop :=
       GivesFlags i s len dst r (n ≠ 0 ∧ cy) False (r.toInt < 0) (r = 0)
     let left (i : Instr) (len : Nat) (dst : Reg) (n : Nat) : Prop :=
       moves i len dst n (.ofNat 32 (v.toNat * 2 ^ n)) (v.getLsbD (32 - n) = true)
     let right (i : Instr) (len : Nat) (dst : Reg) (n : Nat) : Prop :=
       moves i len dst n (.ofNat 32 (v.toNat / 2 ^ n)) (v.getLsbD (n - 1) = true)
     let arithmetic (i : Instr) (len : Nat) (dst : Reg) (n : Nat) : Prop :=
       moves i len dst n (.ofInt 32 (v.toInt / 2 ^ n)) (v.getLsbD (n - 1) = true)
     let around (i : Instr) (len : Nat) (dst : Reg) (n : Nat) : Prop :=
       moves i len dst n (v.rotateLeft n) ((v.rotateLeft n).getLsbD 0 = true)
     left (.shlF1 reg1 reg2) 4 reg2 amount ∧ left (.shlF2 imm5 reg2) 2 reg2 imm5.toNat ∧
     left (.shlF3 reg1 reg2 reg3) 4 reg3 amount ∧
     right (.shrF1 reg1 reg2) 4 reg2 amount ∧ right (.shrF2 imm5 reg2) 2 reg2 imm5.toNat ∧
     right (.shrF3 reg1 reg2 reg3) 4 reg3 amount ∧
     arithmetic (.sarF1 reg1 reg2) 4 reg2 amount ∧ arithmetic (.sarF2 imm5 reg2) 2 reg2 imm5.toNat ∧
     arithmetic (.sarF3 reg1 reg2 reg3) 4 reg3 amount ∧
     around (.rotlF1 imm5 reg2 reg3) 4 reg3 imm5.toNat ∧ around (.rotlF2 reg1 reg2 reg3) 4 reg3 amount)

/-- R406, R407, R413, R414: the byte and halfword swaps; CY tells a zero byte or halfword in the word (BSW, HSW) or in the low
halfword (BSH, HSH) of the result, Z a zero result, in BSH and HSH of the low halfword. R425 to R428: the bit searches count
positions, from 1, up to the first that holds the bit searched for (CY: it is the last one), and give 0 and Z = 1 where there is
none. -/
def Obligations.SwapsAndSearchesFollowTheBits : Prop :=
  (∀ (s : State) (reg2 reg3 : Reg),
     let b (k : Nat) : Byte := (s.reg reg2).extractLsb' (8 * k) 8
     let swaps (i : Instr) (r : Word) (cy zf : Prop) : Prop := GivesFlags i s 4 reg3 r cy False (r.toInt < 0) zf
     swaps (.bsh reg2 reg3) (b 2 ++ b 3 ++ b 0 ++ b 1) (b 0 = 0 ∨ b 1 = 0) (b 0 = 0 ∧ b 1 = 0) ∧
     swaps (.bsw reg2 reg3) (b 0 ++ b 1 ++ b 2 ++ b 3) (b 0 = 0 ∨ b 1 = 0 ∨ b 2 = 0 ∨ b 3 = 0) (s.reg reg2 = 0) ∧
     swaps (.hsh reg2 reg3) (s.reg reg2) (b 0 = 0 ∧ b 1 = 0) (b 0 = 0 ∧ b 1 = 0) ∧
     swaps (.hsw reg2 reg3) (b 1 ++ b 0 ++ b 3 ++ b 2) (b 0 = 0 ∧ b 1 = 0 ∨ b 2 = 0 ∧ b 3 = 0) (s.reg reg2 = 0)) ∧
  (∀ (s : State) (reg2 reg3 : Reg),
     let finds (i : Instr) (bit : Nat → Prop) : Prop :=
       (∀ k, k < 32 → bit k → (∀ j, j < k → ¬ bit j) → GivesFlags i s 4 reg3 (.ofNat 32 (k + 1)) (k = 31) False False False) ∧
       ((∀ k, k < 32 → ¬ bit k) → GivesFlags i s 4 reg3 0 False False False True)
     let v := s.reg reg2
     finds (.sch0l reg2 reg3) (fun k => v.getLsbD (31 - k) = false) ∧
     finds (.sch0r reg2 reg3) (fun k => v.getLsbD k = false) ∧
     finds (.sch1l reg2 reg3) (fun k => v.getLsbD (31 - k) = true) ∧
     finds (.sch1r reg2 reg3) (fun k => v.getLsbD k = true))

/-- R429 to R433: the bit instructions: Z tells that the bit was 0; SET1, CLR1 and NOT1 then write the byte back with that one bit
changed, TST1 writes nothing. The store keeps a link that it touches as 43_special_stack_atomic.md R518 (f) reads, not as
20_memory.md R201 and 48_fxu.md R707 do: the model's choice (notes/assumptions/20.md). -/
def Obligations.BitInstructionsChangeOneBit : Prop :=
  ∀ (s : State) (reg1 reg2 : Reg) (bit3 : BitVec 3) (disp16 : BitVec 16), s.memWf →
    let here := s.reg reg1 + disp16.signExtend 32
    let there := s.reg reg1
    let number := (s.reg reg2).toNat % 8
    let changes (i : Instr) (a : Word) (n : Nat) (f : Bool → Bool) : Prop :=
      s.MayAccess a 1 [.read, .write] → Completes i s 4 noReg (storedBytes a 1) 0x1 fun t =>
        (t.zf = true ↔ (s.readByte a).getLsbD n = false) ∧
          ∀ k, k < 8 → (t.readByte a).getLsbD k = if k = n then f ((s.readByte a).getLsbD n) else (s.readByte a).getLsbD k
    let tests (i : Instr) (a : Word) (n : Nat) : Prop :=
      s.MayAccess a 1 [.read] → Completes i s 4 noReg noByte 0x1 fun t => (t.zf = true ↔ (s.readByte a).getLsbD n = false)
    changes (.set1F1 bit3 disp16 reg1) here bit3.toNat (fun _ => true) ∧
    changes (.set1F2 reg1 reg2) there number (fun _ => true) ∧
    changes (.clr1F1 bit3 disp16 reg1) here bit3.toNat (fun _ => false) ∧
    changes (.clr1F2 reg1 reg2) there number (fun _ => false) ∧
    changes (.not1F1 bit3 disp16 reg1) here bit3.toNat not ∧ changes (.not1F2 reg1 reg2) there number not ∧
    tests (.tst1F1 bit3 disp16 reg1) here bit3.toNat ∧ tests (.tst1F2 reg1 reg2) there number

/-- R400 to R403: branches and jumps. A conditional branch goes on after itself where its condition fails; JARL gives the address
after itself to a register, and its third form takes the old value of reg1 as target even where that is reg3; that bit 0 of its
target is cleared is the spec's inference from R22. R404: LOOP adds -1 to its register with the flags of that sum, and branches back
by its displacement while the result is not 0. 43_special_stack_atomic.md R500 to R502: CALLT goes through the table at CTBP and saves
the return address and PSW4-0; CTRET goes back with them; SWITCH jumps by the signed halfword of the table that follows it. -/
def Obligations.BranchesReachTheirTargets : Prop :=
  (∀ (s : State) (cccc : BitVec 4) (d8 : BitVec 8) (d16 : BitVec 16) (d21 : BitVec 21) (d31 : BitVec 31) (reg1 reg2 reg3 : Reg),
     let goes (i : Instr) (target : Word) : Prop := BranchesTo i s target noReg 0 fun _ => True
     let links (i : Instr) (target : Word) (r : Reg) (len : Word) : Prop :=
       BranchesTo i s target (only r) 0 fun t => t.Holds r (s.pc + len)
     goes (.bcondF1 cccc d8) (if s.cond cccc then s.pc + (d8.signExtend 32 <<< 1) else s.pc + 2) ∧
     goes (.bcondF2 cccc d16) (if s.cond cccc then s.pc + (d16.signExtend 32 <<< 1) else s.pc + 4) ∧
     goes (.jmpF1 reg1) (s.reg reg1) ∧
     goes (.jmpF2 d31 reg1) (s.reg reg1 + (d31.setWidth 32 <<< 1)) ∧
     goes (.jrF1 d21) (s.pc + (d21.signExtend 32 <<< 1)) ∧
     goes (.jrF2 d31) (s.pc + (d31.setWidth 32 <<< 1)) ∧
     links (.jarlF1 d21 reg2) (s.pc + (d21.signExtend 32 <<< 1)) reg2 4 ∧
     links (.jarlF2 d31 reg1) (s.pc + (d31.setWidth 32 <<< 1)) reg1 6 ∧
     links (.jarlF3 reg1 reg3) (s.reg reg1) reg3 4) ∧
  (∀ (s : State) (reg1 : Reg) (disp16 : BitVec 15),
     let x := s.reg reg1
     BranchesTo (.loop disp16 reg1) s (if x = 1 then s.pc + 4 else s.pc - (disp16.setWidth 32 <<< 1)) (only reg1) 0xF fun t =>
       t.Holds reg1 (x - 1) ∧
         t.FlagsAre (x ≠ 0) (x.toInt = -2 ^ 31) ((x - 1).toInt < 0) (x = 1)) ∧
  (∀ (s : State) (imm6 : BitVec 6) (reg1 : Reg),
     let entry := s.sys.ctbp + zextW (dispLow imm6 1)
     let slot := s.pc + 2 + (s.reg reg1 <<< 1)
     (s.Permits entry 2 [.read] s.um → ∃ t, exec (.callt imm6) s = .next t ∧
       t.pc = evenPc (s.sys.ctbp + (s.readHalf entry).setWidth 32) ∧ s.Frame t noReg noByte 0 ∧ t.wr = s.wr ∧ t.link = s.link ∧
       t.halt = s.halt ∧ t.sys = { s.sys with ctpc := s.pc + 2, ctpsw := t.sys.ctpsw } ∧
       ∀ i, i < 32 → t.sys.ctpsw.getLsbD i = if i < 5 then s.psw.getLsbD i else s.sys.ctpsw.getLsbD i) ∧
     BranchesTo .ctret s s.sys.ctpc noReg 0x1F (fun t => ∀ i, i < 5 → t.psw.getLsbD i = s.sys.ctpsw.getLsbD i) ∧
     (s.Permits slot 2 [.read] s.um →
       BranchesTo (.switch reg1) s (s.pc + 2 + ((s.readHalf slot).signExtend 32 <<< 1)) noReg 0 fun _ => True))

/-! ## Loads and stores (42_load_store.md, 20_memory.md) -/

/-- R451 to R461: loads with a 16-bit or 23-bit displacement or relative to ep: the byte, halfword or word at the address,
sign-extended or zero-extended, goes to one register. 20_memory.md R200, R201, 92_eei_decisions.md D10 (the spec's own decision):
the byte at the lower address of a halfword or a word is its lower one. -/
def Obligations.LoadsReachTheirRegister : Prop :=
  ∀ (s : State) (reg1 r : Reg) (d16 : BitVec 16) (d15 : BitVec 15) (d23 : BitVec 23) (d22 : BitVec 22) (d7 : BitVec 7)
      (d6 : BitVec 6) (d4 : BitVec 4),
    let loads (i : Instr) (len : Nat) (a : Word) (z : Size) (u : Bool) : Prop :=
      s.MayAccess a z.bytes [.read] → Writes i s len r (s.Loaded a z u)
    let b := s.reg reg1
    let e := s.reg ep
    loads (.ldBF1 d16 reg1 r) 4 (b + sextW d16) .byte false ∧
    loads (.ldBuF1 d16 reg1 r) 4 (b + sextW d16) .byte true ∧
    loads (.ldHF1 d15 reg1 r) 4 (b + sextW (dispLow d15 1)) .half false ∧
    loads (.ldHuF1 d15 reg1 r) 4 (b + sextW (dispLow d15 1)) .half true ∧
    loads (.ldWF1 d15 reg1 r) 4 (b + sextW (dispLow d15 1)) .word false ∧
    loads (.ldBF2 d23 reg1 r) 6 (b + sextW d23) .byte false ∧
    loads (.ldBuF2 d23 reg1 r) 6 (b + sextW d23) .byte true ∧
    loads (.ldHF2 d22 reg1 r) 6 (b + sextW (dispLow d22 1)) .half false ∧
    loads (.ldHuF2 d22 reg1 r) 6 (b + sextW (dispLow d22 1)) .half true ∧
    loads (.ldWF2 d22 reg1 r) 6 (b + sextW (dispLow d22 1)) .word false ∧
    loads (.sldB d7 r) 2 (e + zextW d7) .byte false ∧
    loads (.sldBu d4 r) 2 (e + zextW d4) .byte true ∧
    loads (.sldH d7 r) 2 (e + zextW (dispLow d7 1)) .half false ∧
    loads (.sldHu d4 r) 2 (e + zextW (dispLow d4 1)) .half true ∧
    loads (.sldW d6 r) 2 (e + zextW (dispLow d6 2)) .word false ∧
    ∀ a : Word, s.readHalf a = s.readByte (a + 1) ++ s.readByte a ∧
      s.readWord a = s.readByte (a + 3) ++ s.readByte (a + 2) ++ s.readByte (a + 1) ++ s.readByte a

/-- R462, R464 to R468: stores with a 16-bit or 23-bit displacement or relative to ep: the low bytes of the register stand at the
address, byte k of it at the address plus k (20_memory.md R200, R201, 92_eei_decisions.md D10, the spec's own decision), and nothing
else changes. The store keeps a link that it touches as 43_special_stack_atomic.md R518 (f) reads, not as 20_memory.md R201 and
48_fxu.md R707 do: the model's choice (notes/assumptions/20.md). -/
def Obligations.StoresChangeOnlyTheirBytes : Prop :=
  ∀ (s : State) (reg1 r : Reg) (d16 : BitVec 16) (d15 : BitVec 15) (d23 : BitVec 23) (d22 : BitVec 22) (d7 : BitVec 7)
      (d6 : BitVec 6), s.memWf →
    let stores (i : Instr) (len : Nat) (a : Word) (z : Size) : Prop :=
      s.MayAccess a z.bytes [.write] →
        Completes i s len noReg (storedBytes a z.bytes) 0 fun t => t.Stands a z (s.reg r) ∧
          ∀ k, k < z.bytes → t.readByte (a + BitVec.ofNat 32 k) = (s.reg r).extractLsb' (8 * k) 8
    let b := s.reg reg1
    let e := s.reg ep
    stores (.stBF1 d16 reg1 r) 4 (b + sextW d16) .byte ∧
    stores (.stHF1 d15 reg1 r) 4 (b + sextW (dispLow d15 1)) .half ∧
    stores (.stWF1 d15 reg1 r) 4 (b + sextW (dispLow d15 1)) .word ∧
    stores (.stBF2 d23 reg1 r) 6 (b + sextW d23) .byte ∧
    stores (.stHF2 d22 reg1 r) 6 (b + sextW (dispLow d22 1)) .half ∧
    stores (.stWF2 d22 reg1 r) 6 (b + sextW (dispLow d22 1)) .word ∧
    stores (.sstB d7 r) 2 (e + zextW d7) .byte ∧
    stores (.sstH d7 r) 2 (e + zextW (dispLow d7 1)) .half ∧
    stores (.sstW d6 r) 2 (e + zextW (dispLow d6 2)) .word

/-- R469: loads and stores with post-increment and post-decrement: the access is at the old base, and the base then moves by the
size; where a load's base is its destination, the moved base wins. R453, R463: LD.DW and ST.DW move a register pair: the even
register is the word at the address, the odd one the word above it; bit 0 of the register number is ignored. A store keeps a link
that it touches as 43_special_stack_atomic.md R518 (f) reads, not as 20_memory.md R201 and 48_fxu.md R707 do: the model's choice
(notes/assumptions/20.md). Which bytes an access at the top of the address space has, and how the MPU sees them, is the model's
reading of 20_memory.md R203 (notes/assumptions/28.md). -/
def Obligations.SteppingAndDoubleWordAccesses : Prop :=
  (∀ (s : State) (reg1 r : Reg), s.memWf →
     let a := s.reg reg1
     let load (i : Instr) (z : Size) (u : Bool) (base : Word) : Prop :=
       s.MayAccess a z.bytes [.read] →
         Completes i s 4 (fun k => k = reg1 ∨ k = r) noByte 0 fun t =>
           t.Holds reg1 base ∧ (reg1 ≠ r → t.Holds r (s.Loaded a z u))
     let store (i : Instr) (z : Size) (base : Word) : Prop :=
       s.MayAccess a z.bytes [.write] →
         Completes i s 4 (only reg1) (storedBytes a z.bytes) 0 fun t => t.Holds reg1 base ∧ t.Stands a z (s.reg r)
     load (.ldBF3 reg1 r) .byte false (a + 1) ∧ load (.ldBF4 reg1 r) .byte false (a - 1) ∧
     load (.ldBuF3 reg1 r) .byte true (a + 1) ∧ load (.ldBuF4 reg1 r) .byte true (a - 1) ∧
     load (.ldHF3 reg1 r) .half false (a + 2) ∧ load (.ldHF4 reg1 r) .half false (a - 2) ∧
     load (.ldHuF3 reg1 r) .half true (a + 2) ∧ load (.ldHuF4 reg1 r) .half true (a - 2) ∧
     load (.ldWF3 reg1 r) .word false (a + 4) ∧ load (.ldWF4 reg1 r) .word false (a - 4) ∧
     store (.stBF3 reg1 r) .byte (a + 1) ∧ store (.stBF4 reg1 r) .byte (a - 1) ∧
     store (.stHF3 reg1 r) .half (a + 2) ∧ store (.stHF4 reg1 r) .half (a - 2) ∧
     store (.stWF3 reg1 r) .word (a + 4) ∧ store (.stWF4 reg1 r) .word (a - 4)) ∧
  (∀ (s : State) (d22 : BitVec 22) (reg1 reg3 lo hi : Reg), s.memWf →
     let a := s.reg reg1 + sextW (dispLow d22 1)
     lo = reg3 &&& 0x1E → hi = reg3 ||| 1 →
     (s.MayAccess a 8 [.read] →
       Completes (.ldDw d22 reg1 reg3) s 6 (fun k => k = lo ∨ k = hi) noByte 0 fun t =>
         t.Holds lo (s.readWord a) ∧ t.Holds hi (s.readWord (a + 4))) ∧
     (s.MayAccess a 8 [.write] →
       Completes (.stDw d22 reg1 reg3) s 6 noReg (storedBytes a 8) 0 fun t =>
         t.readWord a = s.reg lo ∧ t.readWord (a + 4) = s.reg hi))

/-- 20_memory.md R205, R206, 60_exceptions.md R813, R822: a misaligned access of a load, a store, an atomic instruction or a vector
instruction raises MAE with the address in MEA and its row in MEI, and changes nothing else; a double word needs a word boundary.
21_mpu.md R262, R263, R275, 60_exceptions.md R814 (b): such an access, the byte of a bit instruction or of CACHE, or the table read
of CALLT, SWITCH or SYSCALL that the MPU denies raises MDP in the mode that GMCFG selects. That MEI.REG is the field reg3 also where
it is odd in LD.DW and ST.DW is the model's choice (notes/assumptions/31.md). That bit MS of the cause is set for a vector
double-word access (LDV.DW, STV.DW, LDVZ.H4, STVZ.H4) off a double-word boundary, as for LD.DW and ST.DW, is R275's own inference.
The words of a block are another statement's. The levels of these exceptions are general knowledge (60_exceptions.md R801): the
model's choice (notes/assumptions/5.md). 92_eei_decisions.md D19, 45_cache.md R570: CHBII and CFALI are checked as a read, with RW =
0: the model's reading (notes/assumptions/22.md); so is the range of an access that runs past FFFFFFFFH (notes/assumptions/28.md).
-/
def Obligations.StoppedAccessesRaiseMaeOrMdp : Prop :=
  ∀ (s : State) (reg1 reg2 r : Reg) (v : VReg) (d16 : BitVec 16) (d15 : BitVec 15) (d23 : BitVec 23) (d22 : BitVec 22)
      (d7 : BitVec 7) (d6 : BitVec 6) (d4 : BitVec 4) (bit3 : BitVec 3) (imm4 : BitVec 4) (imm2 : BitVec 2) (imm1 : BitVec 1)
      (v14 : BitVec 14) (v13 : BitVec 13) (v12 : BitVec 12) (imm6 : BitVec 6) (vector8 : BitVec 8),
    let denied (i : Instr) (a : Word) (n : Nat) (ks : List AccessKind) (user : Bool) (mei : Word) : Prop :=
      ∀ l, s.mpuViolation s.mode a.toNat (a.toNat + n - 1) ks user = some l → RaisesMdp i s s l a n ks user false mei
    let stops (ks : List AccessKind) (i : Instr) (a : Word) (n : Nat) (mei : Word) : Prop :=
      let aligned : Prop := a.toNat % (if n = 8 then 4 else n) = 0
      (¬ aligned → ∃ t, exec i s = .next t ∧ (t.ctx s.mode).mea = a ∧ (t.ctx s.mode).mei = mei ∧
        s.Enters t .fe s.prod.causeMae s.pc (s.HandlerBase s.mode + 0xC0) s.mode true errorAddress) ∧
      (aligned → denied i a n ks s.um mei)
    let loads (i : Instr) (a : Word) (n len : Nat) (u : Bool) (itype : Nat) : Prop := stops [.read] i a n (meiRow len r n u itype 0)
    let stores (i : Instr) (a : Word) (n len : Nat) (itype : Nat) : Prop := stops [.write] i a n (meiRow len r n false itype 1)
    let b := s.reg reg1
    let b16 := b + sextW d16
    let b15 := b + sextW (dispLow d15 1)
    let b23 := b + sextW d23
    let b22 := b + sextW (dispLow d22 1)
    let e := s.reg ep
    let x14 := b + sextW (dispLow v14 2)
    let x13 := b + sextW (dispLow v13 3)
    let x12 := b + sextW (dispLow v12 4)
    let changes (i : Instr) (a : Word) (ks : List AccessKind) : Prop := stops ks i a 1 (meiRow 4 0 1 false 9 0)
    let rmw : List AccessKind := [.read, .write]
    let vector (i : Instr) (a : Word) (n : Nat) (itype rw : Nat) : Prop :=
      s.psw.getLsbD 17 = true → stops [if rw = 1 then .write else .read] i a n (meiRow 6 v n false itype rw)
    let entry := s.sys.scbp + BitVec.ofNat 32 (4 * if vector8.toNat ≤ s.sys.sccfg.toNat % 256 then vector8.toNat else 0)
    loads (.ldBF1 d16 reg1 r) b16 1 4 false 1 ∧ loads (.ldBuF1 d16 reg1 r) b16 1 4 true 1 ∧
    loads (.ldHF1 d15 reg1 r) b15 2 4 false 1 ∧ loads (.ldHuF1 d15 reg1 r) b15 2 4 true 1 ∧ loads (.ldWF1 d15 reg1 r) b15 4 4 false 1 ∧
    stores (.stBF1 d16 reg1 r) b16 1 4 1 ∧ stores (.stHF1 d15 reg1 r) b15 2 4 1 ∧ stores (.stWF1 d15 reg1 r) b15 4 4 1 ∧
    loads (.ldBF2 d23 reg1 r) b23 1 6 false 2 ∧ loads (.ldBuF2 d23 reg1 r) b23 1 6 true 2 ∧
    loads (.ldHF2 d22 reg1 r) b22 2 6 false 2 ∧ loads (.ldHuF2 d22 reg1 r) b22 2 6 true 2 ∧ loads (.ldWF2 d22 reg1 r) b22 4 6 false 2 ∧
    loads (.ldDw d22 reg1 r) b22 8 6 false 2 ∧
    stores (.stBF2 d23 reg1 r) b23 1 6 2 ∧ stores (.stHF2 d22 reg1 r) b22 2 6 2 ∧ stores (.stWF2 d22 reg1 r) b22 4 6 2 ∧
    stores (.stDw d22 reg1 r) b22 8 6 2 ∧
    loads (.ldBF3 reg1 r) b 1 4 false 4 ∧ loads (.ldBF4 reg1 r) b 1 4 false 5 ∧ loads (.ldBuF3 reg1 r) b 1 4 true 4 ∧
    loads (.ldBuF4 reg1 r) b 1 4 true 5 ∧ loads (.ldHF3 reg1 r) b 2 4 false 4 ∧ loads (.ldHF4 reg1 r) b 2 4 false 5 ∧
    loads (.ldHuF3 reg1 r) b 2 4 true 4 ∧ loads (.ldHuF4 reg1 r) b 2 4 true 5 ∧ loads (.ldWF3 reg1 r) b 4 4 false 4 ∧
    loads (.ldWF4 reg1 r) b 4 4 false 5 ∧
    stores (.stBF3 reg1 r) b 1 4 4 ∧ stores (.stBF4 reg1 r) b 1 4 5 ∧ stores (.stHF3 reg1 r) b 2 4 4 ∧ stores (.stHF4 reg1 r) b 2 4 5 ∧
    stores (.stWF3 reg1 r) b 4 4 4 ∧ stores (.stWF4 reg1 r) b 4 4 5 ∧
    loads (.sldB d7 r) (e + zextW d7) 1 2 false 0 ∧ loads (.sldBu d4 r) (e + zextW d4) 1 2 true 0 ∧
    loads (.sldH d7 r) (e + zextW (dispLow d7 1)) 2 2 false 0 ∧ loads (.sldHu d4 r) (e + zextW (dispLow d4 1)) 2 2 true 0 ∧
    loads (.sldW d6 r) (e + zextW (dispLow d6 2)) 4 2 false 0 ∧
    stores (.sstB d7 r) (e + zextW d7) 1 2 0 ∧ stores (.sstH d7 r) (e + zextW (dispLow d7 1)) 2 2 0 ∧
    stores (.sstW d6 r) (e + zextW (dispLow d6 2)) 4 2 0 ∧
    changes (.set1F1 bit3 d16 reg1) b16 rmw ∧ changes (.set1F2 reg1 reg2) b rmw ∧ changes (.clr1F1 bit3 d16 reg1) b16 rmw ∧
    changes (.clr1F2 reg1 reg2) b rmw ∧ changes (.not1F1 bit3 d16 reg1) b16 rmw ∧ changes (.not1F2 reg1 reg2) b rmw ∧
    changes (.tst1F1 bit3 d16 reg1) b16 [.read] ∧ changes (.tst1F2 reg1 reg2) b [.read] ∧
    stops rmw (.caxi reg1 reg2 r) b 4 (meiRow 4 r 4 false 8 0) ∧
    loads (.ldlBu reg1 r) b 1 4 true 7 ∧ loads (.ldlHu reg1 r) b 2 4 true 7 ∧ loads (.ldlW reg1 r) b 4 4 false 7 ∧
    stores (.stcB reg1 r) b 1 4 7 ∧ stores (.stcH reg1 r) b 2 4 7 ∧ stores (.stcW reg1 r) b 4 4 7 ∧
    vector (.ldvW imm4 v14 reg1 v) x14 4 29 0 ∧ vector (.ldvDw imm2 v13 reg1 v) x13 8 29 0 ∧ vector (.ldvQw v12 reg1 v) x12 16 29 0 ∧
    vector (.ldvzH4 v13 reg1 v) x13 8 31 0 ∧ vector (.stvW imm2 v14 reg1 v) x14 4 29 1 ∧
    vector (.stvDw imm1 v13 reg1 v) x13 8 29 1 ∧ vector (.stvQw v12 reg1 v) x12 16 29 1 ∧ vector (.stvzH4 v13 reg1 v) x13 8 31 1 ∧
    denied (.callt imm6) (s.sys.ctbp + zextW (dispLow imm6 1)) 2 [.read] s.um (meiRow 2 0 2 true 17 0) ∧
    denied (.switch reg1) (s.pc + 2 + (b <<< 1)) 2 [.read] s.um (meiRow 2 0 2 false 16 0) ∧
    denied (.syscall vector8) entry 4 [.read] false (meiRow 4 0 4 false 18 0) ∧
    denied (.cache 0x00 reg1) b 1 [.read] s.um (meiRow 4 0 1 false 20 0) ∧
    ((if s.hve then s.mode = .host ∧ s.um = false else s.um = false) →
      denied (.cache 0x40 reg1) b 1 [.read] s.um (meiRow 4 0 1 false 20 0))

/-- 21_mpu.md R252, R258, R262: with the match predicate that R262 states, an access is denied unless a valid entry of the selected
bank holds all its bytes, permits its kind at the privilege in use, and names its SPID or all of them. All entries serve in
conventional mode, the host management entries in host mode; in guest mode the guest management entries form the guest layer, which
is asked first, and the host management entries the host layer, for both privileges, while GMPE is set. An access of several kinds
needs each. 20_memory.md R204: with the MPU disabled and all memory ordinary, every aligned access is performed. The bits of MPAT
are general knowledge (R255, notes/assumptions/5.md); that PSWH.GPID takes no part is the model's choice
(notes/assumptions/49.md). -/
def Obligations.ProtectionNeedsAMatchingEntry : Prop :=
  (∀ (s : State) (lo hi : Nat) (k : AccessKind) (user : Bool), s.prod.mpuMatch = .stated →
     let allows (c : Ctx) (sel : Nat → Prop) : Prop := s.SomeEntryAllows sel lo hi k user (c.spid.toNat % 32)
     let checks (c : Ctx) : Prop := c.mpe = true ∧ (user = true ∨ c.svp = true)
     let guestDenies : Prop := checks s.guest ∧ ¬ allows s.guest fun n => n < s.FirstHostEntry
     let hostDenies : Prop := s.guest.gmpe = true ∧ ¬ allows s.guest fun n => s.FirstHostEntry ≤ n
     (s.hve = false →
       s.mpuViolation .host lo hi [k] user = none ∧ (checks s.host → allows s.host fun _ => True) ∨
       s.mpuViolation .host lo hi [k] user = some .host ∧ checks s.host ∧ ¬ allows s.host fun _ => True) ∧
     (s.hve = true →
       s.mpuViolation .host lo hi [k] user = none ∧ (checks s.host → allows s.host fun n => s.FirstHostEntry ≤ n) ∨
       s.mpuViolation .host lo hi [k] user = some .host ∧ checks s.host ∧ ¬ allows s.host fun n => s.FirstHostEntry ≤ n) ∧
     (s.mpuViolation .guest lo hi [k] user = some .guest ↔ guestDenies) ∧
     (s.mpuViolation .guest lo hi [k] user = some .host ↔ ¬ guestDenies ∧ hostDenies)) ∧
  (∀ (s : State) (m : Mode) (lo hi : Nat) (ks : List AccessKind) (user : Bool),
     s.mpuViolation m lo hi ks user = none ↔ ∀ k ∈ ks, s.mpuViolation m lo hi [k] user = none) ∧
  (∀ (s : State) (a : Word) (n : Nat) (ks : List AccessKind),
     s.Unprotected → misaligned a n = false → s.MayAccess a n ks)

/-- 20_memory.md R202, R204: an access to a reserved address raises SYSERR, which 93_implementation_defined.md U2 allows it to, and
one to a device region is performed and reported, a read with its size, a write with its bytes, each with the SPID of the context in
use and in guest mode with PSWH.GPID; but for that the instruction does what it does where all memory is ordinary: loads, stores,
the bit and the atomic instructions, the vector accesses, the tables of CALLT, SWITCH and SYSCALL, and the transfers of several
words where no word is reserved. The table word and the bank words of an accepted EIINT or GMEIINT are reported with the SPID and
the GPID of the mode that handles it (21_mpu.md R266). An STC that fails for want of its link writes nothing, and raises SYSERR at a
reserved address too (notes/assumptions/54.md); a word that POPSP or RESBANK reads is reported whatever becomes of it. What the core
does at a device or at a reserved address, the cause code of the product included, is the model's choice (notes/assumptions/21.md).
So is which bank words an accepted EIINT or GMEIINT stores: those that RBCR0.BE alone selects, whatever the bank flag of the request
(notes/assumptions/51.md, the model's reading of 61_virtualization.md R904 and 92_eei_decisions.md D32) and PID bit 18
(notes/assumptions/56.md), with the layouts of RBCR0 and RBNR from general knowledge (11_sysregs.md R115, R117,
notes/assumptions/5.md). The bytes of an access at the top of the address space are those of notes/assumptions/28.md. -/
def Obligations.DeviceAccessesAreReported : Prop :=
  (∀ (s : State) (reg1 reg2 r : Reg) (v : VReg) (d16 : BitVec 16) (d15 : BitVec 15) (d23 : BitVec 23) (d22 : BitVec 22)
      (d7 : BitVec 7) (d6 : BitVec 6) (d4 : BitVec 4) (bit3 : BitVec 3) (imm4 : BitVec 4) (imm2 : BitVec 2) (imm1 : BitVec 1)
      (v14 : BitVec 14) (v13 : BitVec 13) (v12 : BitVec 12) (imm6 : BitVec 6) (vector8 : BitVec 8),
     let permitted (a : Word) (n : Nat) (ks : List AccessKind) (user : Bool) : Prop :=
       misaligned a n = false ∧ s.mpuViolation s.mode a.toNat (a.toNat + n - 1) ks user = none
     let accesses (ks : List AccessKind) (i : Instr) (a : Word) (n : Nat) : Prop :=
       permitted a n ks s.um → MakesAccess i s (a, n, ks)
     let loads : Instr → Word → Nat → Prop := accesses [.read]
     let stores : Instr → Word → Nat → Prop := accesses [.write]
     let changes : Instr → Word → Nat → Prop := accesses [.read, .write]
     let conditional (i : Instr) (a : Word) (n : Nat) : Prop :=
       permitted a n [.write] s.um → MakesAccess i s (a, n, if s.link = ⟨true, a, n⟩ then [.write] else [])
     let vector (ks : List AccessKind) (i : Instr) (a : Word) (n : Nat) : Prop := s.psw.getLsbD 17 = true → accesses ks i a n
     let b := s.reg reg1
     let b16 := b + sextW d16
     let b15 := b + sextW (dispLow d15 1)
     let b23 := b + sextW d23
     let b22 := b + sextW (dispLow d22 1)
     let e := s.reg ep
     let x14 := b + sextW (dispLow v14 2)
     let x13 := b + sextW (dispLow v13 3)
     let x12 := b + sextW (dispLow v12 4)
     let entry := s.sys.scbp + BitVec.ofNat 32 (4 * if vector8.toNat ≤ s.sys.sccfg.toNat % 256 then vector8.toNat else 0)
     loads (.ldBF1 d16 reg1 r) b16 1 ∧ loads (.ldBuF1 d16 reg1 r) b16 1 ∧ loads (.ldHF1 d15 reg1 r) b15 2 ∧
     loads (.ldHuF1 d15 reg1 r) b15 2 ∧ loads (.ldWF1 d15 reg1 r) b15 4 ∧ stores (.stBF1 d16 reg1 r) b16 1 ∧
     stores (.stHF1 d15 reg1 r) b15 2 ∧ stores (.stWF1 d15 reg1 r) b15 4 ∧
     loads (.ldBF2 d23 reg1 r) b23 1 ∧ loads (.ldBuF2 d23 reg1 r) b23 1 ∧ loads (.ldHF2 d22 reg1 r) b22 2 ∧
     loads (.ldHuF2 d22 reg1 r) b22 2 ∧ loads (.ldWF2 d22 reg1 r) b22 4 ∧ loads (.ldDw d22 reg1 r) b22 8 ∧
     stores (.stBF2 d23 reg1 r) b23 1 ∧ stores (.stHF2 d22 reg1 r) b22 2 ∧ stores (.stWF2 d22 reg1 r) b22 4 ∧
     stores (.stDw d22 reg1 r) b22 8 ∧
     loads (.ldBF3 reg1 r) b 1 ∧ loads (.ldBF4 reg1 r) b 1 ∧ loads (.ldBuF3 reg1 r) b 1 ∧ loads (.ldBuF4 reg1 r) b 1 ∧
     loads (.ldHF3 reg1 r) b 2 ∧ loads (.ldHF4 reg1 r) b 2 ∧ loads (.ldHuF3 reg1 r) b 2 ∧ loads (.ldHuF4 reg1 r) b 2 ∧
     loads (.ldWF3 reg1 r) b 4 ∧ loads (.ldWF4 reg1 r) b 4 ∧
     stores (.stBF3 reg1 r) b 1 ∧ stores (.stBF4 reg1 r) b 1 ∧ stores (.stHF3 reg1 r) b 2 ∧ stores (.stHF4 reg1 r) b 2 ∧
     stores (.stWF3 reg1 r) b 4 ∧ stores (.stWF4 reg1 r) b 4 ∧
     loads (.sldB d7 r) (e + zextW d7) 1 ∧ loads (.sldBu d4 r) (e + zextW d4) 1 ∧ loads (.sldH d7 r) (e + zextW (dispLow d7 1)) 2 ∧
     loads (.sldHu d4 r) (e + zextW (dispLow d4 1)) 2 ∧ loads (.sldW d6 r) (e + zextW (dispLow d6 2)) 4 ∧
     stores (.sstB d7 r) (e + zextW d7) 1 ∧ stores (.sstH d7 r) (e + zextW (dispLow d7 1)) 2 ∧
     stores (.sstW d6 r) (e + zextW (dispLow d6 2)) 4 ∧
     changes (.set1F1 bit3 d16 reg1) b16 1 ∧ changes (.set1F2 reg1 reg2) b 1 ∧ changes (.clr1F1 bit3 d16 reg1) b16 1 ∧
     changes (.clr1F2 reg1 reg2) b 1 ∧ changes (.not1F1 bit3 d16 reg1) b16 1 ∧ changes (.not1F2 reg1 reg2) b 1 ∧
     loads (.tst1F1 bit3 d16 reg1) b16 1 ∧ loads (.tst1F2 reg1 reg2) b 1 ∧ changes (.caxi reg1 reg2 r) b 4 ∧
     loads (.ldlBu reg1 r) b 1 ∧ loads (.ldlHu reg1 r) b 2 ∧ loads (.ldlW reg1 r) b 4 ∧
     conditional (.stcB reg1 r) b 1 ∧ conditional (.stcH reg1 r) b 2 ∧ conditional (.stcW reg1 r) b 4 ∧
     vector [.read] (.ldvW imm4 v14 reg1 v) x14 4 ∧ vector [.read] (.ldvDw imm2 v13 reg1 v) x13 8 ∧
     vector [.read] (.ldvQw v12 reg1 v) x12 16 ∧ vector [.read] (.ldvzH4 v13 reg1 v) x13 8 ∧
     vector [.write] (.stvW imm2 v14 reg1 v) x14 4 ∧ vector [.write] (.stvDw imm1 v13 reg1 v) x13 8 ∧
     vector [.write] (.stvQw v12 reg1 v) x12 16 ∧ vector [.write] (.stvzH4 v13 reg1 v) x13 8 ∧
     loads (.callt imm6) (s.sys.ctbp + zextW (dispLow imm6 1)) 2 ∧ loads (.switch reg1) (s.pc + 2 + (b <<< 1)) 2 ∧
     (permitted entry 4 [.read] false → MakesAccess (.syscall vector8) s (entry, 4, [.read]))) ∧
  (∀ (s : State) (list12 : BitVec 12) (imm5 : BitVec 5) (imm16 : BitVec 16) (imm32 : BitVec 32) (reg1 reg3 : Reg) (eh et : BitVec 5),
     s.host.mpe = false → s.guest.mpe = false → s.guest.gmpe = false →
     let words (n : Nat) (place : Nat → Word) (k : AccessKind) : List AccessShape := (List.range n).map fun j => (place j, 4, [k])
     let down (k : Nat) : Word := (s.reg sp - BitVec.ofNat 32 (4 * (k + 1))) &&& 0xFFFFFFFC
     let pushes (i : Instr) (n : Nat) : Prop := MakesAccesses i s (words n down .write)
     let reads (i : Instr) (n : Nat) (a : Word) : Prop := MakesAccesses i s (words n (blockAddress a) .read)
     let writes (i : Instr) (n : Nat) (a : Word) : Prop := MakesAccesses i s (words n (blockAddress a) .write)
     let listed := (list12Regs list12).length
     let ranged := (regRange reg1 reg3).length
     let base := s.reg sp + (imm5.setWidth 32 <<< 2)
     let a := s.reg reg1
     let entries := 3 * (et.toNat + 1 - eh.toNat)
     pushes (.prepareF1 list12 imm5) listed ∧ pushes (.prepareF2a list12 imm5) listed ∧
     pushes (.prepareF2b list12 imm5 imm16) listed ∧ pushes (.prepareF2c list12 imm5 imm16) listed ∧
     pushes (.prepareF2d list12 imm5 imm32) listed ∧ pushes (.pushsp reg1 reg3) ranged ∧
     reads (.disposeF1 list12 imm5) listed base ∧ reads (.disposeF2 list12 imm5 reg1) listed base ∧
     reads (.popsp reg1 reg3) ranged (s.reg sp) ∧
     (s.um = false →
       (s.isMh2 = true → reads (.ldmMp eh et reg1) entries a ∧ writes (.stmMp eh et reg1) entries a) ∧
       (s.hve = true → s.mode = .host → reads (.ldmGsr reg1) 36 a ∧ writes (.stmGsr reg1) 36 a) ∧
       (s.sys.rbnr.toNat % 64 ≠ 0 → reads .resbank s.bankItems.length s.bankStart))) ∧
  (∀ (s : State) (hm : Mode) (q : EiRequest), q.table = true → (hm = .guest → s.mode = .guest) →
     let k : IntKind := if hm = .guest then .gmeiint else .eiint
     let slot := (s.ctx hm).intbp + BitVec.ofNat 32 (4 * q.channel.toNat)
     let banked : Bool := s.sys.rbcr0.getLsbD (min q.prio.toNat 15) && (hm == .guest || !s.hve)
     let bn := s.sys.rbnr.toNat % 64
     let stored := if s.sys.rbcr0.getLsbD 16 then 35 else 24
     let xs : List AccessShape := (if (s.VectorReg hm).getLsbD 1 then [] else [(slot, 4, [.read])]) ++
       if banked then (List.range stored).map fun j => (s.BankPlace j, 4, [.write]) else []
     (banked = true → bn ≤ (s.ctx hm).intcfg.toNat / 2 ^ 16 % 64 ∧ bn ≠ 63) →
     (∀ x ∈ xs, s.mpuViolation hm x.1.toNat (x.1.toNat + 3) x.2.2 false = none ∧ ¬ s.Reaches .reserved x) →
       ∃ (t : State) (es : List (List Event)), s.accept (.ei k q) = .next t ∧ List.Forall₂ (s.Reports t hm) xs es ∧
         t.out = es.flatten ++ s.out ++ [.accepted k, .acknowledge k])

/-! ## Stack frames, atomic access (43_special_stack_atomic.md) -/

/-- R503, R504, R506: PREPARE and PUSHSP store their registers below sp, the lowest-numbered highest, and move sp below them;
PREPARE then makes room for its immediate and may set ep. The store keeps a link that it touches as 43_special_stack_atomic.md R518
(f) reads, not as 20_memory.md R201 and 48_fxu.md R707 do: the model's choice (notes/assumptions/20.md). That ep takes the new sp
and that sp keeps its low bits (R504 (d), (e)) is the spec's own inference. -/
def Obligations.FramePushesStoreAndMoveSp : Prop :=
  ∀ (s : State) (list12 : BitVec 12) (imm5 : BitVec 5) (imm16 : BitVec 16) (imm32 : BitVec 32) (reg1 reg3 : Reg), s.memWf →
    let pushes (i : Instr) (len : Nat) (rs : List Reg) (room : Word) (dst : Reg → Prop) (post : Word → State → Prop) : Prop :=
      let base := s.reg sp - BitVec.ofNat 32 (4 * rs.length)
      s.PermitsBlock base rs.length .write →
        Completes i s len dst (blockBytes base rs.length) 0 fun t =>
          t.Holds sp (base - room) ∧
            (∀ k r, rs.reverse[k]? = some r → t.readWord (blockAddress base k) = s.reg r) ∧ post (base - room) t
    let rs := list12Regs list12
    let room := imm5.setWidth 32 <<< 2
    let spEp : Reg → Prop := fun k => k = sp ∨ k = ep
    pushes (.prepareF1 list12 imm5) 4 rs room (only sp) (fun _ _ => True) ∧
    pushes (.prepareF2a list12 imm5) 4 rs room spEp (fun p t => t.reg ep = p) ∧
    pushes (.prepareF2b list12 imm5 imm16) 6 rs room spEp (fun _ t => t.reg ep = imm16.signExtend 32) ∧
    pushes (.prepareF2c list12 imm5 imm16) 6 rs room spEp (fun _ t => t.reg ep = imm16.setWidth 32 <<< 16) ∧
    pushes (.prepareF2d list12 imm5 imm32) 8 rs room spEp (fun _ t => t.reg ep = imm32) ∧
    pushes (.pushsp reg1 reg3) 4 (regRange reg1 reg3) 0 (only sp) (fun _ _ => True)

/-- R503, R505, R507: DISPOSE and POPSP load their registers from ascending addresses, the highest-numbered first, and move sp above
them; POPSP does not load r3; the second form of DISPOSE then jumps to its register. That DISPOSE jumps through the new value of its
register also where it is r3 is the model's choice (notes/assumptions/32.md); R505 (d), (e) and the unused word of r3 in R507 are
the spec's own inference. -/
def Obligations.FramePopsLoadAndMoveSp : Prop :=
  ∀ (s : State) (list12 : BitVec 12) (imm5 : BitVec 5) (reg1 reg3 : Reg),
    let pops (base : Word) (rs : List Reg) (t : State) : Prop :=
      t.Holds sp (base + BitVec.ofNat 32 (4 * rs.length)) ∧
        ∀ k r, rs.reverse[k]? = some r → r ≠ sp → t.Holds r (s.readWord (blockAddress base k))
    let rs := list12Regs list12
    let base := s.reg sp + (imm5.setWidth 32 <<< 2)
    let touched (l : List Reg) : Reg → Prop := fun r => r = sp ∨ r ∈ l
    (s.PermitsBlock base rs.length .read → Completes (.disposeF1 list12 imm5) s 4 (touched rs) noByte 0 (pops base rs)) ∧
    (s.PermitsBlock base rs.length .read → ∃ t, exec (.disposeF2 list12 imm5 reg1) s = .next t ∧ t.pc = evenPc (t.reg reg1) ∧
      s.Frame t (touched rs) noByte 0 ∧ s.SameUnits t ∧ pops base rs t) ∧
    (let l := regRange reg1 reg3
     s.PermitsBlock (s.reg sp) l.length .read → Completes (.popsp reg1 reg3) s 4 (touched l) noByte 0 (pops (s.reg sp) l))

/-- R508: CAXI compares reg2 with the word at reg1, sets the flags of the difference, stores reg3 if they are equal and the word
itself otherwise, and gives the old word to reg3. The store keeps a link that it touches as 43_special_stack_atomic.md R518 (f)
reads, not as 20_memory.md R201 and 48_fxu.md R707 do: the model's choice (notes/assumptions/20.md). R509 to R515, R518: LDL creates
the link of its address and size; STC stores and gives 1 only with that link, gives 0 otherwise, and ends the link in both cases;
CLL ends the link. -/
def Obligations.AtomicAccessesExchangeAndLink : Prop :=
  (∀ (s : State) (reg1 reg2 reg3 : Reg), s.memWf →
     let a := s.reg reg1
     let old := s.readWord a
     let x := s.reg reg2
     s.MayAccess a 4 [.read, .write] →
       Completes (.caxi reg1 reg2 reg3) s 4 (only reg3) (storedBytes a 4) 0xF fun t =>
         t.Holds reg3 old ∧ t.readWord a = (if x = old then s.reg reg3 else old) ∧
           t.FlagsAre (x.toNat < old.toNat) (overflows (x.toInt - old.toInt)) ((x - old).toInt < 0) (x = old)) ∧
  (∀ (s : State) (reg1 reg3 : Reg), s.memWf →
     let a := s.reg reg1
     let load (i : Instr) (z : Size) (u : Bool) : Prop :=
       s.MayAccess a z.bytes [.read] → ∃ t, exec i s = .next t ∧ s.NextAfter t 4 ∧ s.Frame t (only reg3) noByte 0 ∧ t.wr = s.wr ∧
         t.sys = s.sys ∧ t.halt = s.halt ∧ t.link = ⟨true, a, z.bytes⟩ ∧ t.Holds reg3 (s.Loaded a z u)
     let store (i : Instr) (z : Size) : Prop :=
       let linked := s.link = ⟨true, a, z.bytes⟩
       s.MayAccess a z.bytes [.write] → ∃ t, exec i s = .next t ∧ s.NextAfter t 4 ∧
         s.Frame t (only reg3) (fun b => linked ∧ storedBytes a z.bytes b) 0 ∧ t.wr = s.wr ∧ t.sys = s.sys ∧ t.halt = s.halt ∧
         t.link.bit = false ∧ (linked → t.Holds reg3 1 ∧ t.Stands a z (s.reg reg3)) ∧ (¬ linked → t.Holds reg3 0)
     load (.ldlBu reg1 reg3) .byte true ∧ load (.ldlHu reg1 reg3) .half true ∧ load (.ldlW reg1 reg3) .word false ∧
     store (.stcB reg1 reg3) .byte ∧ store (.stcH reg1 reg3) .half ∧ store (.stcW reg1 reg3) .word ∧
     ∃ t, exec .cll s = .next t ∧ s.NextAfter t 4 ∧ s.Frame t noReg noByte 0 ∧ t.wr = s.wr ∧ t.sys = s.sys ∧ t.halt = s.halt ∧
       t.link = { s.link with bit := false })

/-- R516, 44_system.md R547 to R550, 45_cache.md R571: NOP, the synchronisation instructions and PREF only advance the pc.
45_cache.md R570: the cache operations, where the mode may run them, leave the program alone (the instruction cache is transparent:
D19), where for CHBII and CFALI the MPU permits a read of the byte at the address, which is the model's reading of what they check
(notes/assumptions/22.md); the code 0000000 of CHBII is general knowledge (notes/assumptions/4.md); CILDI leaves four cache
registers with any values (notes/assumptions/41.md), the code 1111110 ends the link whatever reg1 is (the model's reading,
notes/assumptions/30.md), and an undefined code does nothing. -/
def Obligations.SyncAndCacheAreTransparent : Prop :=
  (∀ (s : State) (prefop : BitVec 5) (reg1 : Reg),
     let advances (i : Instr) (len : Nat) : Prop := Completes i s len noReg noByte 0 fun _ => True
     advances .nop 2 ∧ advances .synce 2 ∧ advances .synci 2 ∧ advances .syncm 2 ∧ advances .syncp 2 ∧
     advances (.pref prefop reg1) 4) ∧
  (∀ (s : State) (op : BitVec 7) (reg1 : Reg),
     let a := s.reg reg1
     let may := if s.hve then s.mode = .host ∧ s.um = false else s.um = false
     let advances : Prop := Completes (.cache op reg1) s 4 noReg noByte 0 fun _ => True
     let kept (t : State) : Prop :=
       exec (.cache op reg1) s = .next t ∧ s.NextAfter t 4 ∧ s.Frame t noReg noByte 0 ∧ t.wr = s.wr ∧ t.halt = s.halt
     (op = 0x00 → s.mpuViolation s.mode a.toNat a.toNat [.read] s.um = none → advances) ∧
     (op = 0x40 → may → s.mpuViolation s.mode a.toNat a.toNat [.read] s.um = none → advances) ∧
     (op = 0x20 ∨ op = 0x60 → may → advances) ∧
     (op = 0x61 → may → ∃ t, kept t ∧ t.link = s.link ∧
       t.sys = { s.sys with ictagl := t.sys.ictagl, ictagh := t.sys.ictagh, icdatl := t.sys.icdatl, icdath := t.sys.icdath }) ∧
     (op = 0x7E → ∃ t, kept t ∧ t.sys = s.sys ∧ t.link = { s.link with bit := false }) ∧
     (op ∉ [0x00, 0x20, 0x40, 0x60, 0x61, 0x7E] → advances))

/-! ## Exceptions (60_exceptions.md) and system control (44_system.md) -/

/-- R804, R805, R807: taking an exception, for every level, cause, handler offset, return pc and handling mode. R810,
43_special_stack_atomic.md R517: RIE raises the reserved instruction exception. R818, 44_system.md R534, R535, R537: the software
exceptions return to the next instruction. FETRAP and TRAP are handled in the mode in use, HVTRAP in host mode; HVTRAP is reserved
while HVE = 0. R818, 44_system.md R536: SYSCALL enters at SCBP plus the word of the table entry, which is entry 0 for a vector above
SCCFG.SIZE; that it saves PSWH as every entry does in host mode with HVE = 1 is the model's choice (notes/assumptions/33.md). The
levels of these exceptions are general knowledge (60_exceptions.md R801): the model's choice (notes/assumptions/5.md). -/
def Obligations.ExceptionsSaveAndSoftwareExceptionsReturn : Prop :=
  (∀ (s : State) (l : Level) (cause offset retpc : Word) (hm : Mode) (epBit : Bool),
     s.Enters (s.takeException l cause offset retpc hm epBit) l cause retpc (s.HandlerBase hm + offset) hm epBit noCtxReg) ∧
  ((∀ (s : State) (imm5 : BitVec 5) (imm4 : BitVec 4),
      Takes .rieF1 s .fe 0x60 s.pc 0x60 s.mode noCtxReg ∧ Takes (.rieF2 imm5 imm4) s .fe 0x60 s.pc 0x60 s.mode noCtxReg) ∧
   (∀ (s : State) (vector4 : BitVec 4) (vector5 : BitVec 5),
      Takes (.fetrap vector4) s .fe (0x30 + vector4.setWidth 32) (s.pc + 2) 0x30 s.mode noCtxReg ∧
      Takes (.trap vector5) s .ei (0x40 + vector5.setWidth 32) (s.pc + 4) (if vector5.toNat < 16 then 0x40 else 0x50) s.mode
        noCtxReg ∧
      (s.hve = true → s.um = false →
        Takes (.hvtrap vector5) s .ei (0xF000 + vector5.setWidth 32) (s.pc + 4) 0x20 .host noCtxReg) ∧
      (s.hve = false → Takes (.hvtrap vector5) s .fe 0x60 s.pc 0x60 s.mode noCtxReg)) ∧
   (∀ (s : State) (vector8 : BitVec 8),
      let n := if vector8.toNat ≤ s.sys.sccfg.toNat % 256 then vector8.toNat else 0
      let entry := s.sys.scbp + BitVec.ofNat 32 (4 * n)
      s.Permits entry 4 [.read] false →
        ∃ t, exec (.syscall vector8) s = .next t ∧
          s.Enters t .ei (0x8000 + vector8.setWidth 32) (s.pc + 4) (s.sys.scbp + s.readWord entry) s.mode true noCtxReg))

/-- R808, 44_system.md R532, R533: EIRET and FERET restore pc and PSW of the context in use, PSWH too in host mode with HVE = 1;
EIRET from an interrupt in host mode clears the ISPR bit of the highest priority, unless ISPC or EPL is set; the link ends. The
layout of ISPR is general knowledge (11_sysregs.md R110): the model's choice (notes/assumptions/5.md). -/
def Obligations.ReturnsRestoreTheSavedContext : Prop :=
  ∀ s : State, s.um = false →
    let c := s.cur
    let m := s.mode
    let returns (i : Instr) (pc psw pswh : Word) (ei : Prop) : Prop :=
      ∃ t, exec i s = .next t ∧ t.pc = evenPc pc ∧ s.PswTakes m psw (t.ctx m).psw ∧
        (∀ r, r ≠ .psw → (t.ctx m).get r = c.get r) ∧ (∀ k, k ≠ m → t.ctx k = s.ctx k) ∧
        t.sys = { s.sys with pswh := t.sys.pswh, ispr := t.sys.ispr } ∧
        t.sys.pswh = (if m = .host ∧ s.hve = true then pswh &&& 0x80000700 else s.sys.pswh) ∧
        (∀ q, q < 32 → (t.sys.ispr.getLsbD q = true ↔ s.sys.ispr.getLsbD q = true ∧
          ((ei ∧ m = .host ∧ c.psw.getLsbD 6 = false ∧ c.intcfg.getLsbD 0 = false ∧ c.intcfg.getLsbD 1 = false) →
            ∃ p, p < q ∧ s.sys.ispr.getLsbD p = true))) ∧
        t.link.bit = false ∧ (∀ r, t.reg r = s.reg r) ∧ t.wr = s.wr ∧ (∀ a, t.readByte a = s.readByte a) ∧
        t.mpu = s.mpu ∧ t.cnt = s.cnt ∧ t.halt = s.halt ∧ t.prod = s.prod
    returns .eiret c.eipc c.eipsw s.sys.eipswh True ∧ returns .feret c.fepc c.fepsw s.sys.fepswh False

/-- R881, 44_system.md R530, R531, R538, R539: DI and EI write PSW.ID, with supervisor privilege unless MCTL.UIC = 1; HALT and
SNOOZE leave the core in their state after the instruction. 44_system.md R538, R539: a halted core stays as it is until a request
that releases it, or a reset, is presented. SNOOZE is released by a request too, or after its count of steps, which is the model's
choice (notes/assumptions/19.md). 60_exceptions.md R831, R832: the requests that release it, masked or not, and no others: FENMI, a
request bound to host mode, and in guest mode one bound to the partition in use or allowed in the background; that a request meant
for another partition, or for a guest while the core is in host mode, does not is the spec's own inference; that no guest-bound
request does while HVE = 0 is the model's choice (notes/assumptions/57.md). That a terminating SYSERR releases the core too, unless
it waits for guest mode (70_reset_and_hazards.md R944), is the model's choice (notes/assumptions/50.md). The place of MCTL.UIC is
general knowledge (11_sysregs.md R98): the model's choice (notes/assumptions/5.md). -/
def Obligations.InterruptEnableAndStandby : Prop :=
  (∀ s : State,
     let writesId (i : Instr) (b : Bool) : Prop :=
       s.um = false ∨ s.sys.mctl.getLsbD 0 = true →
         Completes i s 4 noReg noByte 0x20 fun t => t.psw.getLsbD 5 = b
     let stands (i : Instr) (h : Halt) : Prop :=
       ∃ t, exec i s = .next t ∧ s.NextAfter t 4 ∧ s.Frame t noReg noByte 0 ∧ t.wr = s.wr ∧ t.sys = s.sys ∧ t.link = s.link ∧
         t.halt = h
     writesId .di true ∧ writesId .ei false ∧
     (s.um = false → stands .halt .halted) ∧ stands .snooze (.snoozing s.prod.snoozePeriod)) ∧
  ((∀ s : State, s.halt = .halted → s.begin.env.reset = false →
      (s.begin.releases = false → ∃ t, step s = .next t ∧ t.halt = .halted ∧ t.pc = s.pc ∧ t.gpr = s.gpr ∧ t.wr = s.wr ∧
        t.host = s.host ∧ t.guest = s.guest ∧ t.sys = s.sys ∧ t.mpu = s.mpu ∧ t.mem = s.begin.mem) ∧
      (s.begin.releases = true → step s = { s.begin with halt := .running }.runStep)) ∧
   (∀ (s : State) (n : Nat), s.halt = .snoozing n → s.begin.env.reset = false →
      (s.begin.releases = false → n ≠ 0 → ∃ t, step s = .next t ∧ t.halt = .snoozing (n - 1) ∧ t.pc = s.pc ∧ t.gpr = s.gpr ∧
        t.wr = s.wr ∧ t.host = s.host ∧ t.guest = s.guest ∧ t.sys = s.sys ∧ t.mpu = s.mpu ∧ t.mem = s.begin.mem) ∧
      (s.begin.releases = true ∨ n = 0 → step s = { s.begin with halt := .running }.runStep))) ∧
  (∀ s : State,
     let e := s.begin.env
     let meant (guest : Option (BitVec 3)) (background : Bool) : Prop :=
       guest = none ∨ (s.mode = .guest ∧ (guest = some s.gpid ∨ background = true))
     s.begin.releases = true ↔
       e.fenmi = true ∨ (∃ q, e.fe = some q ∧ meant q.guest q.background) ∨ (∃ q, e.ei = some q ∧ meant q.guest q.background) ∨
         ∃ q, e.syserr = some q ∧ q.pending = false ∧ (q.guest = true → s.mode = .guest))

/-- R811, R881: an instruction that needs more privilege than user mode has raises PIE there. R811 (b), 45_cache.md R570: in guest
mode, in supervisor mode too, the instructions that need hypervisor privilege raise it: LDM.GSR, STM.GSR, and CIBII, CFALI, CISTI
and CILDI of CACHE. The levels of these exceptions are general knowledge (60_exceptions.md R801): the model's choice
(notes/assumptions/5.md). -/
def Obligations.PrivilegedInstructionsTrapWithoutPrivilege : Prop :=
  (∀ (s : State) (eh et : BitVec 5) (reg1 reg2 : Reg) (vector5 regID selID : BitVec 5), s.um = true →
     let traps (i : Instr) : Prop := Takes i s .fe s.prod.causePie s.pc 0xA0 s.mode noCtxReg
     traps .eiret ∧ traps .feret ∧ traps .halt ∧ traps .resbank ∧
     (s.sys.mctl.getLsbD 0 = false → traps .di ∧ traps .ei) ∧
     (s.isMh2 = true → traps (.ldmMp eh et reg1) ∧ traps (.stmMp eh et reg1)) ∧
     (s.hve = true → traps (.hvtrap vector5) ∧ traps (.ldmGsr reg1) ∧ traps (.stmGsr reg1)) ∧
     (∀ op ∈ [0x20, 0x40, 0x60, 0x61], traps (.cache op reg1)) ∧
     (sregOf s.prod regID selID = none → traps (.ldsr regID selID reg2) ∧ traps (.stsr regID selID reg2)) ∧
     (∀ r ∈ [SReg.orig .eipc, .orig .eipsw, .orig .fepc, .orig .fepsw, .orig .eiic, .orig .feic, .orig .spid, .orig .ebase,
         .orig .intbp, .orig .svlock, .orig .mea, .orig .mei, .orig .intcfg, .orig .plmr, .orig .mpm, .mctl, .sccfg, .scbp, .hvcfg,
         .ispr, .rbcr0, .rbcr1, .rbnr, .rbip, .mpcfg, .mca, .mcs, .mcc, .mcr, .mci, .mpidx, .mpbk, .mpla, .mpua, .mpat],
       sregOf s.prod regID selID = some r → traps (.ldsr regID selID reg2) ∧ traps (.stsr regID selID reg2))) ∧
  (∀ (s : State) (reg1 : Reg), s.hve = true → s.mode = .guest →
     let traps (i : Instr) : Prop := Takes i s .fe s.prod.causePie s.pc 0xA0 s.mode noCtxReg
     traps (.ldmGsr reg1) ∧ traps (.stmGsr reg1) ∧ ∀ op ∈ [0x20, 0x40, 0x60, 0x61], traps (.cache op reg1))

/-- 11_sysregs.md R70, R71, R122, R158, R195, R196: the numbers of the system registers, and no others; the access check of LDSR and
STSR: an undefined register gives PIE in user mode; a register of a coprocessor that may not be used gives UCPOP; a register whose
authority the mode has not gives PIE, a hypervisor's register in guest mode among them; every other access reaches the register. The
order of the tests of a counter channel with PMGMCTRL and PMUMCTRL is R158's own inference, and the PIE of a write to HVSB without
its authority R105's. The numbers and authorities that the spec takes from general knowledge, and the levels of these exceptions,
are the model's choice (notes/assumptions/5.md); what an undefined register does in supervisor mode is 92_eei_decisions.md D4
(notes/assumptions/9.md). -/
def Obligations.RegisterNumbersAndAuthorities : Prop :=
  (∀ (p : Product) (regID selID : BitVec 5) (r : SReg), sregOf p regID selID = some r ↔ Numbered p regID.toNat selID.toNat r) ∧
  (∀ (s : State) (regID selID : BitVec 5) (reg2 : Reg) (write : Bool),
     let i : Instr := if write then .ldsr regID selID reg2 else .stsr regID selID reg2
     let answer := s.srAccess regID selID write
     let pie : Prop := answer = .pie ∧ Takes i s .fe s.prod.causePie s.pc 0xA0 s.mode noCtxReg
     ((∀ r, r.Exists s.hve → ¬ Numbered s.prod regID.toNat selID.toNat r) →
       (s.um = true → pie) ∧ (s.um = false → answer = .undefined)) ∧
     ∀ r, Numbered s.prod regID.toNat selID.toNat r → r.Exists s.hve →
       let unusable (n : Nat) : Prop := r.OfCoprocessor n ∧ s.psw.getLsbD (16 + n) = false
       (∀ n, unusable n → answer = .ucpop n ∧ Takes i s .fe (BitVec.ofNat 32 (0x80 + n)) s.pc 0x80 s.mode noCtxReg) ∧
       ((∀ n, ¬ unusable n) → (s.MayReach r write → answer = .reg r) ∧ (¬ s.MayReach r write → pie)))

/-- 11_sysregs.md R70, R195, 44_system.md R540, R541: where the access is permitted, STSR gives what the register reads as, and LDSR
leaves the program's registers and memory alone. A register that the core has not (R71) reads as any value, and a write changes
nothing (notes/assumptions/9.md). 10_state.md R26, R28, 61_virtualization.md R890: LDSR to PSW changes bits 4-0 only in user mode; in
supervisor mode every bit the core implements: EIMASK only with EPL = 1, CU0 and CU1 only where present, and for a guest only with
its bit of GMCFG, EBV only in the host context; the fixed bits keep their values. -/
def Obligations.SystemRegisterAccessesComplete : Prop :=
  (∀ (s : State) (regID selID : BitVec 5) (reg2 : Reg),
     (∀ r, s.srAccess regID selID false = .reg r → Writes (.stsr regID selID reg2) s 4 reg2 (s.readSr r)) ∧
     (s.srAccess regID selID false = .undefined →
       Completes (.stsr regID selID reg2) s 4 (only reg2) noByte 0 fun _ => True) ∧
     (∀ r, s.srAccess regID selID true = .reg r →
       ∃ t, exec (.ldsr regID selID reg2) s = .next t ∧ s.NextAfter t 4 ∧ s.SameProgram t) ∧
     (s.srAccess regID selID true = .undefined → Completes (.ldsr regID selID reg2) s 4 noReg noByte 0 fun _ => True)) ∧
  (∀ (s : State) (reg2 : Reg),
     (s.um = true → Completes (.ldsr 5 0 reg2) s 4 noReg noByte 0x1F fun t =>
       ∀ i, i < 5 → t.psw.getLsbD i = (s.reg reg2).getLsbD i) ∧
     (s.um = false → ∃ t, exec (.ldsr 5 0 reg2) s = .next t ∧ s.NextAfter t 4 ∧ s.SameProgram t ∧ t.sys = s.sys ∧ t.mpu = s.mpu ∧
       s.PswTakes s.mode (s.reg reg2) (t.ctx s.mode).psw ∧ (∀ r, r ≠ .psw → (t.ctx s.mode).get r = s.cur.get r) ∧
       ∀ k, k ≠ s.mode → t.ctx k = s.ctx k))

/-- 11_sysregs.md R72 to R107, R195, 44_system.md R540: LDSR to a register of `plainRegisters` gives it the writable bits of reg2,
and every other system register reads as before; in guest mode the guest copy of a multiplexed register is that register, and the
host's is kept; in host mode the guest's is kept. The masks that the spec takes from general knowledge are the model's choice
(notes/assumptions/5.md). -/
def Obligations.LdsrReachesOneRegister : Prop :=
  ∀ (s : State) (regID selID : BitVec 5) (reg2 : Reg) (r : SReg) (mask : Word),
    (r, mask) ∈ plainRegisters → s.srAccess regID selID true = .reg r →
      ∃ t, exec (.ldsr regID selID reg2) s = .next t ∧ s.NextAfter t 4 ∧ s.SameProgram t ∧ t.readSr r = s.reg reg2 &&& mask ∧
        (∀ k, k ≠ r → (∀ c, r = .orig c → s.mode = .guest → k ≠ .gm c) → t.readSr k = s.readSr k) ∧
        (s.mode = .host → t.guest = s.guest) ∧ (s.mode = .guest → t.host = s.host) ∧ t.mpu.bank0 = s.mpu.bank0 ∧ t.mpu.bank1 = s.mpu.bank1

/-- 11_sysregs.md R73 to R128, R150 to R188, 21_mpu.md R251 to R260, 45_cache.md R572, 44_system.md R540: what LDSR gives to the
registers that are no `plainRegisters`: those with a lock, a list or a mode of their own, the views of FPSR and FXSR, the MPU, the
counters, the cache registers, the hardware function registers, the guest copies, and the read-only ones. The layouts that the spec
takes from general knowledge are the model's choice (notes/assumptions/5.md), and so is that clearing HVE clears MCR's H and G bits
(notes/assumptions/25.md). HVE set from 0 leaves the registers that exist only with it any values (93_implementation_defined.md
U12). Also the model's choice: PSWH is 0 after HVE goes from 0 to 1 (notes/assumptions/10.md); HE and GEk of PMCTRL are written 0
while HVE = 0 (notes/assumptions/24.md); a setting check with MCS = 0 (notes/assumptions/26.md); ISPR is writable with ISPC of the
current context (notes/assumptions/27.md). That LDSR to LSCFG, L1RCFG and RDBCR stores the word is the model's reading of
92_eei_decisions.md D5, which calls them plain storage and to which R196 refers, though it calls them read-only words
(notes/assumptions/55.md). -/
def Obligations.LdsrKeepsGuardsAndLayouts : Prop :=
  (∀ s : State,
     let none : SReg → Prop := fun _ => False
     let writes (r : SReg) (x : Word → Word) : Prop := LdsrGives s r x none fun _ _ => True
     (∀ r m, (r, m) ∈ guestCopies → writes r (· &&& m)) ∧
     (∀ r ∈ [SReg.gm .eipsw, .gm .fepsw], writes r (· &&& if s.guest.intcfg.getLsbD 1 then 0x43F380FF else 0x400380FF)) ∧
     writes (.gm .spidlist) (· &&& s.host.spidlist) ∧
     writes (.gm .spid) (fun v => if s.host.spidlist.getLsbD (v.toNat % 32) then v &&& 0x1F else s.guest.spid) ∧
     LdsrGives s (.gm .psw) (s.fixPsw .guest) none (fun v t => s.PswTakes .guest v t.guest.psw) ∧
     writes (.gm .intcfg) (fun v => v &&& 0x003F0000 ||| s.guest.intcfg &&& 0xFFC0FFFF) ∧
     (∀ r ∈ [SReg.orig .spidlist, .orig .peid, .pswh, .rbase, .pid, .bmid, .imsr, .icsr, .fxinfo], writes r fun _ => s.readSr r) ∧
     (∀ r ∈ [SReg.tscountl, .tscounth, .ictagl, .ictagh, .icdatl, .icdath, .icctrl, .iccfg, .icerr, .lscfg, .l1rcfg, .rdbcr],
       writes r fun v => v) ∧
     ∀ n : Fin 8, writes (.pmctrl n) (· &&& if s.hve then 0x01FFFF03 else 0x0000FF03) ∧ writes (.pmcount n) (fun v => v) ∧
       writes (.pmsubcnd n) fun v => v) ∧
  (∀ s : State,
     let c := s.cur
     let locked : Bool := c.svlock.getLsbD 0
     let own (r : CtxReg) (also : List SReg) (x : Word → Word) (post : Word → State → Prop) : Prop :=
       LdsrGives s (.orig r) x (fun k => (s.mode = .guest ∧ k = .gm r) ∨ k ∈ also) post
     let writes (r : CtxReg) (also : List SReg) (x : Word → Word) : Prop := own r also x fun _ _ => True
     let epl (v : Word) : Bool := s.isMh2 && v.getLsbD 1
     (∀ r ∈ [CtxReg.eipsw, .fepsw], writes r [] (· &&& if c.intcfg.getLsbD 1 then 0x43F380FF else 0x400380FF)) ∧
     writes .spid [] (fun v => if locked = false ∧ c.spidlist.getLsbD (v.toNat % 32) = true then v &&& 0x1F else c.spid) ∧
     writes .svlock [] (· &&& 1) ∧ writes .plmr [.imsr, .icsr] (· &&& 0x3F) ∧
     writes .mpm [] (fun v => if locked then c.mpm else if s.mode = .host then v &&& 3 else v &&& 3 ||| c.mpm &&& 0xFFFFFFFC) ∧
     (s.mode = .guest → writes .intcfg [] fun v => v &&& 0x003F0000 ||| c.intcfg &&& 0xFFC0FFFF) ∧
     (s.mode = .host → own .intcfg [.orig .psw, .orig .eipsw, .orig .fepsw, .imsr, .icsr]
       (fun v => v &&& 0x003F0000 ||| if epl v then 2 else v &&& 1) fun v t =>
         let kept (w : Word) : Word := if epl v then w else w &&& 0xFC0FFFFF
         t.host.psw = kept c.psw ∧ t.host.eipsw = kept c.eipsw ∧ t.host.fepsw = kept c.fepsw)) ∧
  (∀ s : State,
     LdsrGives s .hvcfg (fun v => if s.hasHv = true ∧ v.getLsbD 0 = true then 1 else 0)
       (fun k => k.classB ∨ k = .mpcfg ∨ k = .mcr) (fun v t =>
         if s.hasHv = true ∧ v.getLsbD 0 = true then
           t.mpu = s.mpu ∧ if s.hve then t.guest = s.guest ∧ t.sys = { s.sys with hvcfg := 1 } ∧ t.cnt = s.cnt else t.sys.pswh = 0
         else t.guest = s.guest ∧ t.cnt = s.cnt ∧ t.sys = { s.sys with hvcfg := 0, pswh := 0 } ∧
           t.mpu = { s.mpu with mpcfg := s.mpu.mpcfg &&& 0xFFFFC0FF, mcr := s.mpu.mcr &&& 0x13F }) ∧
     LdsrGives s .gmcfg (· &&& 0x00030013) (· = .gm .psw)
       (fun v t => t.guest.psw = s.guest.psw &&& (v &&& 0x00030000 ||| 0xFFFCFFFF)) ∧
     LdsrGives s .ispr (fun v => if s.cur.intcfg.getLsbD 0 then v &&& 0xFFFF else s.sys.ispr) (· ∈ [.imsr, .icsr])
       fun _ _ => True) ∧
  (∀ s : State,
     let m := s.mpu
     let none : SReg → Prop := fun _ => False
     let window : SReg → Prop := (· ∈ [.mpla, .mpua, .mpat])
     let locked : Bool := s.cur.svlock.getLsbD 0
     let n := m.mpidx.toNat % 32
     let closed : Prop := locked = true ∨ (s.mode = .guest ∧ s.FirstHostEntry ≤ n)
     let part (r : SReg) (get : MpuEntry → Word) (mask : Word) : Prop :=
       LdsrGives s r (fun v => if closed then get (m.entry n) else v &&& mask) none fun _ t =>
         (∀ e, e ≠ n → t.mpu.entry e = m.entry e) ∧
           if m.mpbk.getLsbD 0 then t.mpu.bank0 = m.bank0 else t.mpu.bank1 = m.bank1
     LdsrGives s .mpcfg (fun v => m.mpcfg &&& 0xFFFFC0FF ||| if s.hve then v &&& 0x3F00 else 0) none (fun _ _ => True) ∧
     LdsrGives s .mpidx (· &&& 0x1F) window (fun v t =>
       t.readSr .mpla = (m.entry (v.toNat % 32)).mpla ∧ t.readSr .mpua = (m.entry (v.toNat % 32)).mpua ∧
         t.readSr .mpat = (m.entry (v.toNat % 32)).mpat) ∧
     LdsrGives s .mpbk (fun v => if locked then m.mpbk else if s.prod.mpuTwoBanks then v &&& 1 else 0) window
       (fun _ t => locked = true → t.mpu = m) ∧
     part .mpla (·.mpla) 0xFFFFFFFC ∧ part .mpua (·.mpua) 0xFFFFFFFC ∧ part .mpat (·.mpat) 0xFFFFC0BF ∧
     (∀ k : Fin 8, LdsrGives s (.mpid k) (fun v => if locked then m.mpid[k] else v &&& 0x1F) none fun _ _ => True) ∧
     LdsrGives s .mcc (fun _ => 0) (· = .mcr) (fun _ t => s.prod.mpuMatch = .stated → s.CheckStores t.mpu.mcr) ∧
     LdsrGives s .mcr (· &&& if s.hve then 0x3F3F013F else 0x13F) none fun _ _ => True) ∧
  (∀ s : State,
     let status (k : Nat) : Option Nat := if k < 5 then some k else if k = 5 then some 22 else if 8 ≤ k ∧ k < 14 then some (k + 2) else none
     let config (k : Nat) : Option Nat := if k < 5 then some (k + 5) else if 8 ≤ k ∧ k < 10 then some (k + 10) else none
     let condition (k : Nat) : Option Nat := if k < 8 then some (k + 24) else none
     let view (r : SReg) (get : State → Word) (base : SReg) (mask : Word) (place : Nat → Option Nat) : Prop :=
       (∀ k, k < 32 → ((s.readSr r).getLsbD k = true ↔ ∃ j, place k = some j ∧ (get s).getLsbD j = true)) ∧
       LdsrGives s r (· &&& mask) (· = base) fun v t => ∀ j, j < 32 →
         ((∀ k, k < 32 → place k ≠ some j) → (get t).getLsbD j = (get s).getLsbD j) ∧
           ∀ k, k < 32 → place k = some j → (get t).getLsbD j = v.getLsbD k
     LdsrGives s .fpsr (fun v => v &&& 0xFFCEFFFF ||| 0x00200000) (· ∈ [.fpst, .fpcc, .fpcfg]) (fun _ _ => True) ∧
     LdsrGives s .fxsr (fun v => v &&& 0x00CEFFFF ||| 0x00200000) (· ∈ [.fxst, .fxcfg]) (fun _ _ => True) ∧
     view .fpst (·.sys.fpsr) .fpsr 0x3F3F status ∧ view .fxst (·.sys.fxsr) .fxsr 0x3F3F status ∧
     view .fpcfg (·.sys.fpsr) .fpsr 0x31F config ∧ view .fxcfg (·.sys.fxsr) .fxsr 0x31F config ∧
     view .fpcc (·.sys.fpsr) .fpsr 0xFF condition)

/-- R71, R542 to R545, 61_virtualization.md R900: LDM.MP and STM.MP move the registers MPLA, MPUA, MPAT of the entries `eh` to `et`
from and to ascending words; 21_mpu.md R256, R258: an entry that SVLOCK of the context in use locks, or that guest mode may not
change because it is a host management entry, keeps its value. On a core that is not a G4MH2 they are reserved
in every mode (the order of the two checks is the model's choice, notes/assumptions/34.md), as LDM.GSR and STM.GSR are while HVE =
0. Each word of LDM.MP is checked with the entries that the words before it have loaded. The layout of MPAT is general knowledge
(21_mpu.md R255): the model's choice (notes/assumptions/5.md). STM.MP keeps a link that its words touch, as
43_special_stack_atomic.md R518 (f) reads, not as 20_memory.md R201 does: the model's choice (notes/assumptions/20.md). -/
def Obligations.MpuEntriesMoveInBlocks : Prop :=
  ∀ (s : State) (eh et : BitVec 5) (reg1 : Reg), s.memWf →
    let a := s.reg reg1
    let n := 3 * (et.toNat + 1 - eh.toNat)
    let held (e : MpuEntry) (k : Nat) : Word := if k = 0 then e.mpla else if k = 1 then e.mpua else e.mpat
    let part (k : Nat) : EntryReg := if k % 3 = 0 then .mpla else if k % 3 = 1 then .mpua else .mpat
    let load (k : Nat) (t : State) : State := t.writeEntry (eh.toNat + k / 3) (part k) (s.readWord (blockAddress a k))
    let writable (k : Nat) : Word := if k < 2 then 0xFFFFFFFC else 0xFFFFC0BF
    (s.isMh2 = true → s.um = false → s.PermitsTransfer n (blockAddress a) .read load →
      ∃ t, exec (.ldmMp eh et reg1) s = .next t ∧ s.NextAfter t 4 ∧ s.SameProgram t ∧ t.host = s.host ∧ t.guest = s.guest ∧
        t.sys = s.sys ∧ t.cnt = s.cnt ∧ t.mpu = { s.mpu with bank0 := t.mpu.bank0, bank1 := t.mpu.bank1 } ∧
        (if s.mpu.mpbk.getLsbD 0 then t.mpu.bank0 = s.mpu.bank0 else t.mpu.bank1 = s.mpu.bank1) ∧
        ∀ e, e < 32 → ∀ k, k < 3 → held (t.mpu.entry e) k =
          if eh.toNat ≤ e ∧ e ≤ et.toNat ∧ s.cur.svlock.getLsbD 0 = false ∧ ¬ (s.mode = .guest ∧ s.FirstHostEntry ≤ e) then
            s.readWord (blockAddress a (3 * (e - eh.toNat) + k)) &&& writable k
          else held (s.mpu.entry e) k) ∧
    (s.isMh2 = true → s.um = false → s.PermitsBlock a n .write →
      Completes (.stmMp eh et reg1) s 4 noReg (blockBytes a n) 0 fun t =>
        ∀ e, eh.toNat ≤ e → e ≤ et.toNat → ∀ k, k < 3 →
          t.readWord (blockAddress a (3 * (e - eh.toNat) + k)) = held (s.mpu.entry e) k) ∧
    (s.isMh2 = false →
      Takes (.ldmMp eh et reg1) s .fe 0x60 s.pc 0x60 s.mode noCtxReg ∧
        Takes (.stmMp eh et reg1) s .fe 0x60 s.pc 0x60 s.mode noCtxReg) ∧
    (s.hve = false →
      Takes (.ldmGsr reg1) s .fe 0x60 s.pc 0x60 s.mode noCtxReg ∧ Takes (.stmGsr reg1) s .fe 0x60 s.pc 0x60 s.mode noCtxReg)

/-- 44_system.md R544, R545, 61_virtualization.md R900: with hypervisor privilege STM.GSR stores the 36 registers of the table of
R900 (`guestBlock`) at ascending words, in its order, and LDM.GSR loads them; the registers with no filter of their own take the writable bits of their words; 11_sysregs.md R123,
R124, R128, R180: FPSR, GMEIPSW, GMFEPSW, GMPSW, GMSPID, GMSPIDLIST and GMINTCFG take theirs as their filters say; every other
system register, the MPU entries and the counters are kept. The masks that the spec takes from general knowledge are the model's
choice (notes/assumptions/5.md). STM.GSR keeps a link that its words touch, as 43_special_stack_atomic.md R518 (f) reads, not as
20_memory.md R201 does: the model's choice (notes/assumptions/20.md). -/
def Obligations.GuestRegistersMoveInBlocks : Prop :=
  ∀ (s : State) (reg1 : Reg), s.memWf → s.hve = true → s.mode = .host → s.um = false →
    let a := s.reg reg1
    let guestPlain : List (SReg × Word) := [(.gm .eipc, 0xFFFFFFFF), (.gm .fepc, 0xFFFFFFFF), (.gm .mea, 0xFFFFFFFF),
      (.gm .mei, 0xF01F0F3F), (.gm .eiic, 0xFFFFFFFF), (.gm .feic, 0xFFFFFFFF), (.gm .ebase, 0xFFFFFE03),
      (.gm .intbp, 0xFFFFFE00), (.gm .plmr, 0x3F), (.gm .svlock, 1), (.gm .mpm, 7), (.gm .eiwr, 0xFFFFFFFF),
      (.gm .fewr, 0xFFFFFFFF), (.mcr, 0x3F3F013F), (.mpidx, 0x1F)]
    let saved : Word := if s.guest.intcfg.getLsbD 1 then 0x43F380FF else 0x400380FF
    let filtered : List (SReg × (Word → Word)) := [(.fpsr, fun w => w &&& 0xFFCEFFFF ||| 0x00200000), (.gm .eipsw, (· &&& saved)),
      (.gm .fepsw, (· &&& saved)),
      (.gm .spid, fun w => if s.host.spidlist.getLsbD (w.toNat % 32) then w &&& 0x1F else s.guest.spid),
      (.gm .spidlist, (· &&& s.host.spidlist)),
      (.gm .intcfg, fun w => w &&& 0x003F0000 ||| s.guest.intcfg &&& 0xFFC0FFFF)]
    (s.PermitsBlock a 36 .write → Completes (.stmGsr reg1) s 4 noReg (blockBytes a 36) 0 fun t =>
      ∀ k r, (k, r) ∈ guestBlock → t.readWord (blockAddress a (k - 1)) = s.readSr r) ∧
    (s.PermitsBlock a 36 .read → ∃ t, exec (.ldmGsr reg1) s = .next t ∧ s.NextAfter t 4 ∧ s.SameProgram t ∧ t.host = s.host ∧
      t.cnt = s.cnt ∧ t.mpu.bank0 = s.mpu.bank0 ∧ t.mpu.bank1 = s.mpu.bank1 ∧
      s.PswTakes .guest (s.readWord (blockAddress a 21)) t.guest.psw ∧
      (∀ r, (∀ k, (k, r) ∉ guestBlock) → r ∉ [SReg.fpst, .fpcc, .fpcfg, .mpla, .mpua, .mpat, .imsr, .icsr] → t.readSr r = s.readSr r) ∧
      (∀ k r x, (k, r) ∈ guestBlock → (r, x) ∈ filtered → t.readSr r = x (s.readWord (blockAddress a (k - 1)))) ∧
      ∀ k r mask, (k, r) ∈ guestBlock → (r, mask) ∈ guestPlain ++ plainRegisters →
        t.readSr r = s.readWord (blockAddress a (k - 1)) &&& mask)

/-- 44_system.md R546, 61_virtualization.md R905: RESBANK loads the bank below RBIP: the general registers from ascending words,
then FPSR, EIIC, EIPSW and EIPC; RBNR counts down and PSW.ID is set. With no bank in use it raises SYSERR 1DH. The layouts of FPSR,
RBCR0 and RBNR are general knowledge (11_sysregs.md R115, R117, R180): the model's choice (notes/assumptions/5.md); so is that RESBANK
has this effect whatever PID bit 18 is (notes/assumptions/56.md). -/
def Obligations.ResbankRestoresTheBank : Prop :=
  ∀ s : State, s.um = false →
    let bn := s.sys.rbnr.toNat % 64
    let big := s.sys.rbcr0.getLsbD 16
    let rs : List Nat := if big then (List.range 31).map fun k => 31 - k else 30 :: (List.range 19).map fun k => 19 - k
    let a := s.sys.rbip - BitVec.ofNat 32 (bn * if big then 0x90 else 0x60) + (if big then 4 else 0)
    let m := s.mode
    (bn ≠ 0 → s.PermitsBlock a (rs.length + 4) .read →
      ∃ t, exec .resbank s = .next t ∧ s.NextAfter t 4 ∧
        (∀ k r, rs[k]? = some r → t.reg (BitVec.ofNat 5 r) = s.readWord (blockAddress a k)) ∧
        (∀ r : Reg, r.toNat ∉ rs → t.reg r = s.reg r) ∧
        t.sys = { s.sys with rbnr := BitVec.ofNat 32 (bn - 1), fpsr := t.sys.fpsr } ∧
        t.sys.fpsr = (s.readWord (blockAddress a rs.length) &&& 0xFFCEFFFF ||| 0x00200000) ∧
        (t.ctx m).eiic = s.readWord (blockAddress a (rs.length + 1)) ∧
        (t.ctx m).eipsw = s.readWord (blockAddress a (rs.length + 2)) &&& s.cur.savedPswMask ∧
        (t.ctx m).eipc = s.readWord (blockAddress a (rs.length + 3)) ∧
        (t.ctx m).psw = s.cur.psw ||| 0x20 ∧
        (∀ r, r ≠ .psw → r ≠ .eipc → r ≠ .eipsw → r ≠ .eiic → (t.ctx m).get r = s.cur.get r) ∧
        (∀ k, k ≠ m → t.ctx k = s.ctx k) ∧
        t.wr = s.wr ∧ (∀ b, t.readByte b = s.readByte b) ∧ t.mpu = s.mpu ∧ t.cnt = s.cnt ∧ t.link = s.link ∧ t.halt = s.halt) ∧
    (bn = 0 →
      let hm := if m = .guest ∧ s.sys.gmcfg.getLsbD 4 = false then Mode.guest else .host
      Takes .resbank s .fe 0x1D s.pc 0x10 hm noCtxReg)

/-- 60_exceptions.md R806, R814 (b), R822, 43_special_stack_atomic.md R504 to R507, 44_system.md R542 to R546: a transfer of several
words that the MPU denies a word of raises MDP at that word, and one that reaches a reserved word SYSERR, with the words before it
transferred: PREPARE, PUSHSP, DISPOSE, POPSP (which set bit BL of the cause), LDM.MP, STM.MP, LDM.GSR, STM.GSR and RESBANK; sp keeps
its old value in all of them. Each word is checked in the state that the words before it have made. The levels of these exceptions
are general knowledge (60_exceptions.md R801): the model's choice (notes/assumptions/5.md). R504 (c) and R505 (b) leave open how
many words have moved: that exactly the words before the one that stops have moved, that sp keeps its value, and that RESBANK does
not load sp is the model's choice (notes/assumptions/18.md), and so is the SYSERR of a reserved word (notes/assumptions/21.md), and
that RESBANK restores a bank whatever PID bit 18 is (notes/assumptions/56.md). -/
def Obligations.DeniedWordsStopTransfers : Prop :=
  (∀ (s : State) (list12 : BitVec 12) (imm5 : BitVec 5) (imm16 : BitVec 16) (imm32 : BitVec 32) (reg1 reg3 : Reg),
     let pushes (i : Instr) (len : Nat) (rs : List Reg) (itype : Nat) : Prop :=
       let place (k : Nat) : Word := (s.reg sp - BitVec.ofNat 32 (4 * (k + 1))) &&& 0xFFFFFFFC
       let row (k : Nat) : Word := meiRow len (rs.getD k 0) 4 false itype 1
       StopsAtWord i s rs.length place .write true row fun k t => t.writeWord (place k) (s.reg (rs.getD k 0))
     let pops (i : Instr) (base : Word) (rs : List Reg) (itype : Nat) : Prop :=
       let reg (k : Nat) : Reg := rs.reverse.getD k 0
       let row (k : Nat) : Word := meiRow 4 (if reg k = sp then 0 else reg k) 4 false itype 0
       StopsAtWord i s rs.length (blockAddress base) .read true row fun k t =>
         if reg k = sp then t else t.setReg (reg k) (s.readWord (blockAddress base k))
     let rs := list12Regs list12
     let base := s.reg sp + (imm5.setWidth 32 <<< 2)
     pushes (.prepareF1 list12 imm5) 4 rs 12 ∧ pushes (.prepareF2a list12 imm5) 4 rs 12 ∧
     pushes (.prepareF2b list12 imm5 imm16) 6 rs 12 ∧ pushes (.prepareF2c list12 imm5 imm16) 6 rs 12 ∧
     pushes (.prepareF2d list12 imm5 imm32) 8 rs 12 ∧ pushes (.pushsp reg1 reg3) 4 (regRange reg1 reg3) 13 ∧
     pops (.disposeF1 list12 imm5) base rs 12 ∧ pops (.disposeF2 list12 imm5 reg1) base rs 12 ∧
     pops (.popsp reg1 reg3) (s.reg sp) (regRange reg1 reg3) 13) ∧
  (∀ (s : State) (eh et : BitVec 5) (reg1 : Reg), s.um = false →
     let a := s.reg reg1
     let loads (i : Instr) (base : Word) (n itype : Nat) (f : Nat → State → State) : Prop :=
       StopsAtWord i s n (blockAddress base) .read false (fun _ => meiRow 4 0 4 false itype 0) f
     let stores (i : Instr) (n itype : Nat) (get : Nat → Word) : Prop :=
       StopsAtWord i s n (blockAddress a) .write false (fun _ => meiRow 4 0 4 false itype 1) fun k t =>
         t.writeWord (blockAddress a k) (get k)
     let count := 3 * (et.toNat + 1 - eh.toNat)
     let part (k : Nat) : EntryReg := if k % 3 = 0 then .mpla else if k % 3 = 1 then .mpua else .mpat
     (s.isMh2 = true →
       loads (.ldmMp eh et reg1) a count 15 (fun k t => t.writeEntry (eh.toNat + k / 3) (part k) (s.readWord (blockAddress a k))) ∧
       stores (.stmMp eh et reg1) count 15 (fun k => (s.mpu.entry (eh.toNat + k / 3)).get (part k))) ∧
     let moved (k : Nat) : SReg := (guestBlock.map Prod.snd).getD k .fpsr
     (s.hve = true → s.mode = .host →
       loads (.ldmGsr reg1) a 36 14 (fun k t => t.writeSr (moved k) (s.readWord (blockAddress a k))) ∧
       stores (.stmGsr reg1) 36 14 (fun k => s.readSr (moved k))) ∧
     (s.sys.rbnr.toNat % 64 ≠ 0 →
       let items := s.bankItems
       loads .resbank s.bankStart items.length 22 fun k t =>
         if items.getD k (.gpr 0) = .gpr sp then t
         else putBankItem t (items.getD k (.gpr 0)) (s.readWord (blockAddress s.bankStart k))))

/-! ## Floating point: values (46_fpu.md, 47_fpu.md) -/

/-- R586, R594 to R600: where both operands and the exact result are finite, normal or zero, and the result is not zero and lies
between the smallest normal and the largest finite number, it is the exact result correctly rounded in the current mode, to even
between two nearest; I is detected where it is not exact, and nothing else. The formats, the status bits read here and the treatment
of subnormal numbers are general knowledge (R582, R583, R585): the model's choice (notes/assumptions/5.md). -/
def Obligations.ArithmeticIsCorrectlyRounded : Prop :=
  ∀ (p : Product) (w : Word) (f : Fmt) (b a : DWord),
    let x := decodeFp f b
    let y := decodeFp f a
    let grid (q : ℚ) : Prop := ∃ z, (decodeFp f z).finite ∧ q = (decodeFp f z).value
    let rounds (op : RMode → Fp → Fp → Cell) (v : ℚ) : Prop :=
      (decodeFp f (minFp f false)).value ≤ |v| → |v| ≤ (decodeFp f (maxFp f false)).value →
        let r := fpArith2 p w f op b a
        (decodeFp f r.val).finite ∧ RoundedTo (fpRm w) grid v (decodeFp f r.val).value ∧
          (fpRm w = .nearest → (∃ y, grid y ∧ y ≠ (decodeFp f r.val).value ∧ |y - v| = |(decodeFp f r.val).value - v|) →
            r.val.getLsbD 0 = false) ∧
          r.det = (if (decodeFp f r.val).value = v then 0 else detI) ∧ r.flushed = false
    x.finite → y.finite → x.isSubnormal = false → y.isSubnormal = false →
      rounds addCell (x.value + y.value) ∧ rounds subCell (x.value - y.value) ∧ rounds mulCell (x.value * y.value) ∧
        (y.value ≠ 0 → rounds divCell (x.value / y.value))

/-- 46_fpu.md R585, R586, R594 to R601: the operands of addition, subtraction, multiplication and division that are no ordinary
numbers, and their results outside the range of the normal numbers: NaNs, infinities, zeros, an exact sum of zero, overflow, and, by
the spec's choice (92_eei_decisions.md D22), subnormal operands and results. The formats, the status bits read here and the
treatment of subnormal numbers are general knowledge (R582, R583, R585): the model's choice (notes/assumptions/5.md). That an
overflow is detected, O with I, whether or not XE.O is set, as R586 reads and R584 does not, is the model's choice
(notes/assumptions/35.md). -/
def Obligations.ArithmeticFollowsItsTables : Prop :=
  ∀ (p : Product) (w : Word) (f : Fmt) (b a : DWord),
    let x := decodeFp f b
    let y := decodeFp f a
    let sb := signBit f b
    let sa := signBit f a
    let result (op : RMode → Fp → Fp → Cell) : FpRes := fpArith2 p w f op b a
    let gives (op : RMode → Fp → Fp → Cell) (d : FpDet) (v : DWord) : Prop := result op = ⟨d, v, false⟩
    let invalid (op : RMode → Fp → Fp → Cell) : Prop := gives op detV (quietNan p f)
    let numbers : Prop := x.isSnan = false ∧ y.isSnan = false ∧ x.isQnan = false ∧ y.isQnan = false
    let anyway (op : RMode → Fp → Fp → Cell) : Prop :=
      (x.isSnan = true ∨ y.isSnan = true → invalid op) ∧
      (x.isSnan = false → y.isSnan = false → x.isQnan = true ∨ y.isQnan = true → gives op 0 (quietNan p f)) ∧
      (numbers → x.isSubnormal = true ∨ y.isSubnormal = true →
        (w.getLsbD 17 = false → (result op).det = detE) ∧
        (w.getLsbD 17 = true → result op = { fpArith2 p w f op (flushedFp f b) (flushedFp f a) with flushed := true }))
    anyway addCell ∧ anyway subCell ∧ anyway mulCell ∧ anyway divCell ∧
    (x = .inf sb → y = .inf sa →
      (if sb = sa then gives addCell 0 (infFp f sb) else invalid addCell) ∧ gives mulCell 0 (infFp f (sb ^^ sa)) ∧ invalid divCell) ∧
    (x = .inf sb → y.Normal →
      gives addCell 0 (infFp f sb) ∧ gives divCell 0 (infFp f (sb ^^ sa)) ∧
        if y = .zero sa then invalid mulCell else gives mulCell 0 (infFp f (sb ^^ sa))) ∧
    (x.Normal → y = .inf sa →
      gives addCell 0 (infFp f sa) ∧ gives divCell 0 (zeroFp f (sb ^^ sa)) ∧
        if x = .zero sb then invalid mulCell else gives mulCell 0 (infFp f (sb ^^ sa))) ∧
    (x.Normal → y.Normal → x.value + y.value = 0 → gives addCell 0 (zeroFp f (if sb = sa then sb else fpRm w == .neg))) ∧
    (x = .zero sb → y.Normal →
      gives mulCell 0 (zeroFp f (sb ^^ sa)) ∧ if y = .zero sa then invalid divCell else gives divCell 0 (zeroFp f (sb ^^ sa))) ∧
    (x.Normal → y = .zero sa →
      gives mulCell 0 (zeroFp f (sb ^^ sa)) ∧ (x ≠ .zero sb → gives divCell detZ (infFp f (sb ^^ sa)))) ∧
    result subCell = fpArith2 p w f addCell b (a ^^^ BitVec.twoPow 64 (f.frac + f.ebits)) ∧
    (x.Normal → y.Normal →
      let outside (op : RMode → Fp → Fp → Cell) (v : ℚ) : Prop :=
        (result op).Overflows f (fpRm w) v ∧ (result op).Underflows f w v
      outside addCell (x.value + y.value) ∧ outside subCell (x.value - y.value) ∧ outside mulCell (x.value * y.value) ∧
        (y.value ≠ 0 → outside divCell (x.value / y.value)))

/-- R606: the square root of a positive normal number is the real root correctly rounded in the current mode. R608 to R611: the
reciprocal of a normal number is within 1 ULP of 1/A, and the reciprocal square root of a positive one within 2 ULP (an ULP is 2 to
the exponent of the exact value, less the fraction bits), whatever the free offset of another product's result function
(notes/assumptions/40.md); without one it is correctly rounded; I is detected. The formats, the status bits read here and the
treatment of subnormal numbers are general knowledge (R582, R583, R585): the model's choice (notes/assumptions/5.md). -/
def Obligations.RootsAndReciprocalsAreAccurate : Prop :=
  (∀ (p : Product) (w : Word) (f : Fmt) (a : DWord),
     let x := decodeFp f a
     x.finite → x.isSubnormal = false → 0 < x.value →
       let r := fpSqrt p w f a
       let y := (decodeFp f r.val).value
       (decodeFp f r.val).finite ∧ RoundedTo (fpRm w) f.realGrid (Real.sqrt x.value) y ∧ r.flushed = false ∧
         r.det = if y * y = x.value then 0 else detI) ∧
  (∀ (p : Product) (w : Word) (f : Fmt) (k : Option Int) (e : Int) (a : DWord), f ≠ .half →
     let x := decodeFp f a
     let ulp : ℚ := 2 ^ (e - f.frac)
     x.finite → x.isSubnormal = false → x.value ≠ 0 →
       (2 ^ e ≤ |1 / x.value| → |1 / x.value| < 2 ^ (e + 1) → (decodeFp f (minFp f false)).value ≤ |1 / x.value| →
         let r := fpRecip p w f recipCell k a
         let y := (decodeFp f r.val).value
         r.det = detI ∧ r.flushed = false ∧ (decodeFp f r.val).finite ∧ |y - 1 / x.value| ≤ ulp ∧
           (k = none → RoundedTo (fpRm w) f.grid (1 / x.value) y)) ∧
       (0 < x.value → 2 ^ e * 2 ^ e ≤ 1 / x.value → 1 / x.value < 2 ^ (e + 1) * 2 ^ (e + 1) →
         let r := fpRecip p w f rsqrtCell k a
         let y := (decodeFp f r.val).value
         r.det = detI ∧ r.flushed = false ∧ (decodeFp f r.val).finite ∧ 0 < y - 2 * ulp ∧
           (y - 2 * ulp) * (y - 2 * ulp) * x.value ≤ 1 ∧ 1 ≤ (y + 2 * ulp) * (y + 2 * ulp) * x.value ∧
           (k = none → RoundedTo (fpRm w) f.realGrid (1 / Real.sqrt x.value) y)))

/-- 46_fpu.md R585, R606, R608 to R615, 47_fpu.md R640: square roots, reciprocals, fused multiply-adds and conversions to integers
of operands that are no ordinary numbers: NaNs, infinities, zeros, negative numbers, and, by the spec's choice (92_eei_decisions.md
D22), subnormal numbers. A fused multiply-add that is invalid detects V, not E, also beside a subnormal operand: the model's reading
(notes/assumptions/37.md). That a reciprocal below the smallest normal number detects I beside U or E is the model's choice
(notes/assumptions/53.md). The formats, the status bits read here and the treatment of subnormal numbers are general knowledge
(R582, R583, R585): the model's choice (notes/assumptions/5.md). -/
def Obligations.RootsAndConversionsFollowTheirTables : Prop :=
  (∀ (p : Product) (w : Word) (f : Fmt) (k : Option Int) (a : DWord),
     let x := decodeFp f a
     let neg := signBit f a
     let tables (op : DWord → FpRes) : Prop :=
       (x.isSnan = true → op a = ⟨detV, quietNan p f, false⟩) ∧ (x.isQnan = true → op a = ⟨0, quietNan p f, false⟩) ∧
       (x.isSubnormal = true → (w.getLsbD 17 = false → (op a).det = detE) ∧
         (w.getLsbD 17 = true → op a = { op (zeroFp f neg) with flushed := true }))
     let root := fpSqrt p w f
     let recip := fpRecip p w f recipCell k
     let rsqrt := fpRecip p w f rsqrtCell k
     tables root ∧ tables recip ∧ tables rsqrt ∧
     (x = .zero neg → root a = ⟨0, zeroFp f neg, false⟩ ∧ recip a = ⟨detZ, infFp f neg, false⟩ ∧
       rsqrt a = ⟨detZ, infFp f neg, false⟩) ∧
     (x = .inf neg → recip a = ⟨0, zeroFp f neg, false⟩ ∧
       (neg = false → root a = ⟨0, infFp f false, false⟩ ∧ rsqrt a = ⟨0, zeroFp f false, false⟩)) ∧
     (x = .inf true ∨ (x.Normal ∧ x.value < 0) →
       root a = ⟨detV, quietNan p f, false⟩ ∧ rsqrt a = ⟨detV, quietNan p f, false⟩) ∧
     (x.Normal → x.value ≠ 0 → |1 / x.value| < (decodeFp f (minFp f false)).value →
       ∃ r : FpRes, r.Underflows f w (1 / x.value) ∧ recip a = { r with det := r.det ||| detI })) ∧
  (∀ (p : Product) (w : Word) (sub : Bool) (b a c : DWord),
     let x := decodeFp .single b
     let y := decodeFp .single a
     let z := decodeFp .single c
     let product := signBit .single b ^^ signBit .single a
     let addend := signBit .single c ^^ sub
     let r := fpFma p w sub false b a c
     let any (q : Fp → Bool) : Prop := q x = true ∨ q y = true ∨ q z = true
     let xInf := x = .inf (signBit .single b)
     let yInf := y = .inf (signBit .single a)
     let zInf := z = .inf (signBit .single c)
     let xZero := x = .zero (signBit .single b)
     let yZero := y = .zero (signBit .single a)
     let invalid : Prop := (xZero ∧ yInf) ∨ (xInf ∧ yZero) ∨ ((xInf ∨ yInf) ∧ zInf ∧ product ≠ addend)
     (any Fp.isSnan → r = ⟨detV, quietNan p .single, false⟩) ∧
     (¬ any Fp.isSnan → any Fp.isQnan → r = ⟨0, quietNan p .single, false⟩) ∧
     (¬ any Fp.isSnan → ¬ any Fp.isQnan →
       (invalid → r.det = detV ∧ r.val = quietNan p .single) ∧
       (¬ invalid → any Fp.isSubnormal → (w.getLsbD 17 = false → r.det = detE) ∧
         (w.getLsbD 17 = true →
           r = { fpFma p w sub false (flushedFp .single b) (flushedFp .single a) (flushedFp .single c) with flushed := true })) ∧
       (¬ any Fp.isSubnormal → ¬ invalid → xInf ∨ yInf → r = ⟨0, infFp .single product, false⟩) ∧
       (¬ any Fp.isSubnormal → ¬ xInf → ¬ yInf → zInf → r = ⟨0, infFp .single addend, false⟩))) ∧
  (∀ (w : Word) (f : Fmt) (mode : Option RMode) (signed : Bool) (width : Nat) (a : DWord), width = 32 ∨ width = 64 →
     let x := decodeFp f a
     let r := fpToInt w f mode signed width a
     let least : DWord := BitVec.ofInt 64 (intMin signed width)
     (x.isSnan = true ∨ x.isQnan = true → r = ⟨detV, least, false⟩) ∧
     (x = .inf false → r = ⟨detV, BitVec.ofInt 64 (intMax signed width), false⟩) ∧ (x = .inf true → r = ⟨detV, least, false⟩) ∧
     (x = .zero (signBit f a) → r = ⟨0, 0, false⟩) ∧
     (x.isSubnormal = true → (w.getLsbD 17 = false → r.det = detE) ∧ (w.getLsbD 17 = true → r = ⟨0, 0, true⟩)))

/-- 46_fpu.md R583, R586, R612 to R615: the fused multiply-add rounds the exact product and sum once, in every range; an exact
zero has the sign of the product and of the addend where they have one sign, else it is -0 only when rounding toward minus infinity;
the forms that negate change the sign of a result that is no NaN. 47_fpu.md R641, 49_fxu.md R774: a result in half precision has 0
above its 16 bits. 47_fpu.md R641: the conversions between single and double precision and to half
precision round the value that they convert; zeros keep their sign; infinities keep theirs; a NaN gives the quiet NaN of the
destination, a signaling one with V; a subnormal source of single or double precision detects E where FS = 0 and gives the zero of
its sign with IF where FS = 1; a half-precision number, a subnormal one too, is converted exactly, and an integer is rounded. What
lies below the smallest normal number is 46_fpu.md R585 (general knowledge, 92_eei_decisions.md D22). The formats, the status bits
read here and the treatment of subnormal numbers are general knowledge (R582, R583, R585): the model's choice
(notes/assumptions/5.md). That an overflow is detected, O with I, whether or not XE.O is set, as R586 reads and R584 does not, is
the model's choice (notes/assumptions/35.md). -/
def Obligations.FusedAndConvertedResultsRoundOnce : Prop :=
  (∀ (p : Product) (w : Word) (sub : Bool) (b a c : DWord),
     let x := decodeFp .single b
     let y := decodeFp .single a
     let z := decodeFp .single c
     let product := signBit .single b ^^ signBit .single a
     let addend := signBit .single c ^^ sub
     let exact : ℚ := x.value * y.value + if sub then -z.value else z.value
     let r := fpFma p w sub false b a c
     (x.Normal → y.Normal → z.Normal → r.Exactly .single w exact ∧
       (exact = 0 → r = ⟨0, zeroFp .single (if product = addend then product else fpRm w == .neg), false⟩)) ∧
     fpFma p w sub true b a c =
       match decodeFp .single r.val with
       | .nan _ => r
       | _ => { r with val := r.val ^^^ 0x80000000 }) ∧
  (∀ (p : Product) (w : Word) (src dst : Fmt) (a : DWord),
     (src, dst) ∈ [(Fmt.single, Fmt.double), (.double, .single), (.single, .half)] →
     let x := decodeFp src a
     let neg := signBit src a
     let r := fpToFp p w src dst a
     (x.Normal → r.Exactly dst w x.value) ∧ (dst = .half → r.val.toNat < 2 ^ 16) ∧
     (x = .zero neg → r = ⟨0, zeroFp dst neg, false⟩) ∧ (x = .inf neg → r = ⟨0, infFp dst neg, false⟩) ∧
     (x.isSnan = true → r = ⟨detV, quietNan p dst, false⟩) ∧ (x.isQnan = true → r = ⟨0, quietNan p dst, false⟩) ∧
     (x.isSubnormal = true → (w.getLsbD 17 = false → r.det = detE) ∧ (w.getLsbD 17 = true → r = ⟨0, zeroFp dst neg, true⟩))) ∧
  (∀ (p : Product) (w : Word) (h : Half),
     let x := decodeFp .half (h.setWidth 64)
     let r := fpOfHalf p w h
     (x.finite → r.det = 0 ∧ r.flushed = false ∧ (decodeFp .single r.val).finite ∧
       (decodeFp .single r.val).value = x.value ∧ r.val.getLsbD 31 = h.getLsbD 15) ∧
     (x = .inf (h.getLsbD 15) → r = ⟨0, infFp .single (h.getLsbD 15), false⟩) ∧
     (x.isSnan = true → r = ⟨detV, quietNan p .single, false⟩) ∧ (x.isQnan = true → r = ⟨0, quietNan p .single, false⟩)) ∧
  (∀ (w : Word) (f : Fmt) (n : Int), f ≠ .half →
     (n ≠ 0 → |n| < 2 ^ 64 → (fpOfInt w f n).Rounds f (fpRm w) n) ∧ fpOfInt w f 0 = ⟨0, 0, false⟩)

/-- R587, R616: the order that the comparisons use is the order of the numbers, on all finite operands; equal numbers compare equal,
the two zeros among them. R616, 48_fxu.md R723: the negative infinity lies below every number, the positive one above, and equal
infinities compare equal. R602 to R605: the maximum and the minimum of two operands are the larger and the smaller number, an
infinity beyond every number; one quiet NaN gives the other operand, two give a quiet NaN, and a signaling one gives it with V;
subnormal operands are not flushed, and the sign of a result of two zeros is any (93_implementation_defined.md U9,
notes/assumptions/38.md). The formats, the status bits read here and the treatment of subnormal numbers are general knowledge (R582,
R583, R585): the model's choice (notes/assumptions/5.md). -/
def Obligations.ComparisonOrdersNumbers : Prop :=
  (∀ (f : Fmt) (b a : DWord), (decodeFp f b).finite → (decodeFp f a).finite →
     (orderKey f b < orderKey f a ↔ (decodeFp f b).value < (decodeFp f a).value) ∧
       (orderKey f b = orderKey f a ↔ (decodeFp f b).value = (decodeFp f a).value)) ∧
  (∀ (f : Fmt) (b a : DWord),
     let x := decodeFp f b
     let y := decodeFp f a
     (x = .inf true → y.finite ∨ y = .inf false → orderKey f b < orderKey f a) ∧
     (x = .inf false → y.finite ∨ y = .inf true → orderKey f a < orderKey f b) ∧
     (∀ n, x = .inf n → y = .inf n → orderKey f b = orderKey f a)) ∧
  (∀ (p : Product) (f : Fmt) (larger zero : Bool) (b a : DWord),
     let x := decodeFp f b
     let y := decodeFp f a
     let r := fpMaxMin p f larger zero b a
     let z := decodeFp f r.val
     (x.isSnan = true ∨ y.isSnan = true → r = ⟨detV, quietNan p f, false⟩) ∧
     (x.isQnan = true → y.isQnan = true → r = ⟨0, quietNan p f, false⟩) ∧
     (x.isQnan = true → y.isQnan = false → y.isSnan = false → r = ⟨0, a, false⟩) ∧
     (x.isQnan = false → x.isSnan = false → y.isQnan = true → r = ⟨0, b, false⟩) ∧
     (x.isSnan = false → x.isQnan = false → y.isSnan = false → y.isQnan = false →
       r.det = 0 ∧ r.flushed = false ∧
       (∀ n, x = .inf n → z = if n = larger then y else .inf n) ∧ (∀ n, y = .inf n → z = if n = larger then x else .inf n) ∧
       (x.finite → y.finite → z.finite ∧ z.value = (if larger then max x.value y.value else min x.value y.value) ∧
         ((x.value = 0 ∧ y.value = 0 ∧ z = .zero zero) ∨ r.val = b ∨ r.val = a))))

/-- R640: a normal number converted to an integer: rounded to a neighbouring integer in the mode given (none: the current one),
which is the result where it fits; else the nearest end of the range with V. A negative number gives 0 with V in the unsigned
formats. The formats, the status bits read here and the treatment of subnormal numbers are general knowledge (R582, R583, R585): the
model's choice (notes/assumptions/5.md). -/
def Obligations.ConversionsRoundToIntegers : Prop :=
  ∀ (w : Word) (f : Fmt) (mode : Option RMode) (signed : Bool) (width : Nat) (a : DWord), width = 32 ∨ width = 64 →
    let x := decodeFp f a
    let v := x.value
    let lo := intMin signed width
    let hi := intMax signed width
    x.finite → x.isSubnormal = false → v ≠ 0 →
      ∃ n : Int,
        (match mode.getD (fpRm w) with
          | .nearest => |v - n| ≤ 1 / 2 ∧ (|v - n| = 1 / 2 → n % 2 = 0)
          | .zero => |v - n| < 1 ∧ |(n : ℚ)| ≤ |v|
          | .pos => v ≤ n ∧ n < v + 1
          | .neg => n ≤ v ∧ v < n + 1) ∧
        fpToInt w f mode signed width a =
          if signed = false ∧ v < 0 then ⟨detV, 0, false⟩
          else if hi < n then ⟨detV, BitVec.ofInt 64 hi, false⟩
          else if n < lo then ⟨detV, BitVec.ofInt 64 lo, false⟩
          else ⟨if v = n then 0 else detI, BitVec.ofInt 64 n, false⟩

/-! ## Floating point: instructions (46_fpu.md, 47_fpu.md) -/

/-- R590 to R593, R618 to R620, 47_fpu.md R691, R693: the FPU instructions that raise no floating-point exception; the conversion of
a word to double precision is exact, and 0 gives +0 (47_fpu.md R641). The levels of these exceptions are general knowledge
(60_exceptions.md R801): the model's choice (notes/assumptions/5.md). R587, R616, R617: CMPF writes the condition bit `fff` of FPSR:
less, equal or unordered as `fcond` selects; V is detected for a signaling NaN, and for any NaN where the top bit of `fcond` is 1.
The recording of what is detected (R583, R584) is general knowledge: the model's choice (notes/assumptions/5.md). -/
def Obligations.FpuMovesAndComparisonsTouchTheirBits : Prop :=
  (∀ (s : State) (p1 p2 p3 : RegPair) (r1 r2 r3 : Reg) (fff : BitVec 3),
     let moves (i : Instr) (dst : FpOperand) (v : DWord) : Prop := FpuUnusable i s ∧ FpuMoves i s dst v
     let condition := s.sys.fpsr.getLsbD (24 + fff.toNat)
     let word (i : Instr) (n : Int) : Prop :=
       FpuUnusable i s ∧ ∃ v, FpuMoves i s (.pair p3) v ∧ (decodeFp .double v).finite ∧ (decodeFp .double v).value = n ∧
         (n = 0 → v = 0)
     moves (.absfD p2 p3) (.pair p3) (s.regPair p2 &&& 0x7FFFFFFFFFFFFFFF) ∧
     moves (.absfS r2 r3) (.one r3) ((s.reg r2 &&& 0x7FFFFFFF).setWidth 64) ∧
     moves (.negfD p2 p3) (.pair p3) (s.regPair p2 ^^^ 0x8000000000000000) ∧
     moves (.negfS r2 r3) (.one r3) ((s.reg r2 ^^^ 0x80000000).setWidth 64) ∧
     moves (.cmovfD fff p1 p2 p3) (.pair p3) (if condition then s.regPair p1 else s.regPair p2) ∧
     moves (.cmovfS fff r1 r2 r3) (.one r3) ((if condition then s.reg r1 else s.reg r2).setWidth 64) ∧
     word (.cvtfWd r2 p3) (s.reg r2).toInt ∧ word (.cvtfUwd r2 p3) (s.reg r2).toNat ∧
     FpuUnusable (.trfsr fff) s ∧
     (s.psw.getLsbD 16 = true → Completes (.trfsr fff) s 4 noReg noByte 0x1 fun t => (t.zf = true ↔ condition = true))) ∧
  (∀ (s : State) (fcond : BitVec 4) (fff : BitVec 3) (p1 p2 : RegPair) (r1 r2 : Reg),
     let compares (i : Instr) (f : Fmt) (b a : DWord) : Prop :=
       let x := decodeFp f b
       let y := decodeFp f a
       let signaling := x.isSnan = true ∨ y.isSnan = true
       let unordered := signaling ∨ x.isQnan = true ∨ y.isQnan = true
       let invalid := signaling ∨ (unordered ∧ fcond.getLsbD 3 = true)
       let holds := (unordered ∧ fcond.getLsbD 0 = true) ∨ (¬ unordered ∧
         ((orderKey f b < orderKey f a ∧ fcond.getLsbD 2 = true) ∨ (orderKey f b = orderKey f a ∧ fcond.getLsbD 1 = true)))
       ∀ det : FpDet, (if det = 0 then ¬ invalid else det = detV ∧ invalid) →
         FpuUnusable i s ∧ FpuTraps i s ⟨det, 0, false⟩ ∧
         (s.psw.getLsbD 16 = true → ¬ Trapped s.sys.fpsr det →
           ∃ t w, exec i s = .next t ∧ s.NextAfter t 4 ∧ s.Frame t noReg noByte 0 ∧ t.wr = s.wr ∧ t.link = s.link ∧
             t.halt = s.halt ∧ t.sys = { s.sys with fpsr := t.sys.fpsr } ∧ StatusAfter s.sys.fpsr w det false ∧
             ∀ k, k < 32 → (t.sys.fpsr.getLsbD k = true ↔ if k = 24 + fff.toNat then holds else w.getLsbD k = true))
     compares (.cmpfD fcond fff p1 p2) .double (s.regPair p2) (s.regPair p1) ∧
     compares (.cmpfS fcond fff r1 r2) .single ((s.reg r2).setWidth 64) ((s.reg r1).setWidth 64))

/-- R584, R594 to R601, R606, R607, R612 to R615: the arithmetic of the FPU, its results those of the arithmetic template. R602 to
R605, R608 to R611: the maximum and minimum, for some sign of a result of two zeros (93_implementation_defined.md U9,
notes/assumptions/38.md), and the reciprocals, correctly rounded, or for another product some offset inside their band
(notes/assumptions/40.md). The recording of what is detected (R583, R584) is general knowledge: the model's choice
(notes/assumptions/5.md), and so is IF on a trap (notes/assumptions/36.md). -/
def Obligations.FpuArithmeticCompletesOrTraps : Prop :=
  (∀ (s : State) (p1 p2 p3 : RegPair) (r1 r2 r3 : Reg),
     let w := s.sys.fpsr
     let d (r : RegPair) : DWord := s.regPair r
     let v (r : Reg) : DWord := (s.reg r).setWidth 64
     let double (i : Instr) (op : RMode → Fp → Fp → Cell) : Prop :=
       FpuDoes i s (.pair p3) (fpArith2 s.prod w .double op (d p2) (d p1))
     let single (i : Instr) (op : RMode → Fp → Fp → Cell) : Prop :=
       FpuDoes i s (.one r3) (fpArith2 s.prod w .single op (v r2) (v r1))
     let fused (i : Instr) (sub neg : Bool) : Prop := FpuDoes i s (.one r3) (fpFma s.prod w sub neg (v r2) (v r1) (v r3))
     double (.addfD p1 p2 p3) addCell ∧ single (.addfS r1 r2 r3) addCell ∧
     double (.subfD p1 p2 p3) subCell ∧ single (.subfS r1 r2 r3) subCell ∧
     double (.mulfD p1 p2 p3) mulCell ∧ single (.mulfS r1 r2 r3) mulCell ∧
     double (.divfD p1 p2 p3) divCell ∧ single (.divfS r1 r2 r3) divCell ∧
     FpuDoes (.sqrtfD p2 p3) s (.pair p3) (fpSqrt s.prod w .double (d p2)) ∧
     FpuDoes (.sqrtfS r2 r3) s (.one r3) (fpSqrt s.prod w .single (v r2)) ∧
     fused (.fmafS r1 r2 r3) false false ∧ fused (.fmsfS r1 r2 r3) true false ∧
     fused (.fnmafS r1 r2 r3) false true ∧ fused (.fnmsfS r1 r2 r3) true true) ∧
  (∀ (s : State) (p1 p2 p3 : RegPair) (r1 r2 r3 : Reg),
     let d (r : RegPair) : DWord := s.regPair r
     let v (r : Reg) : DWord := (s.reg r).setWidth 64
     let double (i : Instr) (larger : Bool) : Prop := ∃ z, FpuDoes i s (.pair p3) (fpMaxMin s.prod .double larger z (d p2) (d p1))
     let single (i : Instr) (larger : Bool) : Prop := ∃ z, FpuDoes i s (.one r3) (fpMaxMin s.prod .single larger z (v r2) (v r1))
     double (.maxfD p1 p2 p3) true ∧ single (.maxfS r1 r2 r3) true ∧
     double (.minfD p1 p2 p3) false ∧ single (.minfS r1 r2 r3) false ∧
     (∃ k : Option Int, (s.prod.recipD = .rounded → k = none) ∧
       FpuDoes (.recipfD p2 p3) s (.pair p3) (fpRecip s.prod s.sys.fpsr .double recipCell k (d p2))) ∧
     (∃ k : Option Int, (s.prod.recipS = .rounded → k = none) ∧
       FpuDoes (.recipfS r2 r3) s (.one r3) (fpRecip s.prod s.sys.fpsr .single recipCell k (v r2))) ∧
     (∃ k : Option Int, (s.prod.rsqrtD = .rounded → k = none) ∧
       FpuDoes (.rsqrtfD p2 p3) s (.pair p3) (fpRecip s.prod s.sys.fpsr .double rsqrtCell k (d p2))) ∧
     (∃ k : Option Int, (s.prod.rsqrtS = .rounded → k = none) ∧
       FpuDoes (.rsqrtfS r2 r3) s (.one r3) (fpRecip s.prod s.sys.fpsr .single rsqrtCell k (v r2))))

/-- R640 to R682: the conversions to integers, rounding up (CEILF), down (FLOORF), to nearest (ROUNDF), toward zero (TRNCF) and in
the current mode (CVTF), to signed and unsigned words and double words. R641, R683 to R694: the conversions of integers to floating
point, and between the formats. The recording of what is detected (R583, R584) is general knowledge: the model's choice
(notes/assumptions/5.md), and so is IF on a trap (notes/assumptions/36.md). -/
def Obligations.FpuConversionsCompleteOrTrap : Prop :=
  (∀ (s : State) (p2 p3 : RegPair) (r2 r3 : Reg),
     let fromDouble (m : Option RMode) (dl dul dw duw : Instr) : Prop :=
       let r (signed : Bool) (width : Nat) : FpRes := fpToInt s.sys.fpsr .double m signed width (s.regPair p2)
       FpuDoes dl s (.pair p3) (r true 64) ∧ FpuDoes dul s (.pair p3) (r false 64) ∧
         FpuDoes dw s (.one r3) (r true 32) ∧ FpuDoes duw s (.one r3) (r false 32)
     let fromSingle (m : Option RMode) (sl sul sw suw : Instr) : Prop :=
       let r (signed : Bool) (width : Nat) : FpRes := fpToInt s.sys.fpsr .single m signed width ((s.reg r2).setWidth 64)
       FpuDoes sl s (.pair p3) (r true 64) ∧ FpuDoes sul s (.pair p3) (r false 64) ∧
         FpuDoes sw s (.one r3) (r true 32) ∧ FpuDoes suw s (.one r3) (r false 32)
     fromDouble (some .pos) (.ceilfDl p2 p3) (.ceilfDul p2 p3) (.ceilfDw p2 r3) (.ceilfDuw p2 r3) ∧
     fromSingle (some .pos) (.ceilfSl r2 p3) (.ceilfSul r2 p3) (.ceilfSw r2 r3) (.ceilfSuw r2 r3) ∧
     fromDouble (some .neg) (.floorfDl p2 p3) (.floorfDul p2 p3) (.floorfDw p2 r3) (.floorfDuw p2 r3) ∧
     fromSingle (some .neg) (.floorfSl r2 p3) (.floorfSul r2 p3) (.floorfSw r2 r3) (.floorfSuw r2 r3) ∧
     fromDouble (some .nearest) (.roundfDl p2 p3) (.roundfDul p2 p3) (.roundfDw p2 r3) (.roundfDuw p2 r3) ∧
     fromSingle (some .nearest) (.roundfSl r2 p3) (.roundfSul r2 p3) (.roundfSw r2 r3) (.roundfSuw r2 r3) ∧
     fromDouble (some .zero) (.trncfDl p2 p3) (.trncfDul p2 p3) (.trncfDw p2 r3) (.trncfDuw p2 r3) ∧
     fromSingle (some .zero) (.trncfSl r2 p3) (.trncfSul r2 p3) (.trncfSw r2 r3) (.trncfSuw r2 r3) ∧
     fromDouble none (.cvtfDl p2 p3) (.cvtfDul p2 p3) (.cvtfDw p2 r3) (.cvtfDuw p2 r3) ∧
     fromSingle none (.cvtfSl r2 p3) (.cvtfSul r2 p3) (.cvtfSw r2 r3) (.cvtfSuw r2 r3)) ∧
  (∀ (s : State) (p2 p3 : RegPair) (r2 r3 : Reg),
     let w := s.sys.fpsr
     let v : DWord := (s.reg r2).setWidth 64
     FpuDoes (.cvtfDs p2 r3) s (.one r3) (fpToFp s.prod w .double .single (s.regPair p2)) ∧
     FpuDoes (.cvtfSd r2 p3) s (.pair p3) (fpToFp s.prod w .single .double v) ∧
     FpuDoes (.cvtfSh r2 r3) s (.one r3) (fpToFp s.prod w .single .half v) ∧
     FpuDoes (.cvtfHs r2 r3) s (.one r3) (fpOfHalf s.prod w ((s.reg r2).setWidth 16)) ∧
     FpuDoes (.cvtfLd p2 p3) s (.pair p3) (fpOfInt w .double (s.regPair p2).toInt) ∧
     FpuDoes (.cvtfLs p2 r3) s (.one r3) (fpOfInt w .single (s.regPair p2).toInt) ∧
     FpuDoes (.cvtfUld p2 p3) s (.pair p3) (fpOfInt w .double (s.regPair p2).toNat) ∧
     FpuDoes (.cvtfUls p2 r3) s (.one r3) (fpOfInt w .single (s.regPair p2).toNat) ∧
     FpuDoes (.cvtfUws r2 r3) s (.one r3) (fpOfInt w .single (s.reg r2).toNat) ∧
     FpuDoes (.cvtfWs r2 r3) s (.one r3) (fpOfInt w .single (s.reg r2).toInt))

/-! ## Vectors (48_fxu.md, 49_fxu.md) -/

/-- R710 to R712, R721, R722, R725, R726: the FXU instructions that move elements, and the transfer of an element condition to Z.
R707, R713 to R716: the vector loads: the elements that the immediate selects take the word or double word at the address, the
others keep their values; LDVZ.H4 extends four halfwords. R707, R717 to R720: the vector stores put elements at the address, and end
a link whose bytes they touch. That a vector store ends such a link, where the other stores keep it, is the model's choice
(notes/assumptions/20.md). The levels of these exceptions are general knowledge (60_exceptions.md R801): the model's choice
(notes/assumptions/5.md). Which bytes an access at the top of the address space has, and how the MPU sees them, is the model's
reading of 20_memory.md R203 (notes/assumptions/28.md). -/
def Obligations.VectorMovesAndAccessesSelectElements : Prop :=
  (∀ (s : State) (imm2 : BitVec 2) (imm3 : BitVec 3) (imm12 : BitVec 12) (v1 v2 v3 v4 : VReg),
     let moves (i : Instr) (len : Nat) (w : Nat → Word) : Prop := FxuUnusable i s ∧ FxuMoves i s len v3 w
     let e (r : VReg) (k : Nat) : Word := wordElem (s.vreg r) k
     let sel (k : Nat) : Nat := imm12.toNat / 8 ^ k % 8
     let nonzero (k : Nat) : Prop := e v2 k ≠ 0
     moves (.movvW4 v2 v3) 4 (e v2) ∧
     moves (.flpvS4 imm2 v2 v3) 4 (fun k =>
       let x := if imm2.getLsbD 0 then e v2 (if k % 2 = 0 then k + 1 else k - 1) else e v2 k
       if (k % 2 = 1 ↔ imm2.getLsbD 1 = true) then x ^^^ 0x80000000 else x) ∧
     moves (.shflvW4 imm12 v1 v2 v3) 6 (fun k => if sel k < 4 then e v1 (sel k) else e v2 (sel k - 4)) ∧
     moves (.cmovfW4 v1 v2 v3 v4) 6 (fun k => if e v4 k = 0 then e v2 k else e v1 k) ∧
     moves (.absfS4 v2 v3) 4 (fun k => e v2 k &&& 0x7FFFFFFF) ∧
     moves (.negfS4 v2 v3) 4 (fun k => e v2 k ^^^ 0x80000000) ∧
     FxuUnusable (.trfsrvW4 imm3 v2) s ∧
     (s.psw.getLsbD 17 = true → Completes (.trfsrvW4 imm3 v2) s 4 noReg noByte 0x1 fun t => (t.zf = true ↔
       (imm3.toNat < 4 ∧ nonzero imm3.toNat) ∨ (imm3 = 4 ∧ ∀ k, k < 4 → nonzero k) ∨ (imm3 = 5 ∧ ∃ k, k < 4 ∧ nonzero k)))) ∧
  ((∀ (s : State) (imm4 : BitVec 4) (imm2 : BitVec 2) (d14 : BitVec 14) (d13 : BitVec 13) (d12 : BitVec 12) (reg1 : Reg) (v : VReg),
      let loads (i : Instr) (a : Word) (n : Nat) (w : Nat → Word) : Prop :=
        FxuUnusable i s ∧ (s.MayAccess a n [.read] → FxuMoves i s 6 v w)
      let a14 := s.reg reg1 + sextW (dispLow d14 2)
      let a13 := s.reg reg1 + sextW (dispLow d13 3)
      let a12 := s.reg reg1 + sextW (dispLow d12 4)
      let old (k : Nat) : Word := wordElem (s.vreg v) k
      loads (.ldvW imm4 d14 reg1 v) a14 4 (fun k => if imm4.getLsbD k then s.readWord a14 else old k) ∧
      loads (.ldvDw imm2 d13 reg1 v) a13 8
        (fun k => if imm2.getLsbD (k / 2) then s.readWord (a13 + BitVec.ofNat 32 (4 * (k % 2))) else old k) ∧
      loads (.ldvQw d12 reg1 v) a12 16 (fun k => s.readWord (a12 + BitVec.ofNat 32 (4 * k))) ∧
      loads (.ldvzH4 d13 reg1 v) a13 8 (fun k => (s.readHalf (a13 + BitVec.ofNat 32 (2 * k))).setWidth 32)) ∧
   (∀ (s : State) (imm2 : BitVec 2) (imm1 : BitVec 1) (d14 : BitVec 14) (d13 : BitVec 13) (d12 : BitVec 12) (reg1 : Reg) (v : VReg),
      s.memWf →
      let stores (i : Instr) (a : Word) (n : Nat) (post : State → Prop) : Prop :=
        FxuUnusable i s ∧ (s.psw.getLsbD 17 = true → s.MayAccess a n [.write] →
          ∃ t, exec i s = .next t ∧ s.NextAfter t 6 ∧ s.Frame t noReg (storedBytes a n) 0 ∧ t.wr = s.wr ∧ t.sys = s.sys ∧
            t.halt = s.halt ∧ post t ∧ t.link = { s.link with bit := t.link.bit } ∧
            (t.link.bit = true ↔ s.link.bit = true ∧
              ∀ b, storedBytes a n b → ¬ storedBytes s.link.adr s.link.size b))
      let e (k : Nat) : Word := wordElem (s.vreg v) k
      let a14 := s.reg reg1 + sextW (dispLow d14 2)
      let a13 := s.reg reg1 + sextW (dispLow d13 3)
      let a12 := s.reg reg1 + sextW (dispLow d12 4)
      stores (.stvW imm2 d14 reg1 v) a14 4 (fun t => t.readWord a14 = e imm2.toNat) ∧
      stores (.stvDw imm1 d13 reg1 v) a13 8
        (fun t => ∀ k, k < 2 → t.readWord (a13 + BitVec.ofNat 32 (4 * k)) = e (2 * imm1.toNat + k)) ∧
      stores (.stvQw d12 reg1 v) a12 16 (fun t => ∀ k, k < 4 → t.readWord (a12 + BitVec.ofNat 32 (4 * k)) = e k) ∧
      stores (.stvzH4 d13 reg1 v) a13 8
        (fun t => ∀ k, k < 4 → t.readHalf (a13 + BitVec.ofNat 32 (2 * k)) = (e k).setWidth 16)))

/-- R705, R706, R723, R727 to R739: the arithmetic of the FXU element by element; the larger and the smaller for some signs of
results of two zeros (notes/assumptions/38.md), the reciprocals correctly rounded, or for another product some offsets
(notes/assumptions/40.md), a comparison for any value in the elements that detect V (notes/assumptions/39.md). R760 to R774: the
conversions of the FXU, element by element. The recording of what is detected (48_fxu.md R704, R705) is general knowledge: the
model's choice (notes/assumptions/5.md), and so is IF on a trap (notes/assumptions/36.md). -/
def Obligations.VectorArithmeticIsElementwise : Prop :=
  (∀ (s : State) (fcond : BitVec 4) (v1 v2 v3 : VReg),
     let w := s.sys.fxsr
     let x (r : VReg) (k : Nat) : DWord := (wordElem (s.vreg r) k).setWidth 64
     let binary (i : Instr) (op : RMode → Fp → Fp → Cell) : Prop :=
       FxuDoes i s v3 fun k => fpArith2 s.prod w .single op (x v2 k) (x v1 k)
     let fused (i : Instr) (sub neg : Bool) : Prop := FxuDoes i s v3 fun k => fpFma s.prod w sub neg (x v2 k) (x v1 k) (x v3 k)
     let selects (i : Instr) (larger : Bool) : Prop :=
       ∃ z : Nat → Bool, FxuDoes i s v3 fun k => fpMaxMin s.prod .single larger (z k) (x v2 k) (x v1 k)
     binary (.addfS4 v1 v2 v3) addCell ∧ binary (.subfS4 v1 v2 v3) subCell ∧ binary (.mulfS4 v1 v2 v3) mulCell ∧
     binary (.divfS4 v1 v2 v3) divCell ∧ selects (.maxfS4 v1 v2 v3) true ∧ selects (.minfS4 v1 v2 v3) false ∧
     FxuDoes (.sqrtfS4 v2 v3) s v3 (fun k => fpSqrt s.prod w .single (x v2 k)) ∧
     (∃ o : Nat → Option Int, (s.prod.recipS = .rounded → ∀ k, o k = none) ∧
       FxuDoes (.recipfS4 v2 v3) s v3 fun k => fpRecip s.prod w .single recipCell (o k) (x v2 k)) ∧
     (∃ o : Nat → Option Int, (s.prod.rsqrtS = .rounded → ∀ k, o k = none) ∧
       FxuDoes (.rsqrtfS4 v2 v3) s v3 fun k => fpRecip s.prod w .single rsqrtCell (o k) (x v2 k)) ∧
     fused (.fmafS4 v1 v2 v3) false false ∧ fused (.fmsfS4 v1 v2 v3) true false ∧
     fused (.fnmafS4 v1 v2 v3) false true ∧ fused (.fnmsfS4 v1 v2 v3) true true ∧
     ∃ any : Nat → Word, FxuDoes (.cmpfS4 fcond v1 v2 v3) s v3 fun k =>
       let c := fpCompare .single fcond (x v2 k) (x v1 k)
       if c.1 then ⟨detV, (any k).setWidth 64, false⟩ else ⟨0, if c.2 then 0xFFFFFFFF else 0, false⟩) ∧
  (∀ (s : State) (v2 v3 : VReg),
     let w := s.sys.fxsr
     let e (k : Nat) : Word := wordElem (s.vreg v2) k
     let x (k : Nat) : DWord := (e k).setWidth 64
     let integers (m : Option RMode) (sw suw : Instr) : Prop :=
       FxuDoes sw s v3 (fun k => fpToInt w .single m true 32 (x k)) ∧ FxuDoes suw s v3 (fun k => fpToInt w .single m false 32 (x k))
     integers (some .nearest) (.roundfSw4 v2 v3) (.roundfSuw4 v2 v3) ∧ integers (some .zero) (.trncfSw4 v2 v3) (.trncfSuw4 v2 v3) ∧
     integers (some .pos) (.ceilfSw4 v2 v3) (.ceilfSuw4 v2 v3) ∧ integers (some .neg) (.floorfSw4 v2 v3) (.floorfSuw4 v2 v3) ∧
     integers none (.cvtfSw4 v2 v3) (.cvtfSuw4 v2 v3) ∧
     FxuDoes (.cvtfWs4 v2 v3) s v3 (fun k => fpOfInt w .single (e k).toInt) ∧
     FxuDoes (.cvtfUws4 v2 v3) s v3 (fun k => fpOfInt w .single (e k).toNat) ∧
     FxuDoes (.cvtfHs4 v2 v3) s v3 (fun k => fpOfHalf s.prod w ((e k).setWidth 16)) ∧
     FxuDoes (.cvtfSh4 v2 v3) s v3 (fun k => fpToFp s.prod w .single .half (x k)))

/-- R775 to R791: the arithmetic across elements. Element `k` of the result has one operation where `k` is odd and one where it is
even; its operands are those of wreg2 and wreg1 at `k`, or wreg1 at the other element of the pair, or the two elements of a pair of
wreg2 (odd) or wreg1 (even); the forms with N change the sign of a result that is no NaN. The recording of what is detected
(48_fxu.md R704, R705) is general knowledge: the model's choice (notes/assumptions/5.md), and so is IF on a trap
(notes/assumptions/36.md). The results of MAXRF.S4 and MINRF.S4 hold for some sign of a result of two zeros: which one is left open
(93_implementation_defined.md U9), and the model's choice (notes/assumptions/38.md). -/
def Obligations.VectorArithmeticAcrossElements : Prop :=
  ∀ (s : State) (v1 v2 v3 : VReg),
    let w := s.sys.fxsr
    let x (r : VReg) (k : Nat) : DWord := (wordElem (s.vreg r) k).setWidth 64
    let other (k : Nat) : Nat := if k % 2 = 0 then k + 1 else k - 1
    let pick (k : Nat) : VReg := if k % 2 = 1 then v2 else v1
    let flip (r : FpRes) : FpRes :=
      match decodeFp .single r.val with
      | .nan _ => r
      | _ => { r with val := r.val ^^^ 0x80000000 }
    let gives (i : Instr) (odd even : RMode → Fp → Fp → Cell) (neg : Bool) (b a : Nat → DWord) : Prop :=
      FxuDoes i s v3 fun k =>
        let r := fpArith2 s.prod w .single (if k % 2 = 1 then odd else even) (b k) (a k)
        if neg then flip r else r
    let same (i : Instr) (odd even : RMode → Fp → Fp → Cell) (neg : Bool) : Prop := gives i odd even neg (x v2) (x v1)
    let crossed (i : Instr) (odd even : RMode → Fp → Fp → Cell) (neg : Bool) : Prop :=
      gives i odd even neg (x v2) fun k => x v1 (other k)
    let reduced (i : Instr) (op : RMode → Fp → Fp → Cell) : Prop :=
      gives i op op false (fun k => x (pick k) (k / 2 * 2 + 1)) fun k => x (pick k) (k / 2 * 2)
    let selects (i : Instr) (larger : Bool) : Prop :=
      ∃ z : Nat → Bool, FxuDoes i s v3 fun k =>
        fpMaxMin s.prod .single larger (z k) (x (pick k) (k / 2 * 2 + 1)) (x (pick k) (k / 2 * 2))
    same (.addsubfS4 v1 v2 v3) addCell subCell false ∧ same (.subaddfS4 v1 v2 v3) subCell addCell false ∧
    same (.addsubnfS4 v1 v2 v3) addCell subCell true ∧ same (.subaddnfS4 v1 v2 v3) subCell addCell true ∧
    crossed (.addxfS4 v1 v2 v3) addCell addCell false ∧ crossed (.subxfS4 v1 v2 v3) subCell subCell false ∧
    crossed (.mulxfS4 v1 v2 v3) mulCell mulCell false ∧ crossed (.addsubxfS4 v1 v2 v3) addCell subCell false ∧
    crossed (.subaddxfS4 v1 v2 v3) subCell addCell false ∧ crossed (.addsubnxfS4 v1 v2 v3) addCell subCell true ∧
    crossed (.subaddnxfS4 v1 v2 v3) subCell addCell true ∧
    reduced (.addrfS4 v1 v2 v3) addCell ∧ reduced (.subrfS4 v1 v2 v3) subCell ∧ reduced (.mulrfS4 v1 v2 v3) mulCell ∧
    selects (.maxrfS4 v1 v2 v3) true ∧ selects (.minrfS4 v1 v2 v3) false

/-! ## The machine: reset, steps, interrupts, invariants -/

/-- 70_reset_and_hazards.md R931, R932, 11_sysregs.md R73 to R114: what the spec gives for reset; the bit of MPCFG that the spec
leaves open is the model's 0 (notes/assumptions/23.md). The values of ISPR, RBCR0, RBCR1, RBNR, TSCTRL, PMUMCTRL, PMGMCTRL and FPSR,
FXSR are general knowledge: the model's choice (notes/assumptions/5.md). The other registers hold the model's values
(notes/assumptions/2.md): the second clause says that a later reset gives them again. 70_reset_and_hazards.md R930: a step to which
the environment presents reset gives the state of R931; memory is kept, and nothing of the machine's own state survives but what
FEPC takes, if an instruction has completed before. -/
def Obligations.ResetLeavesTheStatedState : Prop :=
  (∀ p : Product,
     let s := State.resetOf p
     s.pc = p.rbase &&& 0xFFFFFE00 ∧ s.host.psw = 0x20 ∧ s.host.eipsw = 0x20 ∧ s.host.fepsw = 0x20 ∧ s.host.eiic = 0 ∧
       s.host.feic = 0 ∧ s.host.intcfg = 0x000F0000 ∧ s.host.plmr = 0x10 ∧ s.host.svlock = 0 ∧ s.host.mpm = 0 ∧
       s.sys.mctl = 0 ∧ s.sys.ispr = 0 ∧ s.sys.rbcr0 = 0 ∧ s.sys.rbnr = 0 ∧ s.cnt.tscount = 0 ∧ s.cnt.tsctrl = 0 ∧
       s.sys.pswh = 0 ∧ s.sys.eipswh = 0 ∧ s.sys.fepswh = 0 ∧ s.sys.ctpsw = 0 ∧ s.sys.gmcfg = 0 ∧ s.guest.psw = 0x8020 ∧
       s.guest.eipsw = 0x20 ∧ s.guest.fepsw = 0x20 ∧ s.guest.eiic = 0 ∧ s.guest.feic = 0 ∧ s.guest.svlock = 0 ∧
       s.guest.plmr = 0x10 ∧ s.guest.mpm = 0 ∧ s.mpu.mpcfg = (if p.mpuTwoBanks then 0x0012001F else 0x0002001F) ∧
       s.mpu.mpidx = 0 ∧ s.mpu.mpbk = 0 ∧
       (∀ n : Fin 32, s.mpu.bank0[n].mpat.getLsbD 7 = false ∧ s.mpu.bank1[n].mpat.getLsbD 7 = false) ∧
       s.guest.intcfg &&& 0x003FFFFF = 0x000F0002 ∧ s.sys.fxxc = 0 ∧ s.sys.fxxp = 0 ∧ s.cnt.pmumctrl = 0 ∧ s.cnt.pmgmctrl = 0 ∧
       (∀ n : Fin 8, s.cnt.pmctrl[n] = 0 ∧ s.cnt.pmsubcnd[n] = 0) ∧ s.host.spid = p.spidReset.setWidth 32 ∧
       s.host.spidlist = p.spidlist ∧ s.host.peid = p.peid.setWidth 32 ∧ s.sys.snzcfg = p.snzcfgReset.setWidth 32 ∧
       s.sys.rbcr1 = p.rbcr1Reset.setWidth 32 ∧ s.sys.dbgen = p.dbgenReset.setWidth 32 ∧
       s.sys.lscfg = p.lscfg ∧ s.sys.l1rcfg = p.l1rcfg ∧ s.sys.rdbcr = p.rdbcr ∧
       s.sys.fpsr = (p.fpsrReset &&& 0xFFCEFFFF ||| 0x00200000) ∧ s.sys.fxsr = (p.fxsrReset &&& 0x00CEFFFF ||| 0x00200000) ∧
       (s.hve = true ↔ p.hveReset = true ∧ s.hasHv = true) ∧ s.sys.icctrl = p.icctrlReset ∧
       s.link.bit = false ∧ s.halt = .running) ∧
  (∀ s : State, s.begin.env.reset = true →
     ∃ t, step s = .next t ∧ t.mem = s.begin.mem ∧ t.gpr = (State.resetOf s.prod).gpr ∧ t.pc = resetAddress s.prod ∧
       t.guest = (State.resetOf s.prod).guest ∧ (∀ r, r ≠ .fepc → t.host.get r = (State.resetOf s.prod).host.get r) ∧
       (∀ a, s.begin.lastPc = some a → t.host.fepc = a) ∧ t.sys = (State.resetOf s.prod).sys ∧
       t.mpu = (State.resetOf s.prod).mpu ∧ t.cnt = (State.resetOf s.prod).cnt ∧ t.link.bit = false ∧ t.halt = .running ∧
       t.prod = s.prod)

/-- R806, 20_memory.md R209, 30_encoding.md R301: where no reset and no interrupt comes first and the fetch is not stopped, a step
runs the instruction that the bytes at pc decode to, on the state at the start of the step; after it only the counters, the address
of the last completed instruction (notes/assumptions/12.md) and the model's counter of free values change, and a fetch from a device
is reported, with the SPID and in guest mode the GPID (20_memory.md R202, notes/assumptions/21.md). The start of a step takes the
next input of the environment, clears the outputs of the last step, puts what other masters and devices have written into memory
(20_memory.md R204, R215), notes that a SYSERR presented in guest mode was detected there (70_reset_and_hazards.md R944), and ends
the link where they wrote into it or the environment says so (43_special_stack_atomic.md R518 (d)). That the inputs stand in a
queue, one a step, is the model's choice (notes/assumptions/16.md). -/
def Obligations.StepRunsTheDecodedInstruction : Prop :=
  (∀ (s : State) (i : Instr) (n : Nat) (rest : List Byte),
     let s0 := s.begin
     s0.env.reset = false → s.halt = .running → s0.pick = none → s0.fetchStop = none →
     decodeBytes s.prod.enc s0.fetchBytes = .instr i n rest →
       ∀ u, exec i s0 = .next u → ∃ t, step s = .next t ∧
         t = { u with cnt := t.cnt, lastPc := t.lastPc, free := t.free, out := t.out } ∧
         (∃ tag, s.Tags s.mode tag ∧
           t.out = (if s.prod.touches .device s.pc s0.fetchLength then [.deviceRead tag s.pc s0.fetchLength] else []) ++ u.out) ∧
         (u.completed = true → t.lastPc = some s.pc)) ∧
  (∀ s : State,
     let e := s.inputs.headD s.env
     s.begin = { s with
         env := { e with writes := [], syserr := s.begin.env.syserr }, inputs := s.inputs.tail, out := [], link := s.begin.link, mem := s.begin.mem } ∧
       (s.memWf → ∀ a, s.begin.readByte a = ((e.writes.reverse.find? fun w => w.1 = a).map Prod.snd).getD (s.readByte a)) ∧
       s.begin.env.syserr = e.syserr.map (fun q => if s.mode = .guest then { q with guest := true } else q) ∧
       s.begin.link = { s.link with bit := s.begin.link.bit } ∧
       (s.begin.link.bit = true ↔
         s.link.bit = true ∧ e.linkLoss = false ∧ ∀ w ∈ e.writes, ¬ storedBytes s.link.adr s.link.size w.1))

/-- 60_exceptions.md R850, R851, 11_sysregs.md R150 to R156: after a step the timestamp counter has advanced, by any positive amount
(92_eei_decisions.md D8), if it was enabled before and after; each enabled performance counter has advanced by the number of its
events, and its overflow flag is set if it wrapped; nothing else changes but the address of the last completed instruction
(notes/assumptions/12.md) and the model's counter of free values. 60_exceptions.md R806: a step that no reset takes and HALT or
SNOOZE does not hold accepts the request of the highest priority, or fetches and runs an instruction. The layouts of TSCTRL and
PMCTRL are general knowledge (11_sysregs.md R152, R155), and so are that PMCOUNTn has 32 bits, wraps to 0 and sets OVF then (R156):
the model's choice (notes/assumptions/5.md); in which mode a counter counts, with CEN alone while HVE = 0, is R155's own inference;
what events 10H and 18H count is partly so (notes/assumptions/12.md, 15.md), and so are that event 22H counts FENMI, a terminating
MDP and a terminating SYSERR, that a step counts with the control register before it (notes/assumptions/15.md), and that the
timestamp counter keeps its value over a step that changes CEN (notes/assumptions/14.md). -/
def Obligations.StepsAdvanceTheCounters : Prop :=
  (∀ (s u : State) (ran : Bool),
     let t := s.finish ran u
     t = { u with
       cnt := { u.cnt with tscount := t.cnt.tscount, pmctrl := t.cnt.pmctrl, pmcount := t.cnt.pmcount }
       lastPc := if ran = true ∧ u.completed = true then some s.pc else u.lastPc
       free := t.free } ∧
     (if s.cnt.tsctrl.getLsbD 0 = true ∧ u.cnt.tsctrl.getLsbD 0 = true then
       ∃ n : Nat, 0 < n ∧ t.cnt.tscount = u.cnt.tscount + BitVec.ofNat 64 n else t.cnt.tscount = u.cnt.tscount) ∧
     ∀ k : Fin 8,
       let ctrl := s.cnt.pmctrl[k]
       let count := u.cnt.pmcount[k].toNat
       if ctrl.getLsbD 0 then
         ∃ n, s.Counts u ran ctrl n ∧ t.cnt.pmcount[k] = BitVec.ofNat 32 (count + n) ∧
           t.cnt.pmctrl[k] = if 2 ^ 32 ≤ count + n then u.cnt.pmctrl[k] ||| 2 else u.cnt.pmctrl[k]
       else t.cnt.pmcount[k] = u.cnt.pmcount[k] ∧ t.cnt.pmctrl[k] = u.cnt.pmctrl[k]) ∧
  (∀ s : State, s.begin.env.reset = false →
     let s0 := s.begin
     (s0.wake = none → step s = .next (s0.finish false s0.pause)) ∧
     ∀ s1, s0.wake = some s1 →
       (∀ a, s1.pick = some a → step s = mapNext (s1.finish false) (s1.accept a)) ∧
       (s1.pick = none → step s = mapNext (s1.finish true) (s1.fetchRun Sys2Proof.Machine.exec)))

/-- 20_memory.md R209: a fetch reads the bytes at pc upward, as many as the instruction that they decode to has (of the length of an
encoding that no instruction owns R301 says that it is immaterial). 21_mpu.md R262, R263, R264, R275, 60_exceptions.md R814 (a): the
MPU is asked for each of its halfwords from the lowest upward; the first one that it denies raises MIP, with its layer, before
anything is decoded, and where it permits all of them there is no MIP. Whether MIP writes MEA, with pc, as R265 and R814 (a) say, or
keeps it, as 11_sysregs.md R107 says, the product decides: the model's choice (notes/assumptions/52.md). 30_encoding.md R317, R319,
60_exceptions.md R810, R812: an encoding that no instruction owns raises RIE, or UCPOP where it lies in the area of a coprocessor
that may not be used; the area of coprocessor 2 always gives UCPOP 82H (notes/assumptions/6.md). The levels of these exceptions are
general knowledge (60_exceptions.md R801): the model's choice (notes/assumptions/5.md). R806 (d), R815: a fetch error that the
environment reports raises SYSERR 11H or 13H in the mode that GMCFG.GSYSE selects; which errors are which is general knowledge
(93_implementation_defined.md U24). A fetch from a reserved address raises SYSERR 11H, as 93_implementation_defined.md U2 allows: the
model's choice (notes/assumptions/21.md). -/
def Obligations.FetchesRaiseTheirExceptions : Prop :=
  (∀ s : State,
     s.fetchBytes.length = 8 ∧ (∀ k, k < 8 → s.fetchBytes[k]? = some (s.readByte (s.pc + BitVec.ofNat 32 k))) ∧
     (∀ i n rest, decodeBytes s.prod.enc s.fetchBytes = .instr i n rest → s.fetchLength = n) ∧
     (s.fetchViolation = none ↔ ∀ n, n < s.fetchLength / 2 → s.HalfwordDenied n = none)) ∧
  (∀ (s : State) (run : Instr → State → Out) (n : Nat) (l : Layer), n < s.fetchLength / 2 →
     (∀ j, j < n → s.HalfwordDenied j = none) → s.HalfwordDenied n = some l →
     let hm := s.ViolationMode l
     let cause : Word := (if l = .guest then 0x90 else 0x98) ||| BitVec.twoPow 32 (if s.um then 18 else 21)
     s.fetchViolation = some l ∧
     ∃ t, s.fetchRun run = .next t ∧ (t.ctx hm).mea = (if s.prod.mipWritesMea then s.pc else (s.ctx hm).mea) ∧
       (t.ctx hm).mei = (s.ctx hm).mei ∧ s.Enters t .fe cause s.pc (s.HandlerBase hm + 0x90) hm true errorAddress) ∧
  (∀ (s : State) (run : Instr → State → Out) (w : Nat),
     s.fetchStop = none → decodeBytes s.prod.enc s.fetchBytes = .undefined w →
       let raises (cause offset : Word) : Prop :=
         ∃ t, s.fetchRun run = .next t ∧ s.Enters t .fe cause s.pc (s.HandlerBase s.mode + offset) s.mode true noCtxReg
       let unusable (n : Nat) : Prop := coprocessorOf w = some n ∧ (n = 2 ∨ s.psw.getLsbD (16 + n) = false)
       (∀ n, unusable n → raises (BitVec.ofNat 32 (0x80 + n)) 0x80) ∧ ((∀ n, ¬ unusable n) → raises 0x60 0x60)) ∧
  (∀ (s : State) (run : Instr → State → Out), s.fetchViolation = none →
     let fetched : AccessShape := (s.pc, s.fetchLength, [.exec])
     let fails (cause : Word) : Prop :=
       let hm := s.SyserrMode s.mode
       ∃ t, s.fetchRun run = .next t ∧ s.Enters t .fe cause s.pc (s.HandlerBase hm + 0x10) hm true noCtxReg
     (s.Reaches .reserved fetched → fails 0x11) ∧
     (¬ s.Reaches .reserved fetched → (s.env.fetchError = some .bus → fails 0x11) ∧ (s.env.fetchError = some .safety → fails 0x13)) ∧
     (¬ s.Reaches .reserved fetched → s.env.fetchError = none → s.fetchStop = none))

/-- 60_exceptions.md R803, R831: what an EIINT, GMEIINT or BGEIINT that a step accepts has passed: its mode, its partition, and
every mask. R802, R806 (c): a step accepts an acknowledgeable request, of any kind, if there is one, and of the highest priority
among them; FEINT, GMFEINT and BGFEINT have masks of their own (NP, and for BGFEINT those of both contexts). 70_reset_and_hazards.md
R944: a terminating SYSERR that was detected during guest mode operation does not occur in host mode. The place of a SYSERR in that
order is the model's choice (notes/assumptions/50.md). The layout of ISPR, and that nothing masks FENMI, are general knowledge
(11_sysregs.md R110, R803): the model's choice (notes/assumptions/5.md). So is that a request bound to a guest is none while HVE = 0
(notes/assumptions/57.md). -/
def Obligations.AcceptedInterruptsAreUnmasked : Prop :=
  (∀ (s : State) (k : IntKind) (q : EiRequest), s.pick = some (.ei k q) →
     let p := q.prio.toNat
     let hostClear : Prop := s.host.psw.getLsbD 5 = false ∧ s.host.psw.getLsbD 7 = false
     let guestClear : Prop :=
       s.guest.psw.getLsbD 5 = false ∧ s.guest.psw.getLsbD 7 = false ∧ p < s.guest.plmr.toNat % 64 ∧
         p < s.guest.psw.toNat / 2 ^ 20 % 64
     (k = .eiint → q.guest = none ∧ hostClear ∧ p < s.host.plmr.toNat % 64 ∧
       if s.host.intcfg.getLsbD 1 then p < s.host.psw.toNat / 2 ^ 20 % 64
       else ∀ n, n < 16 → n ≤ p → s.sys.ispr.getLsbD n = false) ∧
     (k = .gmeiint → s.mode = .guest ∧ q.guest = some s.gpid ∧ guestClear) ∧
     (k = .bgeiint → s.mode = .guest ∧ q.guest ≠ none ∧ q.guest ≠ some s.gpid ∧ q.background = true ∧ guestClear ∧ hostClear) ∧
     (k = .eiint ∨ k = .gmeiint ∨ k = .bgeiint)) ∧
  (∀ s : State, (s.pick = none ↔ ∀ a, ¬ s.Acknowledgeable a) ∧
     ∀ a, s.pick = some a → s.Acknowledgeable a ∧ ∀ b, s.Acknowledgeable b → a.place ≤ b.place)

/-- 11_sysregs.md R111, R112, 60_exceptions.md R803, R831: in supervisor mode STSR from IMSR gives the masks that stand in the way
of the requests presented, the first of each request that masks it (`State.ImsrBit`), and every other bit 0; from ICSR, which exists
while HVE = 0, bit 0 of that. The places of the bits HFNP to HEEIM, FNP and ENP of IMSR, and the layout of ICSR, are general
knowledge: the model's choice (notes/assumptions/5.md). So is that a request bound to a guest shows no mask while HVE = 0
(notes/assumptions/57.md). -/
def Obligations.MaskStatusShowsTheFirstMask : Prop :=
  ∀ (s : State) (reg2 : Reg), s.um = false →
    let gives (regID : BitVec 5) (bit : Nat → Prop) : Prop :=
      ∃ v : Word, Writes (.stsr regID 2 reg2) s 4 reg2 v ∧ ∀ i, i < 32 → (v.getLsbD i = true ↔ bit i)
    gives 11 s.ImsrBit ∧ (s.hve = false → gives 12 fun i => i = 0 ∧ s.ImsrBit 0)

/-- R820: FENMI is accepted before anything else, whatever the masks, and is handled in host mode. R807, R821, R825: an EIINT by the
direct vector method, without a register bank, enters the handler of its priority in host mode with its channel in the cause; the
priority goes to EIMASK with EPL = 1, else to ISPR (0 to 15, unless ISPC is set). R820, R823, R824: FEINT, GMFEINT, BGFEINT and
BGEIINT, each at its level, in its mode, with its cause and offset; a GMEIINT by the direct vector method. That BGFEINT and BGEIINT
change neither ISPR nor EIMASK is R824's own inference. R815: a SYSERR that the environment reports, handled in the mode that
GMCFG.GSYSE selects; its entry is the model's choice (notes/assumptions/50.md). That an accepted request is withdrawn from the
environment, a background request not, is the model's choice (notes/assumptions/16.md). The levels of these exceptions are general
knowledge (60_exceptions.md R801): the model's choice (notes/assumptions/5.md). -/
def Obligations.InterruptsEnterTheirHandlers : Prop :=
  (∀ s : State, s.env.fenmi = true →
     ∃ t, s.runStep = .next t ∧
       ∃ u, s.Enters u .fe s.prod.causeFenmi s.pc (s.HandlerBase .host + 0xE0) .host false noCtxReg ∧
         t.pc = u.pc ∧ t.gpr = u.gpr ∧ t.host = u.host ∧ t.guest = u.guest ∧ t.sys = u.sys ∧ t.mpu = u.mpu ∧ t.wr = u.wr ∧
         t.mem = u.mem ∧ t.link = u.link ∧ t.halt = u.halt ∧ t.env = { s.env with fenmi := false }) ∧
  (∀ (s : State) (q : EiRequest), q.table = false →
     let p := q.prio.toNat
     let base := if s.host.psw.getLsbD 15 then s.host.ebase else s.prod.rbase
     let offset : Word := if base.getLsbD 0 then 0x100 else 0x100 + 0x10 * BitVec.ofNat 32 (if p < 16 then p else 15)
     let epl := s.host.intcfg.getLsbD 1
     ∃ t u, s.accept (.ei .eiint q) = .next t ∧
       s.Enters u .ei (s.prod.causeEiint + q.channel.setWidth 32) s.pc ((base &&& 0xFFFFFE00) + offset) .host false noCtxReg ∧
       t.pc = u.pc ∧ (∀ r, r ≠ .psw → t.host.get r = u.host.get r) ∧
       (∀ i, i < 32 → t.host.psw.getLsbD i =
         if epl = true ∧ 20 ≤ i ∧ i < 26 then q.prio.getLsbD (i - 20) else u.host.psw.getLsbD i) ∧
       t.guest = u.guest ∧ t.sys = { u.sys with ispr := t.sys.ispr } ∧
       (∀ n, n < 32 → (t.sys.ispr.getLsbD n = true ↔
         s.sys.ispr.getLsbD n = true ∨ (epl = false ∧ s.host.intcfg.getLsbD 0 = false ∧ n = p ∧ p < 16))) ∧
       t.gpr = u.gpr ∧ t.wr = u.wr ∧ t.mem = u.mem ∧ t.mpu = u.mpu ∧ t.link = u.link ∧ t.env = { s.env with ei := none }) ∧
  (∀ (s : State) (q : FeRequest) (e : EiRequest) (y : SyserrRequest),
     let takes (a : Accepted) (l : Level) (cause offset : Word) (hm : Mode) (epBit : Bool) (env : Env) : Prop :=
       ∃ t u, s.accept a = .next t ∧ t = { u with env := env, out := t.out } ∧
         s.Enters u l cause s.pc (s.HandlerBase hm + offset) hm epBit noCtxReg
     let fe := s.prod.causeFeint + q.channel.setWidth 32
     let background (g : Option (BitVec 3)) (channel : Word) : Word := (g.getD 0).setWidth 32 <<< 16 ||| channel
     takes (.fe .feint q) .fe fe 0xF0 .host false { s.env with fe := none } ∧
     takes (.fe .gmfeint q) .fe fe 0xF0 .guest false { s.env with fe := none } ∧
     takes (.fe .bgfeint q) .ei (0xD800 ||| background q.guest (q.channel.setWidth 32)) 0xD0 .host false s.env ∧
     takes (.ei .bgeiint e) .ei (0xD000 ||| background e.guest (e.channel.setWidth 32)) 0xD0 .host false s.env ∧
     takes (.syserr y) .fe (0x10 + y.code.setWidth 32) 0x10
       (if s.mode = .guest ∧ s.sys.gmcfg.getLsbD 4 = false then .guest else .host) true { s.env with syserr := none } ∧
     (e.table = false → ∃ t, s.accept (.ei .gmeiint e) = .next t ∧ s.EntersEi t e .guest false (s.DirectVector .guest e)))

/-- 60_exceptions.md R807, R821, R823, 61_virtualization.md R904, R905: an EIINT or GMEIINT whose channel selects the table
reference method goes to the word of the table at INTBP (to the direct vector where DV = 1), and, where RBCR0.BE has the bit of its
priority and banks can be used, first stores pc, PSW, cause, FPSR and general registers downward below RBIP, a bank further down for
each bank in use. R814 (c), R815: with no bank left the entry is cancelled by SYSERR 1CH, and the request stays; where the MPU,
asked for the supervisor of the handler's mode, denies the table word or a word of the bank, it is cancelled by MDP. The spec's own
inferences and decisions are: that check with the supervisor of the handler's mode (21_mpu.md R266), the causes 95H and 9DH of a
bank save too (R814 (c)), the use of banks in conventional mode (R904, 92_eei_decisions.md D32), and that the cause word saved is
that of this interrupt (R905, D33). The statement speaks of a GMEIINT at every mode of the state, though one is accepted in guest
mode only (R803). That the bank flag of the request takes no part, as R904 and 92_eei_decisions.md D32 say, is
notes/assumptions/51.md; the withdrawal of the accepted request is the model's choice (notes/assumptions/16.md), and so is that a
cancelled entry leaves EIPC, EIPSW and EIPSWH as it had saved them (notes/assumptions/13.md). The levels of these exceptions and the
layouts of RBCR0, RBCR1 and RBNR are general knowledge (60_exceptions.md R801, 11_sysregs.md R115 to R117): the model's choice
(notes/assumptions/5.md). A table word or a bank word at a reserved address cancels the entry with the SYSERR of the product: the
model's choice (notes/assumptions/21.md). So is that banks are used whatever PID bit 18 is (notes/assumptions/56.md). -/
def Obligations.InterruptsUseTablesAndBanks : Prop :=
  ∀ (s : State) (hm : Mode) (q : EiRequest), s.memWf → q.table = true →
    let k : IntKind := if hm = .guest then .gmeiint else .eiint
    let p := min q.prio.toNat 15
    let slot := (s.ctx hm).intbp + BitVec.ofNat 32 (4 * q.channel.toNat)
    let allowed (a : Word) (kind : AccessKind) : Prop :=
      s.mpuViolation hm a.toNat (a.toNat + 3) [kind] false = none ∧ s.Ordinary a 4
    let direct : Bool := (s.VectorReg hm).getLsbD 1
    let handler := if direct then s.DirectVector hm q else s.readWord slot
    let found : Prop := direct = true ∨ allowed slot .read
    let banked : Prop := s.sys.rbcr0.getLsbD p = true ∧ (hm = .guest ∨ s.hve = false)
    let bn := s.sys.rbnr.toNat % 64
    let full : Prop := (s.ctx hm).intcfg.toNat / 2 ^ 16 % 64 < bn ∨ bn = 63
    let big := s.sys.rbcr0.getLsbD 16
    let rs : List Nat := if big then (List.range 31).map (· + 1) else (List.range 19).map (· + 1) ++ [30]
    let words : List Word := [s.pc, (s.ctx hm).psw, s.prod.causeEiint + q.channel.setWidth 32, s.sys.fpsr] ++
      rs.map fun r => s.reg (BitVec.ofNat 5 r)
    let place : Nat → Word := s.BankPlace
    let save (j : Nat) (t : State) : State := t.writeWord (place j) (words.getD j 0)
    let n := words.length
    (found → ¬ banked → ∃ t, s.accept (.ei k q) = .next t ∧ s.EntersEi t q hm false handler) ∧
    (found → banked → ¬ full → (∀ j, j < n → allowed (place j) .write) →
      ∃ t, s.accept (.ei k q) = .next t ∧ s.EntersEi t q hm true handler ∧
        (∀ j, j < n → t.readWord (place j) = words.getD j 0) ∧
        ∀ a, (∀ j, j < n → ¬ storedBytes (place j) 4 a) → t.readByte a = s.readByte a) ∧
    (found → banked → full → s.CancelsWithSyserr (s.EntryBegun hm) k q hm 0x1C) ∧
    let cancelled (u : State) (a : Word) (kind : AccessKind) (itype rw bit : Nat) : Prop :=
      let violation := s.mpuViolation hm a.toNat (a.toNat + 3) [kind] false
      (∀ l, violation = some l → s.CancelsWithMdp u k q hm l a (meiRow 0 0 4 false itype rw) bit) ∧
      (violation = none → s.Reaches .reserved (a, 4, [kind]) → s.CancelsWithSyserr u k q hm s.prod.causeReserved)
    (direct = false → cancelled (s.EntryBegun hm) slot .read 21 0 19) ∧
    (found → banked → ¬ full → ∀ j, j < n → (∀ i, i < j → allowed (place i) .write) →
      cancelled (after (s.EntryBegun hm) save j) (place j) .write 22 1 20)

/-- 20_memory.md R202, 10_state.md R22, 11_sysregs.md R84, R103: the invariants of the data hold after reset, for every product. -/
def Obligations.ResetHasTheInvariants : Prop :=
  ∀ p : Product, let s := State.resetOf p
    s.memWf ∧ s.pcEven ∧ s.hvcfgLegal ∧ s.pswhLegal

/-- 60_exceptions.md R800, R806: no instruction and no step stops the machine: in every state each of them answers a next state, its
effect or the entry of an exception. That an access to a reserved address raises SYSERR (20_memory.md R204,
93_implementation_defined.md U2) is the model's choice (notes/assumptions/21.md), and so is that an instruction whose result the
spec leaves undefined goes on with a free value (notes/assumptions/47.md). -/
def Obligations.EveryStepAnswersANextState : Prop :=
  (∀ (i : Instr) (s : State), ∃ t, exec i s = .next t) ∧ ∀ s : State, s.goesOn

/-- 20_memory.md R200 to R202: every step keeps memory in its canonical form: addresses rising, inside the address space, no byte
equal to what an unlisted address reads as. -/
def Obligations.StepKeepsMemoryCanonical : Prop :=
  ∀ s t : State, s.memWf → step s = .next t → t.memWf

/-- 10_state.md R22, 11_sysregs.md R84, R85, R103: every step keeps bit 0 of pc at 0, HVE at 0 on a core without the virtualization
support function, PSWH at 0 while HVE = 0, and the reserved bits of PSWH, EIPSWH and FEPSWH at 0. -/
def Obligations.StepKeepsPcAndModeLegal : Prop :=
  ∀ s t : State, s.pcEven ∧ s.hvcfgLegal ∧ s.pswhLegal → step s = .next t → t.pcEven ∧ t.hvcfgLegal ∧ t.pswhLegal

/-- 61_virtualization.md R881, 11_sysregs.md R70, R158: no instruction run in user mode changes the MPU, a register that needs more
authority, a performance counter not opened to the mode, or the context that the mode after it does not use: it stays in user mode
and in its mode, keeps PSWH, EIPSWH and FEPSWH (R84, R85), and of its context's multiplexed registers changes PSW alone, and of that
(10_state.md R28) bits 4 to 0, and bit 5, ID, only where MCTL.UIC is 1 (DI and EI: R98, 44_system.md R530, R531), or it has taken an
exception, which leaves user mode with ID = 1. FPSR, FPEPC, FXSR, FXXC and FXXP are apart: the FPU and the FXU record in them, and
FPST, FPCC, FPCFG, FXST and FXCFG write to two of them without more authority (R182 to R188). That bit n of PMUMCTRL opens the
registers of channel n is general knowledge (11_sysregs.md R153) and the order of its test with PMGMCTRL R158's own inference: the
model's choice (notes/assumptions/5.md). -/
def Obligations.UserModeKeepsProtectedRegisters : Prop :=
  ∀ (i : Instr) (s t : State), s.um = true → exec i s = .next t →
    t.mpu = s.mpu ∧ t.prod = s.prod ∧
      (∀ m, ∀ r ∈ [CtxReg.eiwr, .fewr, .spid, .spidlist, .ebase, .intbp, .svlock, .peid, .intcfg, .plmr, .mpm],
        (t.ctx m).get r = (s.ctx m).get r) ∧
      (∀ r ∈ [SReg.hvcfg, .gmcfg, .hvsb, .mctl, .sccfg, .scbp, .snzcfg, .ispr, .rbcr0, .rbcr1, .rbnr, .rbip, .dbgen, .icctrl,
          .iccfg, .icerr, .ictagl, .ictagh, .icdatl, .icdath, .tscountl, .tscounth, .tsctrl, .pmumctrl, .pmgmctrl, .lscfg,
          .l1rcfg, .rdbcr],
        t.readSr r = s.readSr r) ∧
      (∀ n : Fin 8, s.cnt.pmumctrl.getLsbD n = false ∨ (s.mode = .guest ∧ s.cnt.pmgmctrl.getLsbD n = false) →
        t.cnt.pmctrl[n] = s.cnt.pmctrl[n] ∧ t.cnt.pmcount[n] = s.cnt.pmcount[n] ∧ t.cnt.pmsubcnd[n] = s.cnt.pmsubcnd[n]) ∧
      (∀ m, m ≠ t.mode → t.ctx m = s.ctx m) ∧
      ((t.um = true ∧ t.mode = s.mode ∧ (∀ r, r ≠ .psw → t.cur.get r = s.cur.get r) ∧
          t.sys.pswh = s.sys.pswh ∧ t.sys.eipswh = s.sys.eipswh ∧ t.sys.fepswh = s.sys.fepswh ∧
          ∀ j, 5 ≤ j → (j = 5 → s.sys.mctl.getLsbD 0 = false) → t.psw.getLsbD j = s.psw.getLsbD j) ∨
        (t.um = false ∧ t.psw.getLsbD 5 = true))

/-! ## Encoding (30_encoding.md) -/

/-- R300, R301, R318: for every well-formed instruction with every operand at every value, the bytes that the encoder gives decode
to it, with its length and the bytes that follow. R318, R324: every well-formed instruction has an encoding, but for the three whose
encodings the sources have lost. The length of LD.W and LD.DW with a displacement of 23 bits is six bytes, as their formats say and
the test that R301 prints does not: the model's reading (notes/assumptions/46.md); that Enc.default supplies no encoding of HVTRAP,
LDM.GSR and STM.GSR is the model's choice (notes/assumptions/29.md). -/
def Obligations.DecodeReadsWhatEncodeWrites : Prop :=
  (∀ (i : Instr) (bytes rest : List Byte), i.wellFormed = true → encodeBytes Enc.default i = some bytes →
     decodeBytes Enc.default (bytes ++ rest) = .instr i bytes.length rest) ∧
  (∀ i : Instr, i.wellFormed = true →
     ((encodeBytes Enc.default i).isSome = true ↔
       (∀ v, i ≠ .hvtrap v) ∧ (∀ r, i ≠ .ldmGsr r) ∧ (∀ r, i ≠ .stmGsr r)))

/-- R302 to R307: six words written out from the formats and the rows of the opcode table (ADD, ADDI, DIV, NOP, JMP) decode to their
instructions. -/
def Obligations.SampleWordsDecode : Prop :=
  decodeTableWord 16 0b00100_001110_00011 = some (.addF1 3 4) ∧
  decodeTableWord 16 0b00111_010010_11111 = some (.addF2 0x1F 7) ∧
  decodeTableWord 32 0b1111111111111110_00101_110000_00110 = some (.addi 0xFFFE 6 5) ∧
  decodeTableWord 32 0b01000_01011_000000_00110_111111_00101 = some (.div 5 6 8) ∧
  decodeTableWord 16 0b00000_00000_000000 = some .nop ∧
  decodeTableWord 16 0b0000000001100011 = some (.jmpF1 3)
end

