-- ==== Sys2Proof/Laws/Frame.lean ====
section
/-!
SUPPORT. Frames compose: what each update of the state leaves alone, and how frames of consecutive updates join.
-/

namespace Sys2Proof.Machine

theorem State.Frame.refl (s : State) : s.Frame s noReg noByte 0 :=
  ⟨fun _ _ => rfl, fun _ _ => rfl, rfl, rfl, fun _ _ _ => rfl, rfl, rfl, rfl, rfl, rfl, rfl, rfl⟩

theorem State.SameUnits.refl (s : State) : s.SameUnits s := ⟨rfl, rfl, rfl, rfl⟩

theorem State.SameUnits.trans {s t u : State} (h : s.SameUnits t) (k : t.SameUnits u) : s.SameUnits u :=
  ⟨k.vectors.trans h.vectors, k.system.trans h.system, k.link.trans h.link, k.standby.trans h.standby⟩

/-- Bits outside a larger mask. -/
theorem masked_mono {v w m n : Word} (h : v &&& ~~~ m = w &&& ~~~ m) (hmn : m &&& ~~~ n = 0) :
    v &&& ~~~ n = w &&& ~~~ n := by
  have e : ∀ x : Word, x &&& ~~~ n = (x &&& ~~~ m) &&& ~~~ n := by
    intro x
    apply BitVec.eq_of_getLsbD_eq
    intro i hi
    have := congrArg (fun y : Word => y.getLsbD i) hmn
    simp only [BitVec.getLsbD_and, BitVec.getLsbD_not, hi, decide_true, Bool.true_and] at this ⊢
    revert this
    cases m.getLsbD i <;> cases n.getLsbD i <;> cases x.getLsbD i <;> simp
  rw [e v, e w, h]

/-- A frame may be widened. -/
theorem State.Frame.mono {s t : State} {d d' : Reg → Prop} {b b' : Word → Prop} {m m' : Word} (h : s.Frame t d b m)
    (hd : ∀ r, d r → d' r) (hb : ∀ a, b a → b' a) (hm : m &&& ~~~ m' = 0) : s.Frame t d' b' m' :=
  ⟨fun r k => h.regs r fun e => k (hd r e), fun a k => h.bytes a fun e => k (hb a e), h.mode, masked_mono h.psw hm,
    h.contexts, h.mpu, h.counters, h.product, h.environment⟩

/-- Frames of two consecutive updates. -/
theorem State.Frame.trans {s t u : State} {d : Reg → Prop} {b : Word → Prop} {m : Word} (h : s.Frame t d b m)
    (k : t.Frame u d b m) : s.Frame u d b m := by
  refine ⟨fun r e => (k.regs r e).trans (h.regs r e), fun a e => (k.bytes a e).trans (h.bytes a e), k.mode.trans h.mode,
    k.psw.trans h.psw, fun m r e => ?_, k.mpu.trans h.mpu, k.counters.trans h.counters, k.product.trans h.product, ?_⟩
  · rw [k.contexts m r (by rw [h.mode]; exact e), h.contexts m r e]
  · obtain ⟨a1, a2, a3, a4⟩ := h.environment
    obtain ⟨b1, b2, b3, b4⟩ := k.environment
    exact ⟨b1.trans a1, b2.trans a2, b3.trans a3, b4.trans a4⟩

theorem only_self (r : Reg) : only r r := rfl

/-! ## The frame of each update -/

theorem State.setPsw_get (s : State) (w : Word) (m : Mode) (r : CtxReg) (h : ¬ (m = s.mode ∧ r = CtxReg.psw)) :
    ((s.setPsw w).ctx m).get r = (s.ctx m).get r := by
  unfold State.setPsw
  rw [State.setCtx_ctx]
  split
  · subst_vars
    have : r ≠ .psw := fun e => h ⟨rfl, e⟩
    cases r <;> simp_all [Ctx.get, State.cur]
  · rfl

theorem State.frame_setReg (s : State) (d : Reg) (v : Word) {D : Reg → Prop} {B : Word → Prop} {m : Word} (hd : D d) :
    s.Frame (s.setReg d v) D B m := by
  refine ⟨fun r h => State.setReg_reg_ne _ _ _ _ fun e => h (e ▸ hd), ?_, ?_, ?_, ?_, ?_, ?_, ?_, ?_⟩ <;> simp

theorem State.frame_setPsw (s : State) (w : Word) {D : Reg → Prop} {B : Word → Prop} {m : Word}
    (h : w &&& ~~~ m = s.psw &&& ~~~ m) : s.Frame (s.setPsw w) D B m := by
  refine ⟨?_, ?_, ?_, ?_, fun k r e => State.setPsw_get _ _ _ _ e, ?_, ?_, ?_, ?_⟩ <;> simp [h]

theorem State.frame_setFlags (s : State) (f : Flags) {D : Reg → Prop} {B : Word → Prop} {m : Word}
    (hm : 0xF &&& ~~~ m = 0) : s.Frame (s.setFlags f) D B m :=
  State.frame_setPsw _ _ (masked_mono (putMasked_outside ..) hm)

theorem State.frame_setFlagsNoCy (s : State) (f : Flags) {D : Reg → Prop} {B : Word → Prop} {m : Word}
    (hm : 0x7 &&& ~~~ m = 0) : s.Frame (s.setFlagsNoCy f) D B m :=
  State.frame_setPsw _ _ (masked_mono (putMasked_outside ..) hm)

/-- Bits of a word other than the one replaced. -/
theorem putBit_outside (w : Word) (i : Nat) (hi : i < 32) (b : Bool) :
    putBit w i b &&& ~~~ BitVec.twoPow 32 i = w &&& ~~~ BitVec.twoPow 32 i := by
  apply BitVec.eq_of_getLsbD_eq
  intro k hk
  simp only [BitVec.getLsbD_and, BitVec.getLsbD_not, putBit_getLsbD _ _ _ _ hi, BitVec.getLsbD_twoPow]
  by_cases h : k = i <;> simp_all

theorem State.frame_setZ (s : State) (z : Bool) {D : Reg → Prop} {B : Word → Prop} {m : Word} (hm : 1 &&& ~~~ m = 0) :
    s.Frame (s.setZ z) D B m :=
  State.frame_setPsw _ _ (masked_mono (m := 1) (putBit_outside _ 0 (by omega) _) hm)

theorem State.frame_setSat (s : State) (b : Bool) {D : Reg → Prop} {B : Word → Prop} {m : Word}
    (hm : 0x10 &&& ~~~ m = 0) : s.Frame (s.setSat b) D B m := by
  refine State.frame_setPsw _ _ (masked_mono (m := 0x10) ?_ hm)
  cases b
  · rfl
  · show putBit s.psw 4 true &&& ~~~ BitVec.twoPow 32 4 = s.psw &&& ~~~ BitVec.twoPow 32 4
    exact putBit_outside _ 4 (by omega) _

theorem State.frame_advance (s : State) (n : Nat) {D : Reg → Prop} {B : Word → Prop} {m : Word} :
    s.Frame (s.advance n) D B m := by
  refine ⟨?_, ?_, ?_, ?_, ?_, ?_, ?_, ?_, ?_⟩ <;> simp

theorem State.frame_jump (s : State) (a : Word) {D : Reg → Prop} {B : Word → Prop} {m : Word} :
    s.Frame (s.jump a) D B m := by
  refine ⟨?_, ?_, ?_, ?_, ?_, ?_, ?_, ?_, ?_⟩ <;> simp

theorem State.frame_skipFree (s : State) (n : Nat) {D : Reg → Prop} {B : Word → Prop} {m : Word} :
    s.Frame (s.skipFree n) D B m := by
  refine ⟨?_, ?_, ?_, ?_, ?_, ?_, ?_, ?_, ?_⟩ <;> simp

/-- A change of memory alone. -/
theorem State.frame_mem (s : State) (x : List Host.Cell) {D : Reg → Prop} {B : Word → Prop} {m : Word}
    (h : ∀ a : Word, ¬ B a → Memory.read x a.toNat = s.readByte a) : s.Frame { s with mem := x } D B m :=
  ⟨fun _ _ => rfl, h, rfl, rfl, fun _ _ _ => rfl, rfl, rfl, rfl, rfl, rfl, rfl, rfl⟩

theorem State.units_setReg (s : State) (d : Reg) (v : Word) : s.SameUnits (s.setReg d v) := by
  constructor <;> simp
theorem State.units_setPsw (s : State) (w : Word) : s.SameUnits (s.setPsw w) := by constructor <;> simp

/-! ## The shared operations of the integer instructions: everything each can do -/

variable {s : State} {i : Instr} {P : State → Prop}

/-- `State.plain`: one register. -/
theorem State.plain_completes {dst : Reg} {v : Word} {len : Nat} (h : exec i s = s.plain dst v len) :
    Writes i s len dst v := by
  refine ⟨_, h, by simp [State.NextAfter], (State.frame_setReg _ _ _ (only_self _)).trans (State.frame_advance _ _),
    ⟨by simp, by simp, by simp, by simp⟩, ?_⟩
  simp only [State.Holds, State.advance_reg]
  exact State.setReg_reg_same _ _ _

/-- `State.arith`: one register and the four flags. -/
theorem State.arith_completes {dst : Reg} {r : Word × Flags} {len : Nat} (h : exec i s = s.arith dst r len)
    (hp : ∀ t : State, t.Holds dst r.1 → t.cy = r.2.cy → t.ov = r.2.ov → t.sf = r.2.s → t.zf = r.2.z → P t) :
    Completes i s len (only dst) noByte 0xF P := by
  refine ⟨_, h, by simp [State.NextAfter], ((State.frame_setReg _ _ _ (only_self _)).trans (State.frame_setFlags _ _ rfl)).trans
    (State.frame_advance _ _), ⟨by simp, by simp, by simp, by simp⟩, ?_⟩
  have hf := State.setFlags_flags (s.setReg dst r.1) r.2
  apply hp
  · simp only [State.Holds, State.advance_reg, State.setFlags_reg]
    exact State.setReg_reg_same _ _ _
  · simpa [State.cy] using hf.1
  · simpa [State.ov] using hf.2.1
  · simpa [State.sf] using hf.2.2.1
  · simpa [State.zf] using hf.2.2.2.1

/-- `State.logic`: one register, OV 0, S and Z. -/
theorem State.logic_completes {dst : Reg} {r : Word} {len : Nat} (h : exec i s = s.logic dst r len) :
    GivesLogical i s len dst r := by
  refine ⟨_, h, by simp [State.NextAfter], ((State.frame_setReg _ _ _ (only_self _)).trans (State.frame_setFlagsNoCy _ _ rfl)).trans
    (State.frame_advance _ _), ⟨by simp, by simp, by simp, by simp⟩, ?_⟩
  have hf := State.setFlagsNoCy_flags (s.setReg dst r) (logFlags r)
  refine ⟨?_, ?_, ?_, ?_⟩
  · simp only [State.Holds, State.advance_reg, State.setFlagsNoCy_reg]
    exact State.setReg_reg_same _ _ _
  · simpa [State.ov, logFlags] using hf.2.1
  · have := hf.2.2.1
    simp only [State.sf, State.advance_psw] at this ⊢
    rw [this]
    simp only [logFlags, signFlag, BitVec.msb_eq_toInt, decide_eq_true_eq]
  · have := hf.2.2.2.1
    simp only [State.zf, State.advance_psw] at this ⊢
    rw [this]
    simp only [logFlags, zeroFlag, beq_iff_eq]

/-- `State.saturated`: one register, the four flags, SAT sticky. -/
theorem State.saturated_completes {dst : Reg} {f : Flags} {r : Word} {len : Nat} (h : exec i s = s.saturated dst f r len)
    (hp : ∀ t : State, t.Holds dst r → t.cy = f.cy → t.ov = f.ov → t.sf = signFlag r → t.zf = zeroFlag r →
      t.sat = (s.sat || f.ov) → P t) :
    Completes i s len (only dst) noByte 0x1F P := by
  refine ⟨_, h, by simp [State.NextAfter], (((State.frame_setReg _ _ _ (only_self _)).trans (State.frame_setFlags _ _ rfl)).trans
    (State.frame_setSat _ _ rfl)).trans (State.frame_advance _ _), ⟨by simp, by simp, by simp, by simp⟩, ?_⟩
  have hf := State.setFlags_flags (s.setReg dst r) (satFlags f r)
  obtain ⟨h1, h2, h3, h4, h5⟩ := hf
  simp only [State.cy, State.ov, State.sf, State.zf, State.sat] at h1 h2 h3 h4 h5
  apply hp
  · simp only [State.Holds, State.advance_reg, State.setSat_reg, State.setFlags_reg]
    exact State.setReg_reg_same _ _ _
  all_goals
    simp only [State.cy, State.ov, State.sf, State.zf, State.sat, State.advance_psw, State.setSat_psw]
    cases hov : f.ov <;> simp_all [putBit_getElem, satFlags, BitVec.getLsbD_eq_getElem]

/-- A register keeps what it holds. -/
theorem State.holds_self (s : State) (r : Reg) : s.Holds r (s.reg r) := by
  unfold State.Holds
  split
  · subst_vars; exact State.reg_zero s
  · rfl

theorem State.holds_setReg (s : State) (r : Reg) (v : Word) : (s.setReg r v).Holds r v := State.setReg_reg_same _ _ _

theorem State.holds_setReg_ne (s : State) {r d : Reg} {v w : Word} (h : s.Holds r v) (hd : r ≠ d) :
    (s.setReg d w).Holds r v := by
  unfold State.Holds at *
  rw [State.setReg_reg_ne _ _ _ _ hd, h]

theorem State.holds_congr {s t : State} {r : Reg} {v : Word} (h : s.Holds r v) (e : t.reg r = s.reg r) : t.Holds r v :=
  e.trans h

/-- `State.product`: the low word, then the high word. -/
theorem State.product_completes {lo hi : Reg} {p : DWord} (h : exec i s = s.product lo hi p) :
    Completes i s 4 (fun r => r = lo ∨ r = hi) noByte 0 fun t =>
      t.Holds hi (p.extractLsb' 32 32) ∧ (lo ≠ hi → t.Holds lo (p.extractLsb' 0 32)) := by
  refine ⟨_, h, by simp [State.NextAfter], ((State.frame_setReg _ _ _ (.inl rfl)).trans (State.frame_setReg _ _ _ (.inr rfl))).trans
    (State.frame_advance _ _), ⟨by simp, by simp, by simp, by simp⟩, ?_, fun hd => ?_⟩
  · exact State.holds_congr (State.holds_setReg (s.setReg lo (p.extractLsb' 0 32)) hi (p.extractLsb' 32 32)) (by simp)
  · exact State.holds_congr (State.holds_setReg_ne (w := p.extractLsb' 32 32) _ (State.holds_setReg s lo _) hd) (by simp)

/-- The end of a division, from the state `u` that holds the quotient. -/
theorem State.divide_tail {u : State} {q r : Reg} {rem : Word} {f : Flags} {v : Word}
    (hf : s.Frame u (fun k => k = q ∨ k = r) noByte 7) (hs : s.SameUnits u) (hpc : u.pc = s.pc) (hh : u.Holds q v)
    (h : exec i s = if q = r then
      .next ((((u.setReg r rem).setFlagsNoCy
        ⟨false, Config.freeBit s.free, Config.freeBit (s.free + 1), Config.freeBit (s.free + 2)⟩).skipFree 3).advance 4)
      else .next (((u.setReg r rem).setFlagsNoCy f).advance 4)) :
    Completes i s 4 (fun k => k = q ∨ k = r) noByte 0x7 fun t =>
      t.Holds r rem ∧ (q ≠ r → t.Holds q v ∧ t.ov = f.ov ∧ t.sf = f.s ∧ t.zf = f.z) := by
  by_cases e : q = r
  · rw [if_pos e] at h
    refine ⟨_, h, ?_, (((hf.trans (State.frame_setReg _ _ _ (.inr rfl))).trans (State.frame_setFlagsNoCy _ _ (by rfl))).trans
      (State.frame_skipFree _ _)).trans (State.frame_advance _ _), ?_, ?_, fun hd => (hd e).elim⟩
    · simp [State.NextAfter, hpc]
    · exact hs.trans ⟨by simp, by simp, by simp, by simp⟩
    · exact State.holds_congr (State.holds_setReg u r rem) (by simp)
  · rw [if_neg e] at h
    refine ⟨_, h, ?_, ((hf.trans (State.frame_setReg _ _ _ (.inr rfl))).trans (State.frame_setFlagsNoCy _ _ (by rfl))).trans
      (State.frame_advance _ _), ?_, ?_, fun _ => ⟨?_, ?_⟩⟩
    · simp [State.NextAfter, hpc]
    · exact hs.trans ⟨by simp, by simp, by simp, by simp⟩
    · exact State.holds_congr (State.holds_setReg u r rem) (by simp)
    · exact State.holds_congr (State.holds_setReg_ne (w := rem) _ hh e) (by simp)
    · obtain ⟨-, h2, h3, h4, -⟩ := State.setFlagsNoCy_flags (u.setReg r rem) f
      exact ⟨h2, h3, h4⟩

/-- `State.divide2`: quotient and remainder with OV, S and Z; where they go to one register, the remainder and any OV, S and Z. -/
theorem State.divide2_completes {q r : Reg} {d : Division} (h : exec i s = s.divide2 q r d) :
    Completes i s 4 (fun k => k = q ∨ k = r) noByte 0x7 fun t =>
      t.Holds r d.remainder ∧
        (q ≠ r → t.Holds q (d.quotient.getD (s.reg q)) ∧ t.ov = d.flags.ov ∧ t.sf = d.flags.s ∧ t.zf = d.flags.z) := by
  obtain ⟨_ | v, rem, f⟩ := d
  · exact State.divide_tail (u := s) ((State.Frame.refl s).mono (fun _ h => h.elim) (fun _ h => h) (by simp)) (.refl s) rfl
      (State.holds_self _ _) h
  · exact State.divide_tail (u := s.setReg q v) (State.frame_setReg _ _ _ (.inl rfl)) (State.units_setReg _ _ _) (by simp)
      (State.holds_setReg _ _ _) h

end Sys2Proof.Machine
end

