-- ==== Sys2Proof/Laws/Access.lean ====
section
/-!
SUPPORT. Memory access by instructions: when an access is performed, and everything a load, a store, a block or a frame transfer then
does.
-/

namespace Sys2Proof.Machine

variable {s : State} {i : Instr}

/-! ## When an access is performed -/

/-- Bytes of ordinary memory lie in no region of a kind. -/
theorem State.Ordinary.touches {a : Word} {n : Nat} (h : s.Ordinary a n) (kind : RegionKind) :
    s.prod.touches kind a n = false := by
  simp only [Product.touches, List.any_eq_false, Bool.and_eq_true, not_and, Bool.not_eq_true]
  exact fun r hr _ => h r hr

/-- An access to ordinary memory is not reported. -/
theorem State.noteDevice_ordinary {a : Word} {n : Nat} {ks : List AccessKind} {k : Out} (h : s.Ordinary a n) :
    s.noteDevice a n ks k = k := by
  simp [State.noteDevice, h.touches]

/-- A report changes nothing but what the environment is told. -/
theorem State.noteDevice_next {a : Word} {n : Nat} {ks : List AccessKind} {k : Out} {t : State}
    (h : s.noteDevice a n ks k = .next t) : ∃ u, k = .next u ∧ t = { u with out := t.out } := by
  unfold State.noteDevice at h
  split at h
  · cases k with
    | next u =>
      simp only [mapNext, Host.Outcome.next.injEq] at h
      exact ⟨u, rfl, by rw [← h]⟩
    | fault r => cases h
    | refused r => cases h
  · exact ⟨t, h, rfl⟩

/-- A region that an access touches is one that it reaches. -/
theorem State.touches_iff_reaches {kind : RegionKind} {a : Word} {n : Nat} {ks : List AccessKind} :
    s.prod.touches kind a n = true ↔ s.Reaches kind (a, n, ks) := by
  simp only [Product.touches, Region.holds, List.any_eq_true, Bool.and_eq_true, beq_iff_eq, List.mem_range, decide_eq_true_eq,
    State.Reaches, storedBytes]
  constructor
  · rintro ⟨g, hg, hk, k, hn, h⟩
    refine ⟨g, hg, hk, a + BitVec.ofNat 32 k, ?_, h⟩
    rw [add_sub_cancel_left, BitVec.toNat_ofNat]
    exact lt_of_le_of_lt (Nat.mod_le _ _) hn
  · rintro ⟨g, hg, hk, b, hn, h⟩
    refine ⟨g, hg, hk, (b - a).toNat, hn, ?_⟩
    rwa [BitVec.ofNat_toNat, BitVec.setWidth_eq, add_sub_cancel]

/-- What an access carries is the tag of the mode in use. -/
theorem State.tags_accessTag : s.Tags s.mode s.accessTag := by
  refine ⟨by simp [State.accessTag, Ctx.spid5, State.cur, BitVec.extractLsb'_toNat], fun g => ?_⟩
  cases h : s.mode with
  | host => simp [State.accessTag, h]
  | guest =>
    simp only [State.accessTag, h, Option.some.injEq, true_and, ← BitVec.toNat_inj, State.gpid, BitVec.extractLsb'_toNat,
      Nat.shiftRight_eq_div_pow]
    exact eq_comm

/-- Everything a report can do: where what follows an access answers `u`, the access is reported ahead of it, or is none of a device. -/
theorem State.noteDevice_reports {a : Word} {n : Nat} {ks : List AccessKind} {u : State} :
    ∃ es, s.Reports u s.mode (a, n, ks) es ∧ s.noteDevice a n ks (.next u) = .next { u with out := es ++ u.out } := by
  by_cases h : s.prod.touches .device a n = true
  · refine ⟨ks.map (deviceEvent s.accessTag u a n), ⟨fun _ => ⟨_, s.tags_accessTag, ?_⟩, fun k => ?_⟩, ?_⟩
    · exact List.map_congr_left fun k _ => by cases k <;> rfl
    · exact absurd (State.touches_iff_reaches.mp h) k
    · simp [State.noteDevice, h, mapNext]
  · refine ⟨[], ⟨fun k => absurd (State.touches_iff_reaches.mpr k) h, fun _ => rfl⟩, ?_⟩
    simp [State.noteDevice, h]

/-- A report depends on the memory map, on the tag of the mode, and on memory as the instruction leaves it. -/
theorem State.Reports.congr {s' u u' : State} {m : Mode} {x : AccessShape} {es : List Event} (h : s.Reports u m x es)
    (hp : s'.prod = s.prod) (hc : (s'.ctx m).spid = (s.ctx m).spid) (hy : s'.sys.pswh = s.sys.pswh) (hm : u'.mem = u.mem) :
    s'.Reports u' m x es := by
  have hr : ∀ a, u'.readByte a = u.readByte a := fun a => by simp [State.readByte, hm]
  refine ⟨fun k => ?_, fun k => h.2 (by simpa [State.Reaches, hp] using k)⟩
  obtain ⟨tag, ht, e⟩ := h.1 (by simpa [State.Reaches, hp] using k)
  refine ⟨tag, by simpa [State.Tags, hc, hy] using ht, e.trans (List.map_congr_left fun k _ => ?_)⟩
  cases k <;> simp [hr]

/-- A permitted access whose alignment is not checked, or is right, is performed. -/
theorem State.denied_none {x : Access} {user : Bool} (ha : x.aligned = false ∨ misaligned x.adr x.size = false)
    (h : s.Permits x.adr x.size x.kinds user) : s.denied x user = none := by
  unfold State.denied
  rw [if_neg (by rcases ha with e | e <;> simp [e]), h.1]
  simp [State.reservedStop, h.2.touches]

theorem State.checked_ok {x : Access} {user : Bool} {k : Out} (ha : x.aligned = false ∨ misaligned x.adr x.size = false)
    (h : s.Permits x.adr x.size x.kinds user) : s.checked x user k = k := by
  rw [State.checked, State.denied_none ha h]

theorem State.access_ok {x : Access} {k : Out} (ha : x.aligned = false ∨ misaligned x.adr x.size = false)
    (h : s.Permits x.adr x.size x.kinds s.um) : s.access x k = k := by
  rw [State.access, State.checked_ok ha h, State.noteDevice_ordinary h.2]

/-- An aligned and permitted access is performed. -/
theorem State.access_may {x : Access} {k : Out} (h : s.MayAccess x.adr x.size x.kinds) : s.access x k = k :=
  State.access_ok (.inr h.1) h.2

/-- A misaligned access raises MAE. -/
theorem State.checked_mae {x : Access} {user : Bool} {k : Out} (ha : x.aligned = true) (h : misaligned x.adr x.size = true) :
    s.checked x user k = s.raiseMae x := by
  simp [State.checked, State.denied, ha, h]

theorem State.access_mae {x : Access} {k : Out} (ha : x.aligned = true) (h : misaligned x.adr x.size = true) :
    s.access x k = s.raiseMae x := State.checked_mae ha h

/-- An access that the MPU denies raises MDP. -/
theorem State.checked_mdp {x : Access} {user : Bool} {k : Out} {l : Layer}
    (ha : x.aligned = false ∨ misaligned x.adr x.size = false)
    (h : s.mpuViolation s.mode x.adr.toNat (x.adr.toNat + x.size - 1) x.kinds user = some l) :
    s.checked x user k = s.raiseMdp x l user := by
  rw [State.checked, State.denied, if_neg (by rcases ha with e | e <;> simp [e]), h]

theorem State.access_mdp {x : Access} {k : Out} {l : Layer} (ha : x.aligned = false ∨ misaligned x.adr x.size = false)
    (h : s.mpuViolation s.mode x.adr.toNat (x.adr.toNat + x.size - 1) x.kinds s.um = some l) :
    s.access x k = s.raiseMdp x l s.um := State.checked_mdp ha h

/-! ## Stores -/

theorem State.frame_writeByte (h : s.memWf) (a : Word) (v : Byte) {D : Reg → Prop} {m : Word} :
    s.Frame (s.writeByte a v) D (storedBytes a 1) m :=
  State.frame_mem _ _ fun b hb => by
    have := State.readByte_writeByte s h a v b
    rwa [if_neg (fun e => hb (by subst e; unfold storedBytes; bv_omega))] at this

theorem State.frame_writeHalf (h : s.memWf) (a : Word) (v : Half) {D : Reg → Prop} {m : Word} :
    s.Frame (s.writeHalf a v) D (storedBytes a 2) m := by
  refine ⟨?_, fun b hb => State.readByte_writeHalf_outside s h a v b hb, ?_, ?_, ?_, ?_, ?_, ?_, ?_⟩ <;> simp

theorem State.frame_writeWord (h : s.memWf) (a : Word) (v : Word) {D : Reg → Prop} {m : Word} :
    s.Frame (s.writeWord a v) D (storedBytes a 4) m := by
  refine ⟨?_, fun b hb => State.readByte_writeWord_outside s h a v b hb, ?_, ?_, ?_, ?_, ?_, ?_, ?_⟩ <;> simp

theorem State.frame_writeDWord (h : s.memWf) (a : Word) (v : DWord) {D : Reg → Prop} {m : Word} :
    s.Frame (s.writeDWord a v) D (storedBytes a 8) m := by
  refine ⟨?_, fun b hb => State.readByte_writeDWord_outside s h a v b hb, ?_, ?_, ?_, ?_, ?_, ?_, ?_⟩ <;> simp

theorem State.frame_writeQWord (h : s.memWf) (a : Word) (v : QWord) {D : Reg → Prop} {m : Word} :
    s.Frame (s.writeQWord a v) D (storedBytes a 16) m := by
  refine ⟨?_, fun b hb => State.readByte_writeQWord_outside s h a v b hb, ?_, ?_, ?_, ?_, ?_, ?_, ?_⟩ <;> simp

theorem State.frame_storeValue (h : s.memWf) (a : Word) (z : Size) (v : Word) {D : Reg → Prop} {m : Word} :
    s.Frame (s.storeValue a z v) D (storedBytes a z.bytes) m := by
  cases z
  · exact State.frame_writeByte h _ _
  · exact State.frame_writeHalf h _ _
  · exact State.frame_writeWord h _ _

theorem State.stands_storeValue (h : s.memWf) (a : Word) (z : Size) (v : Word) : (s.storeValue a z v).Stands a z v := by
  cases z
  · show (s.writeByte a (v.extractLsb' 0 8)).readByte a = v.setWidth 8
    rw [State.readByte_writeByte _ h, if_pos rfl]
    apply BitVec.eq_of_getLsbD_eq
    intro k hk
    simp [hk]
  · show (s.writeHalf a (v.extractLsb' 0 16)).readHalf a = v.setWidth 16
    rw [State.readHalf_writeHalf _ h]
    apply BitVec.eq_of_getLsbD_eq
    intro k hk
    simp [hk]
  · exact State.readWord_writeWord _ h _ _

theorem State.units_storeValue (a : Word) (z : Size) (v : Word) : s.SameUnits (s.storeValue a z v) := by
  cases z <;> constructor <;> simp [State.storeValue]

@[simp] theorem State.storeValue_pc (a : Word) (z : Size) (v : Word) : (s.storeValue a z v).pc = s.pc := by
  cases z <;> simp [State.storeValue]

@[simp] theorem State.storeValue_reg (a : Word) (z : Size) (v : Word) (r : Reg) : (s.storeValue a z v).reg r = s.reg r := by
  cases z <;> simp [State.storeValue]

/-- What stands in memory does not depend on a register or the pc. -/
theorem State.stands_congr {t u : State} {a : Word} {z : Size} {v : Word} (h : t.Stands a z v) (e : u.mem = t.mem) :
    u.Stands a z v := by
  cases z <;> simp_all [State.Stands, State.readWord, State.readHalf, State.readByte]

/-! ## Loads and stores of one register -/

theorem State.loaded_eq (a : Word) (z : Size) (u : Bool) : s.loadValue a z u = s.Loaded a z u := by
  cases z <;> cases u <;> rfl

/-- `State.loadTo` without an update of the base. -/
theorem State.loadTo_completes {x : Access} {z : Size} {u : Bool} {dst : Reg} {len : Nat}
    (h : exec i s = s.loadTo x z u dst none len) (hm : s.MayAccess x.adr x.size x.kinds) :
    Writes i s len dst (s.Loaded x.adr z u) := by
  rw [State.loadTo, State.access_may hm, State.loaded_eq] at h
  exact State.plain_completes h

/-- `State.loadTo` with an update of the base. -/
theorem State.loadTo_update_completes {x : Access} {z : Size} {u : Bool} {dst r : Reg} {v : Word} {len : Nat}
    (h : exec i s = s.loadTo x z u dst (some (r, v)) len) (hm : s.MayAccess x.adr x.size x.kinds) :
    Completes i s len (fun k => k = r ∨ k = dst) noByte 0 fun t => t.Holds r v ∧ (r ≠ dst → t.Holds dst (s.Loaded x.adr z u)) := by
  rw [State.loadTo, State.access_may hm, State.loaded_eq] at h
  refine ⟨_, h, by simp [State.NextAfter], ((State.frame_setReg _ _ _ (.inr rfl)).trans (State.frame_setReg _ _ _ (.inl rfl))).trans
    (State.frame_advance _ _), ⟨by simp, by simp, by simp, by simp⟩, ?_, fun hd => ?_⟩
  · exact State.holds_congr (State.holds_setReg (s.setReg dst (s.Loaded x.adr z u)) r v) (by simp)
  · exact State.holds_congr (State.holds_setReg_ne (w := v) _ (State.holds_setReg s dst _) (Ne.symm hd)) (by simp)

/-- 20_memory.md R201: byte `k` of what stands at an address is at the address plus `k`. -/
theorem State.Stands.byte {t : State} {a : Word} {z : Size} {v : Word} (h : t.Stands a z v) {k : Nat} (hk : k < z.bytes) :
    t.readByte (a + BitVec.ofNat 32 k) = v.extractLsb' (8 * k) 8 := by
  cases z
  · obtain rfl : k = 0 := by simp only [Size.bytes] at hk; omega
    have h : t.readByte a = v.setWidth 8 := h
    have e : v.extractLsb' 0 8 = v.setWidth 8 := by
      apply BitVec.eq_of_getLsbD_eq
      intro i hi
      simp [hi]
    simpa [e] using h
  · have h : t.readHalf a = v.setWidth 16 := h
    simp only [Size.bytes] at hk
    rw [← extract_setWidth v hk, ← h, State.readHalf, byte_of_half _ _ hk]
    interval_cases k <;> simp
  · have h : t.readWord a = v := h
    simp only [Size.bytes] at hk
    rw [← h, State.readWord_bytes, byte_of_word _ _ _ _ hk]
    interval_cases k <;> simp

/-- `State.storeFrom` without an update of the base. -/
theorem State.storeFrom_completes {x : Access} {z : Size} {src : Reg} {len : Nat} (hw : s.memWf)
    (h : exec i s = s.storeFrom x z src none len) (hm : s.MayAccess x.adr x.size x.kinds) :
    Completes i s len noReg (storedBytes x.adr z.bytes) 0 fun t => t.Stands x.adr z (s.reg src) := by
  rw [State.storeFrom, State.access_may hm] at h
  exact ⟨_, h, by simp [State.NextAfter], (State.frame_storeValue hw _ _ _).trans (State.frame_advance _ _),
    (State.units_storeValue x.adr z (s.reg src)).trans ⟨by simp, by simp, by simp, by simp⟩,
    State.stands_congr (State.stands_storeValue hw _ _ _) rfl⟩

/-- `State.storeFrom` with an update of the base. -/
theorem State.storeFrom_update_completes {x : Access} {z : Size} {src r : Reg} {v : Word} {len : Nat} (hw : s.memWf)
    (h : exec i s = s.storeFrom x z src (some (r, v)) len) (hm : s.MayAccess x.adr x.size x.kinds) :
    Completes i s len (only r) (storedBytes x.adr z.bytes) 0 fun t => t.Holds r v ∧ t.Stands x.adr z (s.reg src) := by
  rw [State.storeFrom, State.access_may hm] at h
  refine ⟨_, h, by simp [State.NextAfter], ((State.frame_storeValue hw _ _ _).trans (State.frame_setReg _ _ _ (only_self _))).trans
    (State.frame_advance _ _), (State.units_storeValue x.adr z (s.reg src)).trans ⟨by simp, by simp, by simp, by simp⟩, ?_,
    State.stands_congr (State.stands_storeValue hw _ _ _) (by simp)⟩
  exact State.holds_congr (State.holds_setReg (s.storeValue x.adr z (s.reg src)) r v) (by simp)

end Sys2Proof.Machine
end

