-- ==== Sys2Proof/Laws/Blocks.lean ====
section
/-!
SUPPORT. Transfers of several words: everything that the stack frames (43_special_stack_atomic.md R504 to R507) and the block transfers
(44_system.md R542 to R546) do, when every word is permitted.
-/

namespace Sys2Proof.Machine

/-! ## Word addresses -/

theorem wordAddress_toNat (a : Word) : (wordAddress a).toNat = a.toNat / 4 * 4 := by
  have h : wordAddress a = (a >>> 2) <<< 2 := by
    apply BitVec.eq_of_getLsbD_eq
    intro i hi
    simp only [wordAddress, BitVec.getLsbD_and, BitVec.getLsbD_shiftLeft, BitVec.getLsbD_ushiftRight]
    have : (0xFFFFFFFC : Word).getLsbD i = decide (2 ≤ i) := by
      revert i
      decide
    rw [this]
    by_cases h2 : 2 ≤ i
    · simp [h2, hi, show 2 + (i - 2) = i by omega]
      omega
    · simp [h2]
      omega
  rw [h]
  have := a.isLt
  simp [Nat.shiftLeft_eq, Nat.shiftRight_eq_div_pow]
  omega

/-- A word `k` places above a base stands `4 * k` bytes above the base's own word. -/
theorem wordAddress_add (a : Word) (k : Nat) :
    wordAddress (a + BitVec.ofNat 32 (4 * k)) = wordAddress a + BitVec.ofNat 32 (4 * k) := by
  apply BitVec.eq_of_toNat_eq
  rw [wordAddress_toNat]
  simp only [BitVec.toNat_add, wordAddress_toNat, BitVec.toNat_ofNat]
  omega

/-- Different words of one block do not overlap. -/
theorem words_apart {a b : Word} {j k : Nat} (hj : j < 2 ^ 30) (hk : k < 2 ^ 30) (h : j ≠ k)
    (hb : storedBytes (wordAddress (a + BitVec.ofNat 32 (4 * j))) 4 b) :
    ¬ storedBytes (wordAddress (a + BitVec.ofNat 32 (4 * k))) 4 b := by
  rw [wordAddress_add] at hb ⊢
  unfold storedBytes at *
  simp only [BitVec.toNat_sub, BitVec.toNat_add, BitVec.toNat_ofNat] at *
  have := (wordAddress a).isLt
  have := b.isLt
  omega

theorem wordAddress_eq_block (a : Word) (k : Nat) : wordAddress (a + BitVec.ofNat 32 (4 * k)) = blockAddress a k := rfl

theorem wordAddress_misaligned (a : Word) : misaligned (wordAddress a) 4 = false := by
  simp [misaligned, wordAddress_toNat]

/-! ## Memory alone changed -/

/-- `u` is `s` with another memory. -/
def State.MemOnly (s u : State) : Prop := u = { s with mem := u.mem }

theorem State.memOnly_writeWord (s : State) (a v : Word) : s.MemOnly (s.writeWord a v) := rfl

theorem State.MemOnly.trans {s t u : State} (h : s.MemOnly t) (k : t.MemOnly u) : s.MemOnly u := by
  unfold State.MemOnly at *
  rw [h] at k
  exact k

theorem State.MemOnly.permits {s u : State} (h : s.MemOnly u) (a : Word) (n : Nat) (ks : List AccessKind) (b : Bool) :
    u.Permits a n ks b ↔ s.Permits a n ks b := by
  rw [h]
  rfl

theorem State.MemOnly.um {s u : State} (h : s.MemOnly u) : u.um = s.um := by
  rw [h]
  rfl

theorem State.MemOnly.pc {s u : State} (h : s.MemOnly u) : u.pc = s.pc := by rw [h]

theorem State.MemOnly.reg {s u : State} (h : s.MemOnly u) (r : Reg) : u.reg r = s.reg r := by
  rw [h]
  rfl

/-- A change of memory alone inside `B` is framed, and keeps the units. -/
theorem State.MemOnly.frame {s u : State} (h : s.MemOnly u) {D : Reg → Prop} {B : Word → Prop} {m : Word}
    (hb : ∀ b, ¬ B b → u.readByte b = s.readByte b) : s.Frame u D B m := by
  rw [h] at hb ⊢
  exact State.frame_mem s _ hb

theorem State.MemOnly.units {s u : State} (h : s.MemOnly u) : s.SameUnits u := by
  rw [h]
  exact ⟨rfl, rfl, rfl, rfl⟩

/-! ## Stores -/

/-- Words stored at the places `at_ 0`, `at_ 1`, …, no two overlapping. -/
theorem State.storeWords_spec {α : Type} (run : List α → Nat → State → (State → Out) → Out) (value : α → Word) (place : Nat → Word)
    (N : Nat) (hnil : ∀ j s k, run [] j s k = k s)
    (hcons : ∀ x xs j s k, s.Permits (place j) 4 [.write] s.um →
      run (x :: xs) j s k = run xs (j + 1) (s.writeWord (place j) (value x)) k)
    (apart : ∀ i j b, i < N → j < N → i ≠ j → storedBytes (place i) 4 b → ¬ storedBytes (place j) 4 b) :
    ∀ (xs : List α) (j : Nat) (s : State) (k : State → Out), s.memWf → j + xs.length ≤ N →
      (∀ i, j ≤ i → i < j + xs.length → s.Permits (place i) 4 [.write] s.um) →
      ∃ u, run xs j s k = k u ∧ s.MemOnly u ∧ u.memWf ∧
        (∀ b, (∀ i, j ≤ i → i < j + xs.length → ¬ storedBytes (place i) 4 b) → u.readByte b = s.readByte b) ∧
        (∀ i x, xs[i]? = some x → u.readWord (place (j + i)) = value x) := by
  intro xs
  induction xs with
  | nil => exact fun j s k hw _ _ => ⟨s, hnil j s k, rfl, hw, fun _ _ => rfl, fun i x h => by simp at h⟩
  | cons x xs ih =>
    intro j s k hw hN hp
    have hw' := State.memWf_writeWord s hw (place j) (value x)
    have hm := State.memOnly_writeWord s (place j) (value x)
    simp only [List.length_cons] at hN hp
    obtain ⟨u, h1, h2, h3, h4, h5⟩ := ih (j + 1) (s.writeWord (place j) (value x)) k hw' (by omega) (by
      intro i h h'
      rw [hm.permits, hm.um]
      exact hp i (by omega) (by omega))
    refine ⟨u, ?_, hm.trans h2, h3, ?_, ?_⟩
    · rw [hcons _ _ _ _ _ (hp j (by omega) (by omega)), h1]
    · intro b hb
      simp only [List.length_cons] at hb
      rw [h4 b (fun i h h' => hb i (by omega) (by omega)),
        State.readByte_writeWord_outside _ hw _ _ _ (hb j (by omega) (by omega))]
    · intro i y hy
      match i with
      | 0 =>
        simp only [List.getElem?_cons_zero, Option.some.injEq] at hy
        subst hy
        have same : ∀ n, n < 4 → u.readByte (place j + BitVec.ofNat 32 n) =
            (s.writeWord (place j) (value x)).readByte (place j + BitVec.ofNat 32 n) := by
          intro n hn
          apply h4
          intro i h h' hs
          exact apart j i _ (by omega) (by omega) (by omega) (by unfold storedBytes; bv_omega) hs
        have : u.readWord (place j) = (s.writeWord (place j) (value x)).readWord (place j) := by
          have e0 := same 0 (by omega)
          have e1 := same 1 (by omega)
          have e2 := same 2 (by omega)
          have e3 := same 3 (by omega)
          have e4 : place j + 2 + 1 = place j + 3 := by bv_omega
          simp only [BitVec.add_zero] at e0 e1 e2 e3
          unfold State.readWord State.readHalf
          rw [e4]
          exact congrArg₂ _ (congrArg₂ _ e3 e2) (congrArg₂ _ e1 e0)
        rw [Nat.add_zero, this, State.readWord_writeWord _ hw]
      | i + 1 =>
        have := h5 i y (by simpa using hy)
        rw [show j + 1 + i = j + (i + 1) by omega] at this
        exact this

variable {s : State}

/-- Two stored words of a block do not overlap. -/
theorem block_apart (a : Word) {i j : Nat} (b : Word) (hi : i < 2 ^ 30) (hj : j < 2 ^ 30) (h : i ≠ j)
    (hb : storedBytes (blockAddress a i) 4 b) : ¬ storedBytes (blockAddress a j) 4 b :=
  words_apart hi hj h hb

/-- `storeBlock`, every word permitted: the words stand at ascending addresses, and nothing else changes. -/
theorem State.storeBlock_spec {α : Type} (itype : BitVec 5) (get : State → α → Word) (hget : ∀ t u x, t.MemOnly u → get u x = get t x)
    (xs : List α) (a : Word) (k : State → Out) (hw : s.memWf) (hl : xs.length ≤ 2 ^ 30) (hp : s.PermitsBlock a xs.length .write) :
    ∃ u, storeBlock itype get xs a s k = k u ∧ s.MemOnly u ∧ u.memWf ∧
      (∀ b, ¬ blockBytes a xs.length b → u.readByte b = s.readByte b) ∧
      (∀ i x, xs[i]? = some x → u.readWord (blockAddress a i) = get s x) := by
  have run (xs : List α) (j : Nat) (t : State) (k : State → Out) (ht : s.MemOnly t) :
      storeBlock itype get xs (a + BitVec.ofNat 32 (4 * j)) t k =
        storeBlock itype (fun _ => get s) xs (a + BitVec.ofNat 32 (4 * j)) t k := by
    induction xs generalizing j t with
    | nil => rfl
    | cons x xs ih =>
      simp only [storeBlock]
      have e : a + BitVec.ofNat 32 (4 * j) + 4 = a + BitVec.ofNat 32 (4 * (j + 1)) := by
        rw [Nat.mul_add, BitVec.ofNat_add]; exact BitVec.add_assoc ..
      rw [e, hget s t x ht, ih (j + 1) _ (ht.trans (State.memOnly_writeWord ..))]
  obtain ⟨u, h1, h2, h3, h4, h5⟩ := State.storeWords_spec
    (fun xs j t k => storeBlock itype (fun _ => get s) xs (a + BitVec.ofNat 32 (4 * j)) t k) (get s) (blockAddress a) (2 ^ 30)
    (fun _ _ _ => rfl) (by
      intro x xs j t k h
      have e : a + BitVec.ofNat 32 (4 * j) + 4 = a + BitVec.ofNat 32 (4 * (j + 1)) := by
        rw [Nat.mul_add, BitVec.ofNat_add]; exact BitVec.add_assoc ..
      show storeBlock _ _ (x :: xs) _ t k = _
      simp only [storeBlock]
      rw [e, State.access_ok (.inl rfl) h]
      rfl)
    (fun i j b hi hj h => block_apart a b hi hj h) xs 0 s k hw (by omega) (fun i _ h => hp i (by omega))
  refine ⟨u, ?_, h2, h3, fun b hb => h4 b fun i _ h hs => hb ⟨i, by omega, hs⟩, fun i x h => ?_⟩
  · rw [← h1, ← run xs 0 s k rfl]
    simp
  · have := h5 i x h
    rwa [Nat.zero_add] at this

/-- `pushRegs`, every word permitted: the registers stand below `tmp`, the first highest, and nothing else changes. -/
theorem State.pushRegs_spec (mei values : Reg → Word) (rs : List Reg) (tmp : Word) (k : Word → State → Out) (hw : s.memWf)
    (hl : rs.length < 2 ^ 30) (hp : s.PermitsBlock (tmp - BitVec.ofNat 32 (4 * rs.length)) rs.length .write) :
    ∃ u, pushRegs mei values rs tmp s k = k (tmp - BitVec.ofNat 32 (4 * rs.length)) u ∧ s.MemOnly u ∧ u.memWf ∧
      (∀ b, ¬ blockBytes (tmp - BitVec.ofNat 32 (4 * rs.length)) rs.length b → u.readByte b = s.readByte b) ∧
      (∀ i r, rs.reverse[i]? = some r →
        u.readWord (blockAddress (tmp - BitVec.ofNat 32 (4 * rs.length)) i) = values r) := by
  generalize hn : rs.length = n at *
  have place (j : Nat) (hj : j < n) : wordAddress (tmp - BitVec.ofNat 32 (4 * (j + 1))) =
      blockAddress (tmp - BitVec.ofNat 32 (4 * n)) (n - 1 - j) := by
    rw [← wordAddress_eq_block]
    congr 1
    bv_omega
  obtain ⟨u, h1, h2, h3, h4, h5⟩ := State.storeWords_spec
    (fun xs j t k => pushRegs mei values xs (tmp - BitVec.ofNat 32 (4 * j)) t fun _ => k) values
    (fun j => wordAddress (tmp - BitVec.ofNat 32 (4 * (j + 1)))) n
    (fun _ _ _ => rfl) (by
      intro x xs j t k h
      have e : tmp - BitVec.ofNat 32 (4 * j) - 4 = tmp - BitVec.ofNat 32 (4 * (j + 1)) := by
        bv_omega
      show pushRegs _ _ (x :: xs) _ t _ = _
      simp only [pushRegs]
      rw [e, State.access_ok (.inl rfl) h])
    (fun i j b hi hj h => by
      rw [place i hi, place j hj]
      exact block_apart _ b (by omega) (by omega) (by omega)) rs 0 s (fun u => k (tmp - BitVec.ofNat 32 (4 * n)) u) hw (by omega)
    (fun i _ h => by
      rw [place i (by omega)]
      exact hp _ (by omega))
  refine ⟨u, ?_, h2, h3, fun b hb => h4 b fun i _ h hs => hb ⟨n - 1 - i, by omega, ?_⟩, fun i r h => ?_⟩
  · rw [← h1]
    have gen : ∀ (rs : List Reg) (j : Nat) (t : State), j + rs.length = n →
        pushRegs mei values rs (tmp - BitVec.ofNat 32 (4 * j)) t k =
        pushRegs mei values rs (tmp - BitVec.ofNat 32 (4 * j)) t fun _ u => k (tmp - BitVec.ofNat 32 (4 * n)) u := by
      intro rs
      induction rs with
      | nil =>
        intro j t h
        simp only [List.length_nil, Nat.add_zero] at h
        simp only [pushRegs, h]
      | cons x xs ih =>
        intro j t h
        have e : tmp - BitVec.ofNat 32 (4 * j) - 4 = tmp - BitVec.ofNat 32 (4 * (j + 1)) := by bv_omega
        simp only [pushRegs]
        rw [e, ih (j + 1) _ (by simp only [List.length_cons] at h; omega)]
    have := gen rs 0 s (by omega)
    simpa using this
  · rw [← place i (by omega)]
    exact hs
  · have hi : i < n := by
      have := (List.getElem?_eq_some_iff.mp h).1
      simpa [hn] using this
    rw [List.getElem?_reverse (by omega), hn] at h
    have := h5 (n - 1 - i) r h
    rw [Nat.zero_add, place _ (by omega)] at this
    rwa [show n - 1 - (n - 1 - i) = i by omega] at this

/-! ## Loads -/

/-- What a load of a block may rely on: memory, privilege and permissions are those at its start. -/
def State.LoadsAs (s t : State) : Prop :=
  t.mem = s.mem ∧ t.um = s.um ∧ ∀ a, s.Permits a 4 [.read] s.um → t.Permits a 4 [.read] t.um

theorem State.LoadsAs.refl (s : State) : s.LoadsAs s := ⟨rfl, rfl, fun _ h => h⟩

/-- 60_exceptions.md R806: the word of a bank that is for sp is not loaded with the others. -/
@[simp] theorem putBankItem_sp (s : State) (v : Word) : putBankItem s (.gpr sp) v = s := by
  unfold putBankItem; exact if_pos rfl
theorem putBankItem_gpr (s : State) (r : Reg) (v : Word) (h : r ≠ sp) : putBankItem s (.gpr r) v = s.setReg r v := by
  unfold putBankItem; exact if_neg h
@[simp] theorem putBankItem_sr (s : State) (r : SReg) (v : Word) : putBankItem s (.sr r) v = s.writeSr r v := rfl

/-- `loadBlock`, every word permitted: each word of memory is put in turn. -/
theorem State.loadBlock_eq {α : Type} (itype : BitVec 5) (put : State → α → Word → State) (xs : List α) (a : Word)
    (k : State → Out) (good : State → Prop) (hg : good s) (hl : ∀ t, good t → s.LoadsAs t)
    (hput : ∀ t, good t → ∀ x ∈ xs, ∀ v, good (put t x v)) (hp : s.PermitsBlock a xs.length .read) :
    good (xs.zipIdx.foldl (fun t p => put t p.1 (s.readWord (blockAddress a p.2))) s) ∧
    loadBlock itype put xs a s k =
      k (xs.zipIdx.foldl (fun t p => put t p.1 (s.readWord (blockAddress a p.2))) s) := by
  have gen : ∀ (ys : List α) (j : Nat) (t : State), good t → (∀ y ∈ ys, y ∈ xs) → j + ys.length = xs.length →
      good ((ys.zipIdx j).foldl (fun t p => put t p.1 (s.readWord (blockAddress a p.2))) t) ∧
      loadBlock itype put ys (a + BitVec.ofNat 32 (4 * j)) t k =
        k ((ys.zipIdx j).foldl (fun t p => put t p.1 (s.readWord (blockAddress a p.2))) t) := by
    intro ys
    induction ys with
    | nil => exact fun j t h _ _ => ⟨h, rfl⟩
    | cons y ys ih =>
      intro j t h hy hj
      have e : a + BitVec.ofNat 32 (4 * j) + 4 = a + BitVec.ofNat 32 (4 * (j + 1)) := by
        rw [Nat.mul_add, BitVec.ofNat_add]; exact BitVec.add_assoc ..
      simp only [List.length_cons] at hj
      obtain ⟨h1, h2, h3⟩ := hl t h
      have hr : t.readWord (blockAddress a j) = s.readWord (blockAddress a j) := by
        simp only [State.readWord, State.readHalf, State.readByte, h1]
      simp only [loadBlock, List.zipIdx_cons, List.foldl_cons]
      rw [e, State.access_ok (x := blockWord (a + BitVec.ofNat 32 (4 * j)) itype false) (.inl rfl) (h3 _ (hp j (by omega)))]
      show _ ∧ loadBlock itype put ys _ (put t y (t.readWord (blockAddress a j))) k = _
      rw [hr]
      exact ih (j + 1) _ (hput t h y (hy y (by simp)) _) (fun z hz => hy z (by simp [hz])) (by omega)
  have := gen xs 0 s hg (fun _ h => h) (by omega)
  simpa using this

/-- A register written: memory, privilege and permissions are kept. -/
theorem State.LoadsAs.setReg {s t : State} (h : s.LoadsAs t) (r : Reg) (v : Word) : s.LoadsAs (t.setReg r v) := by
  refine ⟨by rw [State.setReg_mem]; exact h.1, by rw [State.setReg_um]; exact h.2.1, fun a ha => ?_⟩
  have := h.2.2 a ha
  unfold State.setReg
  split
  · exact this
  · exact this

/-- `popRegs`, every word permitted: each register that is not kept takes its word. -/
theorem State.popRegs_eq (mei : Reg → Word) (keep : Reg → Bool) (rs : List Reg) (tmp : Word) (k : Word → State → Out)
    (hp : s.PermitsBlock tmp rs.length .read) :
    popRegs mei keep rs tmp s k = k (tmp + BitVec.ofNat 32 (4 * rs.length))
      (rs.zipIdx.foldl (fun t p => if keep p.1 then t else t.setReg p.1 (s.readWord (blockAddress tmp p.2))) s) := by
  have gen : ∀ (ys : List Reg) (j : Nat) (t : State), s.LoadsAs t → j + ys.length = rs.length →
      popRegs mei keep ys (tmp + BitVec.ofNat 32 (4 * j)) t k = k (tmp + BitVec.ofNat 32 (4 * rs.length))
        ((ys.zipIdx j).foldl (fun t p => if keep p.1 then t else t.setReg p.1 (s.readWord (blockAddress tmp p.2))) t) := by
    intro ys
    induction ys with
    | nil =>
      intro j t h hj
      simp only [List.length_nil, Nat.add_zero] at hj
      rw [← hj]
      rfl
    | cons y ys ih =>
      intro j t h hj
      have e : tmp + BitVec.ofNat 32 (4 * j) + 4 = tmp + BitVec.ofNat 32 (4 * (j + 1)) := by
        rw [Nat.mul_add, BitVec.ofNat_add]; exact BitVec.add_assoc ..
      simp only [List.length_cons] at hj
      have hr : t.readWord (blockAddress tmp j) = s.readWord (blockAddress tmp j) := by
        simp only [State.readWord, State.readHalf, State.readByte, h.1]
      simp only [popRegs, List.zipIdx_cons, List.foldl_cons]
      rw [e, State.access_ok (x := ⟨wordAddress (tmp + BitVec.ofNat 32 (4 * j)), 4, [.read], false, true, mei y⟩) (.inl rfl)
        (h.2.2 _ (hp j (by omega)))]
      show popRegs mei keep ys _ (if keep y then t else t.setReg y (t.readWord (blockAddress tmp j))) k = _
      rw [hr]
      refine ih (j + 1) _ ?_ (by omega)
      split
      · exact h
      · exact h.setReg _ _
  have := gen rs 0 s (.refl s) (by omega)
  simpa using this

end Sys2Proof.Machine
end

