-- ==== Sys2Proof/Laws/Exception.lean ====
section
/-!
SUPPORT. Taking an exception and what raises one: everything an entry does, once for every exception.
-/

namespace Sys2Proof.Machine

/-- R804, R805: the PSW of the handler. -/
theorem entryPsw_handler (w : Word) (l : Level) (b : Bool) : HandlerPsw w (entryPsw w l b) l b := by
  intro i hi
  cases l
  · simp only [entryPsw]
    rw [putBit_getLsbD _ _ _ _ (by omega), putBit_getLsbD _ _ _ _ (by omega), putBit_getLsbD _ _ _ _ (by omega)]
    by_cases h1 : i = 6 <;> by_cases h2 : i = 5 <;> by_cases h3 : i = 30 <;> simp_all
  · simp only [entryPsw]
    rw [putBit_getLsbD _ _ _ _ (by omega), putBit_getLsbD _ _ _ _ (by omega), putBit_getLsbD _ _ _ _ (by omega),
      putBit_getLsbD _ _ _ _ (by omega)]
    by_cases h1 : i = 6 <;> by_cases h2 : i = 5 <;> by_cases h3 : i = 30 <;> by_cases h4 : i = 7 <;> simp_all

/-- Bit 31 cleared. -/
theorem putBit_gm (w : Word) : putBit w 31 false = w &&& 0x7FFFFFFF := by
  simp only [putBit, Bool.false_eq_true, if_false]
  rfl

/-- R804, R805: what taking an exception does. -/
theorem State.takeException_enters (s : State) (l : Level) (cause offset retpc : Word) (hm : Mode) (b : Bool) :
    s.Enters (s.takeException l cause offset retpc hm b) l cause retpc (s.HandlerBase hm + offset) hm b noCtxReg := by
  have ebv : ∀ w : Word, (entryPsw w l b)[15] = w[15] := by
    intro w
    have := entryPsw_handler w l b 15 (by omega)
    simpa [BitVec.getLsbD_eq_getElem] using this
  have kept (c : Ctx) (r : CtxReg) (h : r ≠ .psw)
      (k : ¬ l.saves r) : ((c.save l retpc b).setCause l cause).get r = c.get r := by
    cases l <;> cases r <;> simp_all [Ctx.save, Ctx.setCause, Ctx.get, Level.saves]
  have ctx : (s.takeException l cause offset retpc hm b).ctx hm = ((s.ctx hm).save l retpc b).setCause l cause := by
    cases hm <;> rfl
  refine ⟨?_, ?_, ?_, ?_, ?_, ?_, ?_, ?_, ?_, ?_, ?_⟩
  · cases l <;> cases hm <;>
      simp [State.takeException, State.saveContext, State.setCtx, State.ctx, Ctx.save, Ctx.setCause, State.handlerAddress,
        State.vectorBase, State.HandlerBase, ebv]
  · rw [ctx]
    cases l <;> exact ⟨rfl, rfl, rfl⟩
  · rw [ctx]
    have := entryPsw_handler (s.ctx hm).psw l b
    cases l <;> exact this
  · intro r _ hp hr
    rw [ctx]
    exact kept _ _ hp hr
  · intro m hne
    cases hm <;> cases m <;> first | exact (hne rfl).elim | rfl
  · cases l <;> cases hm <;> simp [State.takeException, State.saveContext, State.setCtx, SysRegs.leaveGuest,
      SysRegs.enterHost, putBit_gm]
  all_goals cases hm <;> first | rfl | exact fun _ => rfl | exact ⟨rfl, rfl, rfl, rfl, rfl⟩

/-- 21_mpu.md R266: an access of the entry hardware carries the tag of the mode that handles the interrupt. -/
theorem State.saveContext_tags (s : State) (l : Level) (retpc : Word) (hm : Mode) (b : Bool) (h : hm = .guest → s.mode = .guest) :
    (s.saveContext l retpc hm b).mode = hm ∧ s.Tags hm (s.saveContext l retpc hm b).accessTag := by
  have e : (s.saveContext l retpc hm b).mode = hm := by
    cases hm with
    | guest => exact h rfl
    | host =>
      cases l <;> by_cases v : s.hve = true <;>
        simp_all [State.saveContext, State.setCtx, State.mode, State.hve, SysRegs.leaveGuest, putBit]
  refine ⟨e, ?_⟩
  have t := State.tags_accessTag (s := s.saveContext l retpc hm b)
  rw [e] at t
  cases hm with
  | guest => cases l <;> exact t
  | host =>
    refine ⟨?_, by simpa using t.2⟩
    have := t.1
    cases l <;> exact this

/-- What the environment is told does not matter. -/
theorem State.Enters.emit {s t : State} {l : Level} {cause retpc handler : Word} {hm : Mode} {b : Bool} {also : CtxReg → Prop}
    (h : s.Enters t l cause retpc handler hm b also) (e : Event) : s.Enters (t.emit e) l cause retpc handler hm b also :=
  ⟨h.pc, h.saved, h.psw, h.kept, h.other, h.system, h.regs, h.vectors, h.bytes, h.link, h.rest⟩

/-- An entry from a state whose MEA and MEI were written first. -/
theorem State.Enters.setMea {s t : State} {l : Level} {cause retpc handler mea mei : Word} {hm : Mode} {b : Bool}
    (h : (s.setMea hm mea mei).Enters t l cause retpc handler hm b noCtxReg) :
    s.Enters t l cause retpc handler hm b errorAddress := by
  have hc : (s.setMea hm mea mei).ctx hm = { s.ctx hm with mea := mea, mei := mei } := by cases hm <;> rfl
  refine ⟨h.pc, ?_, ?_, ?_, ?_, ?_, ?_, ?_, ?_, h.link, ?_⟩
  · have := h.saved
    cases l <;> simpa [hc] using this
  · simpa [hc] using h.psw
  · intro r hr hp hk
    rw [h.kept r (fun e => e.elim) hp hk, hc]
    cases r <;> first | rfl | exact (hr (.inl rfl)).elim | exact (hr (.inr rfl)).elim
  · intro m hne
    rw [h.other m hne]
    cases hm <;> cases m <;> first | exact (hne rfl).elim | rfl
  · have := h.system
    cases hm <;> exact this
  · intro r
    rw [h.regs]
    cases hm <;> rfl
  · rw [h.vectors]
    cases hm <;> rfl
  · intro a
    rw [h.bytes]
    cases hm <;> rfl
  · have := h.rest
    cases hm <;> exact this

@[simp] theorem State.setMea_handlerBase (s : State) (m hm : Mode) (mea mei : Word) :
    (s.setMea m mea mei).HandlerBase hm = s.HandlerBase hm := by
  cases m <;> cases hm <;> rfl

/-- A resumable exception. -/
theorem State.raise_enters (s : State) (l : Level) (cause offset : Word) (hm : Mode) :
    ∃ t, s.raise l cause offset hm = .next t ∧ s.Enters t l cause s.pc (s.HandlerBase hm + offset) hm true noCtxReg :=
  ⟨_, rfl, (State.takeException_enters ..).emit _⟩

/-- A resumable exception that writes MEA and MEI. -/
theorem State.raise_mea_enters (s : State) (l : Level) (cause offset mea mei : Word) (hm : Mode) :
    ∃ t, (s.setMea hm mea mei).raise l cause offset hm = .next t ∧ (t.ctx hm).mea = mea ∧ (t.ctx hm).mei = mei ∧
      s.Enters t l cause s.pc (s.HandlerBase hm + offset) hm true errorAddress := by
  obtain ⟨t, h, e⟩ := State.raise_enters (s.setMea hm mea mei) l cause offset hm
  have hc : (s.setMea hm mea mei).ctx hm = { s.ctx hm with mea := mea, mei := mei } := by cases hm <;> rfl
  have hp : (s.setMea hm mea mei).pc = s.pc := by cases hm <;> rfl
  have ha := e.kept .mea (fun x => x.elim) (by simp) (by cases l <;> simp [Level.saves])
  have hi := e.kept .mei (fun x => x.elim) (by simp) (by cases l <;> simp [Level.saves])
  rw [hc] at ha hi
  refine ⟨t, h, ha, hi, ?_⟩
  rw [hp, State.setMea_handlerBase] at e
  exact e.setMea

variable {i : Instr} {s : State}

/-- An instruction that raises a resumable exception. -/
theorem State.raise_takes {l : Level} {cause offset : Word} {hm : Mode} (h : exec i s = s.raise l cause offset hm) :
    Takes i s l cause s.pc offset hm noCtxReg := by
  obtain ⟨t, e, k⟩ := State.raise_enters s l cause offset hm
  exact ⟨t, h.trans e, k⟩

/-- An instruction that raises a pending exception. -/
theorem State.raisePending_takes {l : Level} {cause offset retpc : Word} {hm : Mode}
    (h : exec i s = s.raisePending l cause offset retpc hm) : Takes i s l cause retpc offset hm noCtxReg :=
  ⟨_, h, (State.takeException_enters ..).emit _⟩

end Sys2Proof.Machine
end

