-- ==== Sys2Proof/Laws/Interrupt.lean ====
section
/-!
SUPPORT. The accesses of the entry hardware: everything the table word and the words of a register bank do when they are permitted.
-/

namespace Sys2Proof.Machine

variable {s t : State} {hm : Mode}

/-- A permitted access of the entry hardware is performed, and reported ahead of what follows. -/
theorem State.entryAccess_reports {x : Access} {u : State}
    (hv : t.mpuViolation hm x.adr.toNat (x.adr.toNat + x.size - 1) x.kinds false = none)
    (hr : ¬ t.Reaches .reserved (x.adr, x.size, x.kinds)) :
    ∃ es, t.Reports u t.mode (x.adr, x.size, x.kinds) es ∧
      s.entryAccess t hm x (.next u) = .next { u with out := es ++ u.out } := by
  have h : t.prod.touches .reserved x.adr x.size = false := by
    simpa using mt (State.touches_iff_reaches (s := t) (ks := x.kinds)).mp hr
  simpa [State.entryAccess, hv, h] using t.noteDevice_reports (u := u)

/-- The words of a bank from `adr` downward. -/
theorem bankWord_succ (adr : Word) (j : Nat) :
    adr - BitVec.ofNat 32 (4 * (j + 1)) = adr - 4 - BitVec.ofNat 32 (4 * j) := by
  rw [Nat.mul_add, BitVec.ofNat_add]
  bv_omega

/-- The state after the words of a bank are stored. -/
def State.bankStored (t : State) : List Word → Word → State
  | [], _ => t
  | w :: ws, adr => (t.writeWord adr w).bankStored ws (adr - 4)

/-- Permitted words of a bank are stored, and each is reported ahead of what follows. -/
theorem State.storeBank_reports (ws : List Word) (adr : Word) (k : State → Out) {u : State} (hmode : t.mode = hm)
    (hv : ∀ j, j < ws.length → let a := adr - BitVec.ofNat 32 (4 * j)
      t.mpuViolation hm a.toNat (a.toNat + 3) [.write] false = none ∧ ¬ t.Reaches .reserved (a, 4, [.write]))
    (hk : k (t.bankStored ws adr) = .next u) :
    ∃ es : List (List Event),
      List.Forall₂ (t.Reports u hm) ((List.range ws.length).map fun j => (adr - BitVec.ofNat 32 (4 * j), 4, [.write])) es ∧
      s.storeBank hm ws adr t k = .next { u with out := es.flatten ++ u.out } := by
  induction ws generalizing adr t with
  | nil => exact ⟨[], .nil, hk⟩
  | cons w ws ih =>
    have later (j : Nat) (hj : j < ws.length) := hv (j + 1) (by simpa using hj)
    have check (lo hi : Nat) : (t.writeWord adr w).mpuViolation hm lo hi [.write] false = t.mpuViolation hm lo hi [.write] false := by
      cases hm <;> simp [State.mpuViolation, State.layerDenies, State.hve]
    obtain ⟨es, hes, e⟩ := ih (t := t.writeWord adr w) (adr - 4) (by simpa using hmode)
      (fun j hj => by
        have := later j hj
        rw [bankWord_succ] at this
        exact ⟨(check ..).trans this.1, by simpa [State.Reaches] using this.2⟩) hk
    have first := hv 0 (by simp)
    simp only [Nat.mul_zero, BitVec.sub_zero] at first
    obtain ⟨ev, hev, f⟩ := State.entryAccess_reports (s := s) (x := bankAccess adr) (u := { u with out := es.flatten ++ u.out })
      first.1 first.2
    refine ⟨ev :: es, ?_, ?_⟩
    · rw [List.length_cons, List.range_succ_eq_map, List.map_cons, List.map_map]
      refine .cons ?_ ?_
      · rw [hmode] at hev
        have : t.Reports u hm (adr, 4, [.write]) ev := hev.congr rfl rfl rfl rfl
        simpa using this
      · simpa only [Function.comp_def, Nat.succ_eq_add_one, bankWord_succ] using
          hes.imp fun _ _ h => h.congr (by simp) (by simp) (by simp) rfl
    · rw [State.storeBank, e, f]
      simp

end Sys2Proof.Machine
end

