-- ==== Sys2Proof/Laws/Step.lean ====
section
/-!
SUPPORT. The step as a whole: what its beginning and its end can change, and every way in which a step can answer a next state.
-/

namespace Sys2Proof.Machine

open Sys2Proof

/-- A next state of a changed outcome comes from a next state. -/
theorem mapNext_next {f : State → State} {o : Out} {t : State} (h : mapNext f o = .next t) : ∃ u, o = .next u ∧ t = f u := by
  cases o with
  | next u => exact ⟨u, rfl, by simpa [mapNext] using h.symm⟩
  | fault r => cases h
  | refused r => cases h

/-! ## The beginning -/

/-- 20_memory.md R215: what other masters write changes memory only. -/
theorem State.writeBytes_eq (s : State) (ws : List (Word × Byte)) : s.writeBytes ws = { s with mem := (s.writeBytes ws).mem } := by
  unfold State.writeBytes
  induction ws generalizing s with
  | nil => rfl
  | cons w ws ih => rw [List.foldl_cons, ih]; rfl

/-- 20_memory.md R202: and memory keeps its canonical form. -/
theorem State.memWf_writeBytes (s : State) (h : s.memWf) (ws : List (Word × Byte)) : (s.writeBytes ws).memWf := by
  unfold State.writeBytes
  induction ws generalizing s with
  | nil => exact h
  | cons w ws ih => exact ih _ (State.memWf_writeByte s h w.1 w.2)

/-- 20_memory.md R215: the first of the bytes written is covered by the later ones. -/
theorem State.writeBytes_cons (s : State) (w : Word × Byte) (ws : List (Word × Byte)) :
    s.writeBytes (w :: ws) = (s.writeByte w.1 w.2).writeBytes ws := rfl

/-- What the beginning of a step can change: memory, the link bit, and the model's fields of the environment. -/
theorem State.begin_eq (s : State) :
    s.begin = { s with
      env := (s.inputs.headD s.env).taken s.mode
      inputs := s.inputs.tail
      out := []
      mem := s.begin.mem
      link := { s.link with bit := s.begin.link.bit } } := by
  unfold State.begin
  rcases hi : s.inputs with _ | ⟨e, rest⟩ <;> dsimp only <;> split <;> rw [State.writeBytes_eq] <;> rfl

/-- 70_reset_and_hazards.md R944: of what the environment presents, the beginning of a step changes the writes and the mark of a SYSERR
alone. -/
@[simp] theorem Env.taken_reset (e : Env) (m : Mode) : (e.taken m).reset = e.reset := rfl
@[simp] theorem Env.taken_fenmi (e : Env) (m : Mode) : (e.taken m).fenmi = e.fenmi := rfl
@[simp] theorem Env.taken_fe (e : Env) (m : Mode) : (e.taken m).fe = e.fe := rfl
@[simp] theorem Env.taken_ei (e : Env) (m : Mode) : (e.taken m).ei = e.ei := rfl
@[simp] theorem Env.taken_fetchError (e : Env) (m : Mode) : (e.taken m).fetchError = e.fetchError := rfl
@[simp] theorem Env.taken_linkLoss (e : Env) (m : Mode) : (e.taken m).linkLoss = e.linkLoss := rfl
@[simp] theorem Env.taken_writes (e : Env) (m : Mode) : (e.taken m).writes = [] := rfl
@[simp] theorem Env.taken_host_syserr (e : Env) : (e.taken .host).syserr = e.syserr := by
  rcases e with ⟨_, _, _, _, _ | ⟨c, p, g⟩, _, _, _⟩
  · rfl
  · cases g <;> rfl

/-- R944: when the request for a SYSERR can be taken. -/
theorem State.syserrOccurs_iff (s : State) (q : SyserrRequest) :
    s.syserrOccurs q = true ↔ (q.pending = false → q.guest = true → s.mode = .guest) := by
  unfold State.syserrOccurs
  cases q.pending <;> cases q.guest <;> cases s.mode <;> simp

/-- 20_memory.md R204, R215: memory at the beginning of a step. -/
theorem State.begin_mem (s : State) : s.begin.mem = (s.writeBytes (s.inputs.headD s.env).writes).mem := by
  have only (u : State) (ws : List (Word × Byte)) :
      (u.writeBytes ws).mem = ws.foldl (fun m w => Memory.write m w.1.toNat w.2) u.mem := by
    unfold State.writeBytes
    induction ws generalizing u with
    | nil => rfl
    | cons w ws ih => rw [List.foldl_cons, ih]; rfl
  unfold State.begin
  rcases s.inputs with _ | ⟨e, rest⟩ <;> dsimp only <;> split <;> simp only [State.dropLink, only] <;> rfl

/-- 20_memory.md R202: the beginning of a step keeps the canonical form of memory. -/
theorem State.memWf_begin (s : State) (h : s.memWf) : s.begin.memWf := by
  unfold State.memWf
  rw [State.begin_mem]
  exact State.memWf_writeBytes s h _

@[simp] theorem State.begin_gpr (s : State) : s.begin.gpr = s.gpr := by rw [State.begin_eq]
@[simp] theorem State.begin_pc (s : State) : s.begin.pc = s.pc := by rw [State.begin_eq]
@[simp] theorem State.begin_wr (s : State) : s.begin.wr = s.wr := by rw [State.begin_eq]
@[simp] theorem State.begin_host (s : State) : s.begin.host = s.host := by rw [State.begin_eq]
@[simp] theorem State.begin_guest (s : State) : s.begin.guest = s.guest := by rw [State.begin_eq]
@[simp] theorem State.begin_sys (s : State) : s.begin.sys = s.sys := by rw [State.begin_eq]
@[simp] theorem State.begin_mpu (s : State) : s.begin.mpu = s.mpu := by rw [State.begin_eq]
@[simp] theorem State.begin_cnt (s : State) : s.begin.cnt = s.cnt := by rw [State.begin_eq]
@[simp] theorem State.begin_halt (s : State) : s.begin.halt = s.halt := by rw [State.begin_eq]
@[simp] theorem State.begin_lastPc (s : State) : s.begin.lastPc = s.lastPc := by rw [State.begin_eq]
@[simp] theorem State.begin_free (s : State) : s.begin.free = s.free := by rw [State.begin_eq]
@[simp] theorem State.begin_prod (s : State) : s.begin.prod = s.prod := by rw [State.begin_eq]

/-! ## The end -/

/-- 11_sysregs.md R155: what one counter can change. -/
theorem countChannel_eq (s : State) (ran : Bool) (t : State) (n : Fin 8) :
    countChannel s ran t n =
      { t with cnt := { t.cnt with pmctrl := (countChannel s ran t n).cnt.pmctrl, pmcount := (countChannel s ran t n).cnt.pmcount } } := by
  unfold countChannel
  dsimp only
  split <;> rfl

/-- What the end of a step can change: the counters, the address of the last completed instruction, the model's counter. -/
theorem State.finish_eq (s : State) (ran : Bool) (t : State) :
    ∃ c a n, s.finish ran t = { t with cnt := c, lastPc := a, free := n } := by
  have time : countTime s t = { t with cnt := (countTime s t).cnt } := by unfold countTime; split <;> rfl
  have channels : ∀ (l : List (Fin 8)) (u : State), l.foldl (countChannel s ran) u =
      { u with cnt := (l.foldl (countChannel s ran) u).cnt } := by
    intro l
    induction l with
    | nil => intro u; rfl
    | cons n l ih => intro u; rw [List.foldl_cons, ih, countChannel_eq]
  unfold State.finish
  rw [channels, time]
  exact ⟨_, _, _, rfl⟩

@[simp] theorem State.finish_gpr (s : State) (ran : Bool) (t : State) : (s.finish ran t).gpr = t.gpr := by
  obtain ⟨_, _, _, h⟩ := s.finish_eq ran t; rw [h]
@[simp] theorem State.finish_pc (s : State) (ran : Bool) (t : State) : (s.finish ran t).pc = t.pc := by
  obtain ⟨_, _, _, h⟩ := s.finish_eq ran t; rw [h]
@[simp] theorem State.finish_sys (s : State) (ran : Bool) (t : State) : (s.finish ran t).sys = t.sys := by
  obtain ⟨_, _, _, h⟩ := s.finish_eq ran t; rw [h]
@[simp] theorem State.finish_mem (s : State) (ran : Bool) (t : State) : (s.finish ran t).mem = t.mem := by
  obtain ⟨_, _, _, h⟩ := s.finish_eq ran t; rw [h]
@[simp] theorem State.finish_prod (s : State) (ran : Bool) (t : State) : (s.finish ran t).prod = t.prod := by
  obtain ⟨_, _, _, h⟩ := s.finish_eq ran t; rw [h]

/-! ## Interrupts -/

/-- No request is the highest only where there is none. -/
theorem highest_none (l : List (Nat × Accepted)) : highest l = none ↔ l = [] := by
  rcases l with _ | ⟨x, xs⟩
  · simp [highest]
  · simp only [highest]
    refine ⟨fun h => ?_, fun h => by cases h⟩
    split at h
    · cases h
    · split at h <;> cases h

/-- 60_exceptions.md R802: the highest of some requests is one of them, and none of them has a smaller number. -/
theorem highest_some (l : List (Nat × Accepted)) (x : Nat × Accepted) (h : highest l = some x) : x ∈ l ∧ ∀ y ∈ l, x.1 ≤ y.1 := by
  induction l generalizing x with
  | nil => simp [highest] at h
  | cons y ys ih =>
    simp only [highest] at h
    split at h
    · next hn =>
      rw [highest_none] at hn
      subst hn
      cases h
      simp
    · next z hz =>
      have known := ih z hz
      split at h
      · cases h
        exact ⟨by simp, fun w hw => (List.mem_cons.1 hw).elim (fun e => e ▸ le_refl _) fun e => le_trans (by assumption) (known.2 w e)⟩
      · cases h
        exact ⟨List.mem_cons_of_mem _ known.1, fun w hw => (List.mem_cons.1 hw).elim (fun e => by subst e; omega) (known.2 w)⟩

/-! ## The whole -/

/-- 60_exceptions.md R806: every way in which a step can answer a next state: reset, a step spent in HALT or SNOOZE, the acceptance of a
request, or what the fetch and the instruction give. -/
theorem step_cases {s t : State} (h : step s = .next t) :
    (s.begin.env.reset = true ∧ t = s.begin.afterReset) ∨
    (s.begin.env.reset = false ∧ s.begin.wake = none ∧ t = s.begin.finish false s.begin.pause) ∨
    (s.begin.env.reset = false ∧ ∃ s1, s.begin.wake = some s1 ∧
      ((∃ a u, s1.pick = some a ∧ s1.accept a = .next u ∧ t = s1.finish false u) ∨
        (s1.pick = none ∧ ∃ u, s1.fetchRun Sys2Proof.Machine.exec = .next u ∧ t = s1.finish true u))) := by
  unfold step at h
  dsimp only at h
  split at h
  · next hr => exact .inl ⟨hr, by simpa using h.symm⟩
  · next hr =>
    have hr : s.begin.env.reset = false := by simpa using hr
    split at h
    · next hw => exact .inr (.inl ⟨hr, hw, by simpa using h.symm⟩)
    · next s1 hw =>
      unfold State.runStep at h
      refine .inr (.inr ⟨hr, s1, hw, ?_⟩)
      split at h
      · next a ha =>
        obtain ⟨u, hu, e⟩ := mapNext_next h
        exact .inl ⟨a, u, ha, hu, e⟩
      · next ha =>
        obtain ⟨u, hu, e⟩ := mapNext_next h
        exact .inr ⟨ha, u, hu, e⟩

end Sys2Proof.Machine
end

