-- ==== Sys2Proof/Tests/Slice0.lean ====
section
/-!
SUPPORT. Tests: what WellFormed refuses, words written out from the encodings of the spec, single steps on the vectors of
95_test_vectors.md, and for every statement with hypotheses a state and operands that meet them. The expected results come from the
spec, not from the model.
-/

namespace Sys2Proof.Tests

open Sys2Proof.Machine

noncomputable section

set_option Elab.async false

/-! ## Helpers -/

/-- A word from its halfwords, the first one lowest (30_encoding.md R300). -/
def wordOf : List Nat → Nat
  | [] => 0
  | h :: t => h + 65536 * wordOf t

/-- What the decoder reads from the halfwords of an instruction. -/
def reads (hs : List Nat) : Option Instr := decodeTableWord (16 * hs.length) (wordOf hs)

/-- The instruction of the halfwords, run at `s`, answers a next state that passes a check. -/
def runs (hs : List Nat) (s : State) (check : State → Bool) : Bool :=
  match reads hs with
  | none => false
  | some i =>
    match exec i s with
    | .next t => check t
    | _ => false

/-- A step at `s` answers a next state that passes a check. -/
def steps (s : State) (check : State → Bool) : Bool :=
  match step s with
  | .next t => check t
  | _ => false

/-- The state after reset, in supervisor mode at 1000H with both coprocessors usable and interrupts enabled. -/
def base : State := { State.reset with pc := 0x1000 }.setPsw 0x30000

/-- A state at another pc. -/
def atPc (a : Word) (s : State) : State := { s with pc := a }

/-! ## WellFormed: an ill-formed term for each check, refused, and its well-formed neighbour -/

theorem test_wellFormed_movF1 : Instr.wellFormed (.movF1 1 0) = false ∧ Instr.wellFormed (.movF1 1 2) = true := by decide +kernel

theorem test_wellFormed_movF2 : Instr.wellFormed (.movF2 1 0) = false ∧ Instr.wellFormed (.movF2 1 2) = true := by decide +kernel

theorem test_wellFormed_movea : Instr.wellFormed (.movea 1 1 0) = false ∧ Instr.wellFormed (.movea 1 1 2) = true := by decide +kernel

theorem test_wellFormed_movhi : Instr.wellFormed (.movhi 1 1 0) = false ∧ Instr.wellFormed (.movhi 1 1 2) = true := by decide +kernel

theorem test_wellFormed_adf : Instr.wellFormed (.adf 13 1 2 3) = false ∧ Instr.wellFormed (.adf 12 1 2 3) = true := by decide +kernel

theorem test_wellFormed_sbf : Instr.wellFormed (.sbf 13 1 2 3) = false ∧ Instr.wellFormed (.sbf 5 1 2 3) = true := by decide +kernel

theorem test_wellFormed_sataddF1 : Instr.wellFormed (.sataddF1 1 0) = false ∧ Instr.wellFormed (.sataddF1 1 2) = true := by decide +kernel

theorem test_wellFormed_sataddF2 : Instr.wellFormed (.sataddF2 1 0) = false ∧ Instr.wellFormed (.sataddF2 1 2) = true := by decide +kernel

theorem test_wellFormed_satsubF1 : Instr.wellFormed (.satsubF1 1 0) = false ∧ Instr.wellFormed (.satsubF1 1 2) = true := by decide +kernel

theorem test_wellFormed_satsubi : Instr.wellFormed (.satsubi 1 1 0) = false ∧ Instr.wellFormed (.satsubi 1 1 2) = true := by decide +kernel

theorem test_wellFormed_satsubr : Instr.wellFormed (.satsubr 1 0) = false ∧ Instr.wellFormed (.satsubr 1 2) = true := by decide +kernel

theorem test_wellFormed_mulhF1 : Instr.wellFormed (.mulhF1 1 0) = false ∧ Instr.wellFormed (.mulhF1 1 2) = true := by decide +kernel

theorem test_wellFormed_mulhF2 : Instr.wellFormed (.mulhF2 1 0) = false ∧ Instr.wellFormed (.mulhF2 1 2) = true := by decide +kernel

theorem test_wellFormed_mulhi : Instr.wellFormed (.mulhi 1 1 0) = false ∧ Instr.wellFormed (.mulhi 1 1 2) = true := by decide +kernel

theorem test_wellFormed_bcondF2 : Instr.wellFormed (.bcondF2 5 1) = false ∧ Instr.wellFormed (.bcondF2 13 1) = true := by decide +kernel

theorem test_wellFormed_jarlF1 : Instr.wellFormed (.jarlF1 1 0) = false ∧ Instr.wellFormed (.jarlF1 1 31) = true := by decide +kernel

theorem test_wellFormed_jarlF2 : Instr.wellFormed (.jarlF2 1 0) = false ∧ Instr.wellFormed (.jarlF2 1 31) = true := by decide +kernel

theorem test_wellFormed_jarlF3 : Instr.wellFormed (.jarlF3 1 0) = false ∧ Instr.wellFormed (.jarlF3 1 31) = true := by decide +kernel

theorem test_wellFormed_loop : Instr.wellFormed (.loop 1 0) = false ∧ Instr.wellFormed (.loop 1 1) = true := by decide +kernel

theorem test_wellFormed_ldBuF1 : Instr.wellFormed (.ldBuF1 1 1 0) = false ∧ Instr.wellFormed (.ldBuF1 1 1 2) = true := by decide +kernel

theorem test_wellFormed_ldHuF1 : Instr.wellFormed (.ldHuF1 1 1 0) = false ∧ Instr.wellFormed (.ldHuF1 1 1 2) = true := by decide +kernel

theorem test_wellFormed_sldBu : Instr.wellFormed (.sldBu 1 0) = false ∧ Instr.wellFormed (.sldBu 1 2) = true := by decide +kernel

theorem test_wellFormed_sldHu : Instr.wellFormed (.sldHu 1 0) = false ∧ Instr.wellFormed (.sldHu 1 2) = true := by decide +kernel

theorem test_wellFormed_switch : Instr.wellFormed (.switch 0) = false ∧ Instr.wellFormed (.switch 1) = true := by decide +kernel

theorem test_wellFormed_disposeF2 : Instr.wellFormed (.disposeF2 1 1 0) = false ∧ Instr.wellFormed (.disposeF2 1 1 31) = true := by decide +kernel

theorem test_wellFormed_fetrap : Instr.wellFormed (.fetrap 0) = false ∧ Instr.wellFormed (.fetrap 1) = true := by decide +kernel

theorem test_wellFormed_cache : Instr.wellFormed (.cache 126 31) = false ∧ Instr.wellFormed (.cache 126 30) = true := by decide +kernel

theorem test_wellFormed_cmovfD : Instr.wellFormed (.cmovfD 1 1 2 0) = false ∧ Instr.wellFormed (.cmovfD 1 1 2 3) = true := by decide +kernel

theorem test_wellFormed_cmovfS : Instr.wellFormed (.cmovfS 1 1 2 0) = false ∧ Instr.wellFormed (.cmovfS 1 1 2 3) = true := by decide +kernel

theorem test_wellFormed_divhF1 :
    Instr.wellFormed (.divhF1 1 0) = false ∧ Instr.wellFormed (.divhF1 0 1) = false ∧ Instr.wellFormed (.divhF1 1 1) = true := by
  decide +kernel

/-! ## Decoding: words written out from 30_encoding.md and the rows of the opcode table -/

theorem test_decodeArithmetic_1 :
    reads [0b00101_001110_01011] = some (.addF1 11 5) ∧
    reads [0b10101_010010_01101] = some (.addF2 13 21) ∧
    reads [0b11011_110000_00011, 0b0000110001011101] = some (.addi 3165 3 27) ∧
    reads [0b00100_001111_10010] = some (.cmpF1 18 4) ∧
    reads [0b10011_010011_01100] = some (.cmpF2 12 19) ∧
    reads [0b11110_000000_00010] = some (.movF1 2 30) ∧
    reads [0b00111_010000_10001] = some (.movF2 17 7) ∧
    reads [0b00000110001_00011, 0b0101000011011001, 0b0000100110011001] = some (.movF3 161042649 3) ∧
    reads [0b00011_110001_01110, 0b0110111100000100] = some (.movea 28420 14 3) ∧
    reads [0b10010_110010_00011, 0b0011110110011101] = some (.movhi 15773 3 18) := by
  decide +kernel

theorem test_decodeArithmetic_2 :
    reads [0b00010_001101_01110] = some (.sub 14 2) ∧
    reads [0b10011_001100_11011] = some (.subr 27 19) ∧
    reads [0b10101_111111_01000, 0b10101_011101_0010_0] = some (.adf 2 8 21 21) ∧
    reads [0b10011_111111_00010, 0b10011_011100_1010_0] = some (.sbf 10 2 19 19) ∧
    reads [0b00010_111111_01101, 0b01000_01011000000] = some (.div 13 2 8) ∧
    reads [0b10010_000010_00010] = some (.divhF1 2 18) ∧
    reads [0b00101_111111_11100, 0b01010_01010000000] = some (.divhF2 28 5 10) ∧
    reads [0b00101_111111_01110, 0b10010_01010000010] = some (.divhu 14 5 18) ∧
    reads [0b10011_111111_00100, 0b01010_01011111100] = some (.divq 4 19 10) ∧
    reads [0b11011_111111_10010, 0b10110_01011111110] = some (.divqu 18 27 22) := by
  decide +kernel

theorem test_decodeArithmetic_3 :
    reads [0b00100_111111_00110, 0b10011_01011000010] = some (.divu 6 4 19) ∧
    reads [0b10101_000110_10011] = some (.sataddF1 19 21) ∧
    reads [0b01100_010001_00111] = some (.sataddF2 7 12) ∧
    reads [0b10010_111111_00100, 0b10111_01110111010] = some (.sataddF3 4 18 23) ∧
    reads [0b10011_000101_00011] = some (.satsubF1 3 19) ∧
    reads [0b10100_111111_00010, 0b00111_01110011010] = some (.satsubF2 2 20 7) ∧
    reads [0b10010_110011_10110, 0b0111111100010110] = some (.satsubi 32534 22 18) ∧
    reads [0b11001_000100_01110] = some (.satsubr 14 25) := by
  decide +kernel

theorem test_decodeMultiplyAndLogic_1 :
    reads [0b01111_111111_01011, 0b10011_01000100000] = some (.mulF1 11 15 19) ∧
    reads [0b01111_111111_11001, 0b01100_01001_1110_00] = some (.mulF2 473 15 12) ∧
    reads [0b01000_000111_01010] = some (.mulhF1 10 8) ∧
    reads [0b00110_010111_11010] = some (.mulhF2 26 6) ∧
    reads [0b01000_110111_11001, 0b1011001011110010] = some (.mulhi 45810 25 8) ∧
    reads [0b10011_111111_00011, 0b01010_01000100010] = some (.muluF1 3 19 10) ∧
    reads [0b10000_111111_01101, 0b11101_01001_1000_10] = some (.muluF2 269 16 29) ∧
    reads [0b11000_111111_01011, 0b1000_0011110_0101_0] = some (.mac 11 24 8 5) ∧
    reads [0b00011_111111_10100, 0b0010_0011111_1001_0] = some (.macu 20 3 2 9) := by
  decide +kernel

theorem test_decodeMultiplyAndLogic_2 :
    reads [0b00110_001010_01110] = some (.and 14 6) ∧
    reads [0b00101_110110_01011, 0b1100000111010100] = some (.andi 49620 11 5) ∧
    reads [0b10000_000001_11110] = some (.not 30 16) ∧
    reads [0b00010_001000_01110] = some (.or 14 2) ∧
    reads [0b00011_110100_10110, 0b1111011001000111] = some (.ori 63047 22 3) ∧
    reads [0b10010_001011_11001] = some (.tst 25 18) ∧
    reads [0b11010_001001_10011] = some (.xor 19 26) ∧
    reads [0b01011_110101_11011, 0b1110000000100000] = some (.xori 57376 27 11) := by
  decide +kernel

theorem test_decodeBranchAndData_1 :
    reads [0b10110_1011_010_0110] = some (.bcondF1 6 178) ∧
    reads [0b00000111111_1_0110, 0b001100000101001_1] = some (.bcondF2 6 38953) ∧
    reads [0b10011_11110_011111, 0b110010011000011_0] = some (.jarlF1 1041603 19) ∧
    reads [0b00000010111_01111, 0b000111001101111_0, 0b1100110000000001] = some (.jarlF2 1711312495 15) ∧
    reads [0b11000111111_00011, 0b11011_00101100000] = some (.jarlF3 3 27) ∧
    reads [0b00000000011_00011] = some (.jmpF1 3) ∧
    reads [0b00000110111_01001, 0b100111101101100_0, 0b1111000111010110] = some (.jmpF2 2028687212 9) ∧
    reads [0b0000011110_011110, 0b010101111010001_0] = some (.jrF1 994257) ∧
    reads [0b0000001011100000, 0b010110010100011_0, 0b1011001001110001] = some (.jrF2 1496886435) ∧
    reads [0b00000110111_00011, 0b101010100000011_1] = some (.loop 21763 3) ∧
    reads [0b01010_111111_10111, 0b0001_1_0001001_100_0] = some (.binsF1 1 12 23 10) := by
  decide +kernel

theorem test_decodeBranchAndData_2 :
    reads [0b11011_111111_10110, 0b1011_1_0001011_010_0] = some (.binsF2 11 10 22 27) ∧
    reads [0b01101_111111_10111, 0b1000_0_0001101_101_0] = some (.binsF3 8 5 23 13) ∧
    reads [0b11101_11111100000, 0b10110_01101000010] = some (.bsh 29 22) ∧
    reads [0b01100_11111100000, 0b00001_01101000000] = some (.bsw 12 1) ∧
    reads [0b01100_111111_01111, 0b0000000000001000] = some (.clipB 15 12) ∧
    reads [0b10100_111111_00110, 0b0000000000001010] = some (.clipBu 6 20) ∧
    reads [0b10000_111111_00100, 0b0000000000001100] = some (.clipH 4 16) ∧
    reads [0b00111_111111_00010, 0b0000000000001110] = some (.clipHu 2 7) ∧
    reads [0b00101_111111_01010, 0b11000_011001_1101_0] = some (.cmovF1 13 10 5 24) ∧
    reads [0b01101_111111_01101, 0b11110_011000_0100_0] = some (.cmovF2 4 13 13 30) ∧
    reads [0b11100_11111100000, 0b10000_01101000110] = some (.hsh 28 16) := by
  decide +kernel

theorem test_decodeBranchAndData_3 :
    reads [0b00011_11111100000, 0b00110_01101000100] = some (.hsw 3 6) ∧
    reads [0b01101_111111_01111, 0b10010_00011000100] = some (.rotlF1 15 13 18) ∧
    reads [0b11101_111111_01001, 0b00101_00011000110] = some (.rotlF2 9 29 5) ∧
    reads [0b01110_111111_11011, 0b0000000010100000] = some (.sarF1 27 14) ∧
    reads [0b10010_010101_11100] = some (.sarF2 28 18) ∧
    reads [0b10111_111111_01001, 0b01110_00010100010] = some (.sarF3 9 23 14) ∧
    reads [0b10110_1111110_0110, 0b0000001000000000] = some (.sasf 6 22) ∧
    reads [0b01000_1111110_0111, 0b0000000000000000] = some (.setf 7 8) ∧
    reads [0b00011_111111_00101, 0b0000000011000000] = some (.shlF1 5 3) ∧
    reads [0b00101_010110_00110] = some (.shlF2 6 5) ∧
    reads [0b10110_111111_01000, 0b01000_00011000010] = some (.shlF3 8 22 8) := by
  decide +kernel

theorem test_decodeBranchAndData_4 :
    reads [0b10000_111111_00001, 0b0000000010000000] = some (.shrF1 1 16) ∧
    reads [0b10011_010100_11011] = some (.shrF2 27 19) ∧
    reads [0b01001_111111_00110, 0b01010_00010000010] = some (.shrF3 6 9 10) ∧
    reads [0b00000000101_00001] = some (.sxb 1) ∧
    reads [0b00000000111_00101] = some (.sxh 5) ∧
    reads [0b00000000100_01110] = some (.zxb 14) ∧
    reads [0b00000000110_10010] = some (.zxh 18) ∧
    reads [0b01100_11111100000, 0b10100_01101100100] = some (.sch0l 12 20) ∧
    reads [0b10011_11111100000, 0b01011_01101100000] = some (.sch0r 19 11) ∧
    reads [0b00101_11111100000, 0b10111_01101100110] = some (.sch1l 5 23) ∧
    reads [0b11100_11111100000, 0b10001_01101100010] = some (.sch1r 28 17) := by
  decide +kernel

theorem test_decodeBranchAndData_5 :
    reads [0b10_101_111110_10110, 0b1010011110101100] = some (.clr1F1 5 42924 22) ∧
    reads [0b00010_111111_11000, 0b0000000011100100] = some (.clr1F2 24 2) ∧
    reads [0b01_100_111110_11100, 0b1110011001001000] = some (.not1F1 4 58952 28) ∧
    reads [0b11100_111111_11001, 0b0000000011100010] = some (.not1F2 25 28) ∧
    reads [0b00_110_111110_10010, 0b1100110001000010] = some (.set1F1 6 52290 18) ∧
    reads [0b01101_111111_01101, 0b0000000011100000] = some (.set1F2 13 13) ∧
    reads [0b11_100_111110_00100, 0b0110010011100110] = some (.tst1F1 4 25830 4) ∧
    reads [0b10101_111111_10000, 0b0000000011100110] = some (.tst1F2 16 21) := by
  decide +kernel

theorem test_decodeLoadAndStore_1 :
    reads [0b00111_111000_00010, 0b0110011010000100] = some (.ldBF1 26244 2 7) ∧
    reads [0b00000111100_00111, 0b01111_1011001_0101, 0b0001000100111101] = some (.ldBF2 564953 7 15) ∧
    reads [0b00010111111_00110, 0b00100_01101110000] = some (.ldBF3 6 4) ∧
    reads [0b00100111111_01011, 0b10100_01101110000] = some (.ldBF4 11 20) ∧
    reads [0b00001_11110_0_00100, 0b000011010111011_1] = some (.ldBuF1 3446 4 1) ∧
    reads [0b00000111101_00101, 0b10010_1011110_0101, 0b1001000100011000] = some (.ldBuF2 4754526 5 18) ∧
    reads [0b00011111111_00100, 0b01100_01101110000] = some (.ldBuF3 4 12) ∧
    reads [0b00101111111_10100, 0b00001_01101110000] = some (.ldBuF4 20 1) ∧
    reads [0b00000111101_11100, 0b00111_001101_01001, 0b0001001000000000] = some (.ldDw 294925 28 7) ∧
    reads [0b00101_111001_01101, 0b100111010011010_0] = some (.ldHF1 20122 13 5) ∧
    reads [0b00000111100_01001, 0b01100_101011_00111, 0b1010001001101000] = some (.ldHF2 2660907 9 12) := by
  decide +kernel

theorem test_decodeLoadAndStore_2 :
    reads [0b00010111111_10100, 0b01100_01101110100] = some (.ldHF3 20 12) ∧
    reads [0b00100111111_10000, 0b00100_01101110100] = some (.ldHF4 16 4) ∧
    reads [0b10000_111111_11100, 0b000111011000100_1] = some (.ldHuF1 3780 28 16) ∧
    reads [0b00000111101_01111, 0b10000_111111_00111, 0b1111111000111011] = some (.ldHuF2 4165375 15 16) ∧
    reads [0b00011111111_10000, 0b01010_01101110100] = some (.ldHuF3 16 10) ∧
    reads [0b00101111111_00011, 0b00101_01101110100] = some (.ldHuF4 3 5) ∧
    reads [0b01011_111001_11000, 0b000110100010101_1] = some (.ldWF1 3349 24 11) ∧
    reads [0b00000111100_01001, 0b10000_101011_01001, 0b1011110110000111] = some (.ldWF2 3105259 9 16) ∧
    reads [0b00010111111_11011, 0b10111_01101111000] = some (.ldWF3 27 23) ∧
    reads [0b00100111111_00110, 0b10001_01101111000] = some (.ldWF4 6 17) ∧
    reads [0b00111_0110_0000011] = some (.sldB 3 7) := by
  decide +kernel

theorem test_decodeLoadAndStore_3 :
    reads [0b01100_0000110_1001] = some (.sldBu 9 12) ∧
    reads [0b10111_1000_0010011] = some (.sldH 19 23) ∧
    reads [0b11110_0000111_1001] = some (.sldHu 9 30) ∧
    reads [0b11001_1010_000010_0] = some (.sldW 2 25) ∧
    reads [0b10101_111010_01010, 0b1000011100110011] = some (.stBF1 34611 10 21) ∧
    reads [0b00000111100_00011, 0b10111_1110000_1101, 0b1101110100000010] = some (.stBF2 7242096 3 23) ∧
    reads [0b00010111111_11100, 0b01001_01101110010] = some (.stBF3 28 9) ∧
    reads [0b00100111111_10001, 0b01100_01101110010] = some (.stBF4 17 12) ∧
    reads [0b00000111101_00110, 0b01100_101001_01111, 0b1110100010000011] = some (.stDw 3809513 6 12) ∧
    reads [0b10010_111011_01000, 0b110001011001111_0] = some (.stHF1 25295 8 18) ∧
    reads [0b00000111101_11001, 0b10001_001010_01101, 0b1000101010100100] = some (.stHF2 2271498 25 17) := by
  decide +kernel

theorem test_decodeLoadAndStore_4 :
    reads [0b00010111111_01011, 0b10101_01101110110] = some (.stHF3 11 21) ∧
    reads [0b00100111111_01000, 0b10100_01101110110] = some (.stHF4 8 20) ∧
    reads [0b11001_111011_11010, 0b110011111100000_1] = some (.stWF1 26592 26 25) ∧
    reads [0b00000111100_00111, 0b11010_111001_01111, 0b1101101001000101] = some (.stWF2 3576185 7 26) ∧
    reads [0b00010111111_01000, 0b11011_01101111010] = some (.stWF3 8 27) ∧
    reads [0b00100111111_01101, 0b11000_01101111010] = some (.stWF4 13 24) ∧
    reads [0b01000_0111_1100111] = some (.sstB 103 8) ∧
    reads [0b10001_1001_0011010] = some (.sstH 26 17) ∧
    reads [0b01100_1010_100000_1] = some (.sstW 32 12) := by
  decide +kernel

theorem test_decodeSpecialAndStack_1 :
    reads [0b0000001000_101111] = some (.callt 47) ∧
    reads [0b0000011111100000, 0b0000000101000100] = some .ctret ∧
    reads [0b00000000010_00001] = some (.switch 1) ∧
    reads [0b0000011110_00001_0, 0b11111101011_00001] = some (.prepareF1 4054 1) ∧
    reads [0b0000011110_01001_1, 0b11001010010_00011] = some (.prepareF2a 3237 9) ∧
    reads [0b0000011110_01001_1, 0b01111000111_01011, 0b0011000110010011] = some (.prepareF2b 1935 9 12691) ∧
    reads [0b0000011110_10100_1, 0b10110001010_10011, 0b1111010011011111] = some (.prepareF2c 2837 20 62687) ∧
    reads [0b0000011110_01111_1, 0b01011000001_11011, 0b0010101000100000, 0b1100111011111110] = some (.prepareF2d 1411 15 3472763424) ∧
    reads [0b0000011001_11000_1, 0b11101111111_00000] = some (.disposeF1 3839 24) ∧
    reads [0b0000011001_01100_0, 0b11111101000_01100] = some (.disposeF2 4048 12 12) ∧
    reads [0b01000111111_00011, 0b01000_00101100000] = some (.pushsp 3 8) ∧
    reads [0b01100111111_00100, 0b01000_00101100000] = some (.popsp 4 8) := by
  decide +kernel

theorem test_decodeSpecialAndStack_2 :
    reads [0b00111_111111_10000, 0b01011_00011101110] = some (.caxi 16 7 11) ∧
    reads [0b1111111111111111, 0b1111000101100000] = some .cll ∧
    reads [0b00001111111_00111, 0b10000_01101110000] = some (.ldlBu 7 16) ∧
    reads [0b00001111111_10100, 0b11101_01101110100] = some (.ldlHu 20 29) ∧
    reads [0b00000111111_10100, 0b11011_01101111000] = some (.ldlW 20 27) ∧
    reads [0b00000111111_00001, 0b10000_01101110010] = some (.stcB 1 16) ∧
    reads [0b00000111111_11110, 0b10101_01101110110] = some (.stcH 30 21) ∧
    reads [0b00000111111_01100, 0b11010_01101111010] = some (.stcW 12 26) ∧
    reads [0b0000000000000000] = some .nop ∧
    reads [0b0000000001000000] = some .rieF1 ∧
    reads [0b10101_1111111_0010, 0b0000000000000000] = some (.rieF2 21 2) := by
  decide +kernel

theorem test_decodeSystem_1 :
    reads [0b0000011111100000, 0b0000000101100000] = some .di ∧
    reads [0b1000011111100000, 0b0000000101100000] = some .ei ∧
    reads [0b0000011111100000, 0b0000000101001000] = some .eiret ∧
    reads [0b0000011111100000, 0b0000000101001010] = some .feret ∧
    reads [0b0_1110_00001000000] = some (.fetrap 14) ∧
    reads [0b00000111111_10110, 0b0000000100000000] = some (.trap 22) ∧
    reads [0b11010111111_11111, 0b00_000_00101100000] = some (.syscall 31) ∧
    reads [0b0000011111100000, 0b0000000100100000] = some .halt ∧
    reads [0b0000111111100000, 0b0000000100100000] = some .snooze := by
  decide +kernel

theorem test_decodeSystem_2 :
    reads [0b11110_111111_11010, 0b01101_00000100000] = some (.ldsr 30 13 26) ∧
    reads [0b00111_111111_10111, 0b11001_00001000000] = some (.stsr 23 25 7) ∧
    reads [0b10000_111111_00110, 0b11101_00101100110] = some (.ldmMp 16 29 6) ∧
    reads [0b01110_111111_10101, 0b11010_00101100100] = some (.stmMp 14 26 21) ∧
    reads [0b0000011111100000, 0b1000000101100000] = some .resbank ∧
    reads [0b0000000000011101] = some .synce ∧
    reads [0b0000000000011100] = some .synci ∧
    reads [0b0000000000011110] = some .syncm ∧
    reads [0b0000000000011111] = some .syncp := by
  decide +kernel

theorem test_decodeCache :
    reads [0b111_01_111111_00011, 0b01011_00101100000] = some (.cache 43 3) ∧
    reads [0b11011111111_11000, 0b11010_00101100000] = some (.pref 26 24) := by
  decide +kernel

theorem test_decodeFloatArithmetic_1 :
    reads [0b0111_011111100000, 0b1000_010001011000] = some (.absfD 7 8) ∧
    reads [0b01101_11111100000, 0b11000_10001001000] = some (.absfS 13 24) ∧
    reads [0b0010_011111100001, 0b1100_010001011000] = some (.negfD 2 12) ∧
    reads [0b00110_11111100001, 0b00110_10001001000] = some (.negfS 6 6) ∧
    reads [0b0001_0111111_0011_0, 0b0011_010001110000] = some (.addfD 3 1 3) ∧
    reads [0b11101_111111_10011, 0b01111_10001100000] = some (.addfS 19 29 15) ∧
    reads [0b1011_0111111_1101_0, 0b0011_010001110010] = some (.subfD 13 11 3) ∧
    reads [0b11011_111111_10100, 0b10100_10001100010] = some (.subfS 20 27 20) ∧
    reads [0b1011_0111111_1000_0, 0b0110_010001110100] = some (.mulfD 8 11 6) ∧
    reads [0b10010_111111_00101, 0b10010_10001100100] = some (.mulfS 5 18 18) ∧
    reads [0b0001_0111111_0011_0, 0b0001_010001111110] = some (.divfD 3 1 1) := by
  decide +kernel

theorem test_decodeFloatArithmetic_2 :
    reads [0b11000_111111_11010, 0b10101_10001101110] = some (.divfS 26 24 21) ∧
    reads [0b1001_0111111_0010_0, 0b1100_010001111000] = some (.maxfD 2 9 12) ∧
    reads [0b00101_111111_11110, 0b01110_10001101000] = some (.maxfS 30 5 14) ∧
    reads [0b0100_0111111_1110_0, 0b1110_010001111010] = some (.minfD 14 4 14) ∧
    reads [0b00111_111111_11100, 0b00001_10001101010] = some (.minfS 28 7 1) ∧
    reads [0b0101_011111100000, 0b0100_010001011110] = some (.sqrtfD 5 4) ∧
    reads [0b01010_11111100000, 0b10001_10001001110] = some (.sqrtfS 10 17) ∧
    reads [0b0100_011111100001, 0b1101_010001011110] = some (.recipfD 4 13) ∧
    reads [0b10011_11111100001, 0b01011_10001001110] = some (.recipfS 19 11) ∧
    reads [0b0101_011111100010, 0b1001_010001011110] = some (.rsqrtfD 5 9) ∧
    reads [0b01110_11111100010, 0b11011_10001001110] = some (.rsqrtfS 14 27) := by
  decide +kernel

theorem test_decodeFloatArithmetic_3 :
    reads [0b00010_111111_00101, 0b11110_10011100000] = some (.fmafS 5 2 30) ∧
    reads [0b01100_111111_11000, 0b11101_10011100010] = some (.fmsfS 24 12 29) ∧
    reads [0b10110_111111_01111, 0b10011_10011100100] = some (.fnmafS 15 22 19) ∧
    reads [0b11101_111111_11011, 0b10001_10011100110] = some (.fnmsfS 27 29 17) ∧
    reads [0b1001_0111111_0011_0, 0b0_0111_1000011_101_0] = some (.cmpfD 7 5 3 9) ∧
    reads [0b00001_111111_10001, 0b0_0011_1000010_101_0] = some (.cmpfS 3 5 17 1) ∧
    reads [0b0011_0111111_1101_0, 0b1010_01000001_100_0] = some (.cmovfD 4 13 3 10) ∧
    reads [0b11010_111111_11001, 0b00101_1000000_001_0] = some (.cmovfS 1 25 26 5) ∧
    reads [0b0000011111100000, 0b000001000000_010_0] = some (.trfsr 2) := by
  decide +kernel

theorem test_decodeFloatConversionOut_1 :
    reads [0b0011_011111100010, 0b1000_010001010100] = some (.ceilfDl 3 8) ∧
    reads [0b1010_011111110010, 0b1100_010001010100] = some (.ceilfDul 10 12) ∧
    reads [0b0010_011111110010, 0b10010_10001010000] = some (.ceilfDuw 2 18) ∧
    reads [0b0001_011111100010, 0b01011_10001010000] = some (.ceilfDw 1 11) ∧
    reads [0b10110_11111100010, 0b1001_010001000100] = some (.ceilfSl 22 9) ∧
    reads [0b10001_11111110010, 0b1001_010001000100] = some (.ceilfSul 17 9) ∧
    reads [0b10000_11111110010, 0b11010_10001000000] = some (.ceilfSuw 16 26) ∧
    reads [0b11001_11111100010, 0b00100_10001000000] = some (.ceilfSw 25 4) ∧
    reads [0b1001_011111100011, 0b0001_010001010100] = some (.floorfDl 9 1) := by
  decide +kernel

theorem test_decodeFloatConversionOut_2 :
    reads [0b0100_011111110011, 0b0100_010001010100] = some (.floorfDul 4 4) ∧
    reads [0b0101_011111110011, 0b00010_10001010000] = some (.floorfDuw 5 2) ∧
    reads [0b1101_011111100011, 0b00100_10001010000] = some (.floorfDw 13 4) ∧
    reads [0b10001_11111100011, 0b1000_010001000100] = some (.floorfSl 17 8) ∧
    reads [0b10010_11111110011, 0b0001_010001000100] = some (.floorfSul 18 1) ∧
    reads [0b11001_11111110011, 0b11101_10001000000] = some (.floorfSuw 25 29) ∧
    reads [0b11110_11111100011, 0b00011_10001000000] = some (.floorfSw 30 3) ∧
    reads [0b1000_011111100000, 0b0110_010001010100] = some (.roundfDl 8 6) ∧
    reads [0b1010_011111110000, 0b1001_010001010100] = some (.roundfDul 10 9) := by
  decide +kernel

theorem test_decodeFloatConversionOut_3 :
    reads [0b1010_011111110000, 0b10001_10001010000] = some (.roundfDuw 10 17) ∧
    reads [0b0100_011111100000, 0b10111_10001010000] = some (.roundfDw 4 23) ∧
    reads [0b01001_11111100000, 0b1000_010001000100] = some (.roundfSl 9 8) ∧
    reads [0b10001_11111110000, 0b1001_010001000100] = some (.roundfSul 17 9) ∧
    reads [0b11010_11111110000, 0b10000_10001000000] = some (.roundfSuw 26 16) ∧
    reads [0b10001_11111100000, 0b01000_10001000000] = some (.roundfSw 17 8) ∧
    reads [0b1100_011111100001, 0b1001_010001010100] = some (.trncfDl 12 9) := by
  decide +kernel

theorem test_decodeFloatConversionIn_1 :
    reads [0b0101_011111110001, 0b1001_010001010100] = some (.trncfDul 5 9) ∧
    reads [0b0100_011111110001, 0b11011_10001010000] = some (.trncfDuw 4 27) ∧
    reads [0b1000_011111100001, 0b00101_10001010000] = some (.trncfDw 8 5) ∧
    reads [0b01110_11111100001, 0b0010_010001000100] = some (.trncfSl 14 2) ∧
    reads [0b01101_11111110001, 0b1000_010001000100] = some (.trncfSul 13 8) ∧
    reads [0b01011_11111110001, 0b00011_10001000000] = some (.trncfSuw 11 3) ∧
    reads [0b10110_11111100001, 0b01000_10001000000] = some (.trncfSw 22 8) ∧
    reads [0b0111_011111100100, 0b0010_010001010100] = some (.cvtfDl 7 2) ∧
    reads [0b0100_011111110100, 0b1011_010001010100] = some (.cvtfDul 4 11) := by
  decide +kernel

theorem test_decodeFloatConversionIn_2 :
    reads [0b0101_011111110100, 0b11010_10001010000] = some (.cvtfDuw 5 26) ∧
    reads [0b0010_011111100100, 0b11101_10001010000] = some (.cvtfDw 2 29) ∧
    reads [0b11001_11111100100, 0b0011_010001000100] = some (.cvtfSl 25 3) ∧
    reads [0b10111_11111110100, 0b1011_010001000100] = some (.cvtfSul 23 11) ∧
    reads [0b10110_11111110100, 0b01100_10001000000] = some (.cvtfSuw 22 12) ∧
    reads [0b00101_11111100100, 0b01001_10001000000] = some (.cvtfSw 5 9) ∧
    reads [0b0011_011111100011, 0b01111_10001010010] = some (.cvtfDs 3 15) ∧
    reads [0b01000_11111100010, 0b11000_10001000010] = some (.cvtfHs 8 24) ∧
    reads [0b0010_011111100001, 0b0111_010001010010] = some (.cvtfLd 2 7) := by
  decide +kernel

theorem test_decodeFloatConversionIn_3 :
    reads [0b1000_011111100001, 0b00110_10001000010] = some (.cvtfLs 8 6) ∧
    reads [0b10110_11111100010, 0b1110_010001010010] = some (.cvtfSd 22 14) ∧
    reads [0b01000_11111100011, 0b00110_10001000010] = some (.cvtfSh 8 6) ∧
    reads [0b1100_011111110001, 0b0111_010001010010] = some (.cvtfUld 12 7) ∧
    reads [0b1001_011111110001, 0b01101_10001000010] = some (.cvtfUls 9 13) ∧
    reads [0b01011_11111110000, 0b0111_010001010010] = some (.cvtfUwd 11 7) ∧
    reads [0b00111_11111110000, 0b01100_10001000010] = some (.cvtfUws 7 12) ∧
    reads [0b01011_11111100000, 0b0010_010001010010] = some (.cvtfWd 11 2) ∧
    reads [0b11000_11111100000, 0b01100_10001000010] = some (.cvtfWs 24 12) := by
  decide +kernel

theorem test_decodeVector_1 :
    reads [0b00001_11111111110, 0b01011_10110100000] = some (.movvW4 1 11) ∧
    reads [0b01111_111111110_10, 0b10111_10110100000] = some (.flpvS4 2 15 23) ∧
    reads [0b00000111101_01101, 0b10001_11010_0_11101, 0b01011_00001001011] = some (.shflvW4 75 13 11 17) ∧
    reads [0b00000111101_10001, 0b00011_00_1010_11101, 0b01001011101001_11] = some (.ldvW 10 4841 17 3) ∧
    reads [0b00000111101_11110, 0b11010_0110_01_11101, 0b1111110000110_111] = some (.ldvDw 1 8070 30 26) ∧
    reads [0b00000111101_11101, 0b00100_01010011101, 0b001110101001_1111] = some (.ldvQw 937 29 4) ∧
    reads [0b00000111101_01001, 0b01001_01111011101, 0b0001010110001_111] = some (.ldvzH4 689 9 9) ∧
    reads [0b00000111101_11001, 0b00110_0100_01_11101, 0b11100111111011_11] = some (.stvW 1 14843 25 6) ∧
    reads [0b00000111101_11001, 0b00101_01110_1_11101, 0b0100010101000_111] = some (.stvDw 1 2216 25 5) ∧
    reads [0b00000111101_01110, 0b11100_01010111101, 0b110100011110_1111] = some (.stvQw 3358 14 28) := by
  decide +kernel

theorem test_decodeVector_2 :
    reads [0b00000111101_10110, 0b11011_01111111101, 0b1110100101011_111] = some (.stvzH4 7467 22 27) ∧
    reads [0b00000111101_01001, 0b00101_11000011101, 0b01101_111111_10010] = some (.cmovfW4 9 13 5 18) ∧
    reads [0b10011_11111111111, 0b00_101_10110100000] = some (.trfsrvW4 5 19) ∧
    reads [0b01011_111111_10111, 0b00011_101100_1000_0] = some (.cmpfS4 8 23 11 3) ∧
    reads [0b01001_11111110000, 0b00010_10110100000] = some (.absfS4 9 2) ∧
    reads [0b11010_11111110001, 0b10111_10110100000] = some (.negfS4 26 23) ∧
    reads [0b01110_111111_00110, 0b11101_10110100100] = some (.addfS4 6 14 29) ∧
    reads [0b01001_111111_00011, 0b00001_10110100110] = some (.subfS4 3 9 1) ∧
    reads [0b00011_111111_10101, 0b11010_10110101000] = some (.mulfS4 21 3 26) ∧
    reads [0b00011_111111_01001, 0b10100_10110101110] = some (.divfS4 9 3 20) := by
  decide +kernel

theorem test_decodeVector_3 :
    reads [0b01000_111111_11100, 0b00011_10110101010] = some (.maxfS4 28 8 3) ∧
    reads [0b11100_111111_01001, 0b00100_10110101100] = some (.minfS4 9 28 4) ∧
    reads [0b01111_11111110010, 0b00001_10110100000] = some (.sqrtfS4 15 1) ∧
    reads [0b01011_11111110011, 0b10010_10110100000] = some (.recipfS4 11 18) ∧
    reads [0b01110_11111110100, 0b11110_10110100000] = some (.rsqrtfS4 14 30) ∧
    reads [0b01001_111111_11110, 0b10100_10011000000] = some (.fmafS4 30 9 20) ∧
    reads [0b00010_111111_00101, 0b10001_10011000010] = some (.fmsfS4 5 2 17) ∧
    reads [0b01000_111111_10111, 0b00100_10011000100] = some (.fnmafS4 23 8 4) ∧
    reads [0b01001_111111_00110, 0b00010_10011000110] = some (.fnmsfS4 6 9 2) := by
  decide +kernel

theorem test_decodeVectorConversion :
    reads [0b00110_11111100000, 0b00111_10110100000] = some (.roundfSw4 6 7) ∧
    reads [0b11110_11111100001, 0b01010_10110100000] = some (.roundfSuw4 30 10) ∧
    reads [0b10101_11111100010, 0b01010_10110100000] = some (.trncfSw4 21 10) ∧
    reads [0b10001_11111100011, 0b11001_10110100000] = some (.trncfSuw4 17 25) ∧
    reads [0b00111_11111100100, 0b01010_10110100000] = some (.ceilfSw4 7 10) ∧
    reads [0b01111_11111100101, 0b10001_10110100000] = some (.ceilfSuw4 15 17) ∧
    reads [0b10110_11111100110, 0b00110_10110100000] = some (.floorfSw4 22 6) ∧
    reads [0b01001_11111100111, 0b01100_10110100000] = some (.floorfSuw4 9 12) ∧
    reads [0b11010_11111101000, 0b00001_10110100000] = some (.cvtfSw4 26 1) ∧
    reads [0b01001_11111101001, 0b00010_10110100000] = some (.cvtfSuw4 9 2) ∧
    reads [0b00001_11111101010, 0b00001_10110100000] = some (.cvtfWs4 1 1) ∧
    reads [0b11000_11111101011, 0b10001_10110100000] = some (.cvtfUws4 24 17) ∧
    reads [0b10010_11111101100, 0b00111_10110100000] = some (.cvtfHs4 18 7) ∧
    reads [0b10001_11111101101, 0b10000_10110100000] = some (.cvtfSh4 17 16) := by
  decide +kernel

theorem test_decodeVectorAcross_1 :
    reads [0b11110_111111_01000, 0b01111_10111010000] = some (.addsubfS4 8 30 15) ∧
    reads [0b10110_111111_00100, 0b11011_10111010010] = some (.subaddfS4 4 22 27) ∧
    reads [0b01110_111111_10101, 0b10110_10111011000] = some (.addsubnfS4 21 14 22) ∧
    reads [0b10010_111111_10000, 0b11011_10111011010] = some (.subaddnfS4 16 18 27) ∧
    reads [0b01101_111111_11101, 0b10001_10111000100] = some (.addxfS4 29 13 17) ∧
    reads [0b10111_111111_01010, 0b00111_10111000110] = some (.subxfS4 10 23 7) ∧
    reads [0b01011_111111_01000, 0b00111_10111001000] = some (.mulxfS4 8 11 7) ∧
    reads [0b11101_111111_11011, 0b10111_10111010100] = some (.addsubxfS4 27 29 23) := by
  decide +kernel

theorem test_decodeVectorAcross_2 :
    reads [0b10101_111111_11000, 0b00101_10111010110] = some (.subaddxfS4 24 21 5) ∧
    reads [0b01100_111111_01101, 0b00010_10111011100] = some (.addsubnxfS4 13 12 2) ∧
    reads [0b00101_111111_11011, 0b00001_10111011110] = some (.subaddnxfS4 27 5 1) ∧
    reads [0b10101_111111_00011, 0b11000_10110110100] = some (.addrfS4 3 21 24) ∧
    reads [0b01001_111111_11101, 0b01110_10110110110] = some (.subrfS4 29 9 14) ∧
    reads [0b00010_111111_00110, 0b00011_10110111000] = some (.mulrfS4 6 2 3) ∧
    reads [0b11011_111111_10110, 0b01101_10110111010] = some (.maxrfS4 22 27 13) ∧
    reads [0b10001_111111_11100, 0b10110_10110111100] = some (.minrfS4 28 17 22) := by
  decide +kernel
/-! ## Single steps -/

/-! ### 95_test_vectors.md B.1 to B.3: arithmetic, data, branches, loads and stores -/

theorem test_addF1_1 :
    runs [0x11C1] (base |>.setReg 1 0x7FFFFFFF |>.setReg 2 0x1)
      (fun t => t.reg 2 == 0x80000000 && !t.cy && t.ov && t.sf && !t.zf && t.pc == 0x1002) = true := by
  decide +kernel

theorem test_addi_1 :
    runs [0x3605, 0xFFFF] (base |>.setReg 5 0x10)
      (fun t => t.reg 6 == 0xF && t.cy && !t.ov && !t.sf && !t.zf && t.pc == 0x1004) = true := by
  decide +kernel

theorem test_cmpF2_1 :
    runs [0x127F] (base |>.setReg 2 0xFFFFFFFF)
      (fun t => !t.cy && !t.ov && !t.sf && t.zf) = true := by
  decide +kernel

theorem test_movF2_1 :
    runs [0x3A1D] (base)
      (fun t => t.reg 7 == 0xFFFFFFFD) = true := by
  decide +kernel

theorem test_movF3_1 :
    runs [0x0625, 0x5678, 0x1234] (base)
      (fun t => t.reg 5 == 0x12345678 && t.pc == 0x1006) = true := by
  decide +kernel

theorem test_sub_1 :
    runs [0x11A1] (base |>.setReg 1 0x1 |>.setReg 2 0x0)
      (fun t => t.reg 2 == 0xFFFFFFFF && t.cy && !t.ov && t.sf && !t.zf) = true := by
  decide +kernel

theorem test_div_1 :
    runs [0x17E1, 0x1AC0] (base |>.setReg 2 0xFFFFFFF9 |>.setReg 1 0x2)
      (fun t => t.reg 2 == 0xFFFFFFFD && t.reg 3 == 0xFFFFFFFF && !t.ov && t.sf && !t.zf) = true := by
  decide +kernel

theorem test_divhF1_1 :
    runs [0x1041] (base |>.setReg 2 0x10000 |>.setReg 1 0x12340100)
      (fun t => t.reg 2 == 0x100 && !t.ov && !t.sf && !t.zf) = true := by
  decide +kernel

theorem test_divu_1 :
    runs [0x17E1, 0x1AC2] (base |>.setReg 2 0x80000000 |>.setReg 1 0xFFFFFFFF)
      (fun t => t.reg 2 == 0x0 && t.reg 3 == 0x80000000 && !t.ov && !t.sf && t.zf) = true := by
  decide +kernel

theorem test_sataddF1_1 :
    runs [0x10C1] (base |>.setReg 2 0x7FFFFFFF |>.setReg 1 0x1)
      (fun t => t.reg 2 == 0x7FFFFFFF && !t.cy && t.ov && !t.sf && !t.zf && t.sat) = true := by
  decide +kernel

theorem test_sataddF2_1 :
    runs [0x123F] (base |>.setReg 2 0x80000000)
      (fun t => t.reg 2 == 0x80000000 && t.cy && t.ov && t.sf && !t.zf && t.sat) = true := by
  decide +kernel

theorem test_satsubF1_1 :
    runs [0x10A1] (base |>.setReg 2 0x80000000 |>.setReg 1 0x1)
      (fun t => t.reg 2 == 0x80000000 && !t.cy && t.ov && t.sf && !t.zf && t.sat) = true := by
  decide +kernel

theorem test_satsubi_1 :
    runs [0x1661, 0xFFE0] (base |>.setReg 1 0x7FFFFFF0)
      (fun t => t.reg 2 == 0x7FFFFFFF && t.cy && t.ov && !t.sf && !t.zf && t.sat) = true := by
  decide +kernel

theorem test_satsubr_1 :
    runs [0x1081] (base |>.setReg 1 0x5 |>.setReg 2 0x7)
      (fun t => t.reg 2 == 0xFFFFFFFE && t.cy && !t.ov && t.sf && !t.zf && !t.sat) = true := by
  decide +kernel

theorem test_mulF1_1 :
    runs [0x17E1, 0x1220] (base |>.setReg 1 0x10000 |>.setReg 2 0x10000)
      (fun t => t.reg 2 == 0x1) = true := by
  decide +kernel

theorem test_mulF2_1 :
    runs [0x17FF, 0x1A7C] (base |>.setReg 2 0x2)
      (fun t => t.reg 2 == 0xFFFFFFFE && t.reg 3 == 0xFFFFFFFF) = true := by
  decide +kernel

theorem test_muluF2_1 :
    runs [0x17FF, 0x1A7E] (base |>.setReg 2 0x2)
      (fun t => t.reg 2 == 0x3FE && t.reg 3 == 0x0) = true := by
  decide +kernel

theorem test_tst_1 :
    runs [0x1161] (base |>.setReg 1 0xFF00 |>.setReg 2 0xFF)
      (fun t => !t.ov && !t.sf && t.zf) = true := by
  decide +kernel

theorem test_xor_1 :
    runs [0x1121] (base |>.setReg 1 0x12345678 |>.setReg 2 0x12345678)
      (fun t => t.reg 2 == 0x0 && !t.ov && !t.sf && t.zf) = true := by
  decide +kernel

theorem test_xori_1 :
    runs [0x16A1, 0xFFFF] (base |>.setReg 1 0xFFFF0000)
      (fun t => t.reg 2 == 0xFFFFFFFF && !t.ov && t.sf && !t.zf) = true := by
  decide +kernel

theorem test_bcondF1_1 :
    runs [0x05B2] (base |>.setPsw 0x30001)
      (fun t => t.pc == 0x1006) = true := by
  decide +kernel

theorem test_jarlF1_1 :
    runs [0xFF80, 0x0100] (base)
      (fun t => t.reg 31 == 0x1004 && t.pc == 0x1100) = true := by
  decide +kernel

theorem test_jmpF1_1 :
    runs [0x007F] (base |>.setReg 31 0x1005)
      (fun t => t.pc == 0x1004) = true := by
  decide +kernel

theorem test_jrF1_1 :
    runs [0x07BF, 0xFFFC] (base |> atPc 0x2000)
      (fun t => t.pc == 0x1FFC) = true := by
  decide +kernel

theorem test_loop_1 :
    runs [0x06E5, 0x0009] (base |> atPc 0x1010 |>.setReg 5 0x2)
      (fun t => t.reg 5 == 0x1 && t.cy && !t.ov && !t.sf && !t.zf && t.pc == 0x1008) = true := by
  decide +kernel

theorem test_binsF3_1 :
    runs [0x17E1, 0xF8D0] (base |>.setReg 1 0xAB |>.setReg 2 0xFFFFFFFF)
      (fun t => t.reg 2 == 0xFFFFABFF && !t.ov && t.sf && !t.zf) = true := by
  decide +kernel

theorem test_binsF2_1 :
    runs [0x17E1, 0xF0B0] (base |>.setReg 1 0x12345678 |>.setReg 2 0xFFFFFFFF)
      (fun t => t.reg 2 == 0x12345678 && !t.ov && !t.sf && !t.zf) = true := by
  decide +kernel

theorem test_binsF1_1 :
    runs [0x17E1, 0xF89E] (base |>.setReg 1 0x1 |>.setReg 2 0x0)
      (fun t => t.reg 2 == 0x80000000 && !t.ov && t.sf && !t.zf) = true := by
  decide +kernel

theorem test_rotlF1_1 :
    runs [0x17E1, 0x18C4] (base |>.setReg 2 0x80000001)
      (fun t => t.reg 3 == 0x3 && t.cy && !t.ov && !t.sf && !t.zf) = true := by
  decide +kernel

theorem test_sarF2_1 :
    runs [0x12A1] (base |>.setReg 2 0x80000003)
      (fun t => t.reg 2 == 0xC0000001 && t.cy && !t.ov && t.sf && !t.zf) = true := by
  decide +kernel

theorem test_shlF2_1 :
    runs [0x12C1] (base |>.setReg 2 0xC0000000)
      (fun t => t.reg 2 == 0x80000000 && t.cy && !t.ov && t.sf && !t.zf) = true := by
  decide +kernel

theorem test_shrF2_1 :
    runs [0x1281] (base |>.setReg 2 0x1)
      (fun t => t.reg 2 == 0x0 && t.cy && !t.ov && !t.sf && t.zf) = true := by
  decide +kernel

theorem test_shlF1_1 :
    runs [0x17E1, 0x00C0] (base |>.setReg 1 0x20 |>.setReg 2 0x80000001)
      (fun t => t.reg 2 == 0x80000001 && !t.cy && !t.ov && t.sf && !t.zf) = true := by
  decide +kernel

theorem test_clr1F1_1 :
    runs [0x9FC1, 0x0000] (base |>.writeByte 0x1000 0xFF |>.setReg 1 0x1000)
      (fun t => t.readByte 0x1000 == 0xF7 && !t.zf) = true := by
  decide +kernel

theorem test_not1F2_1 :
    runs [0x17E1, 0x00E2] (base |>.writeByte 0x1000 0x01 |>.setReg 1 0x1000 |>.setReg 2 0x8)
      (fun t => t.readByte 0x1000 == 0x0 && !t.zf) = true := by
  decide +kernel

theorem test_set1F1_1 :
    runs [0x3FC1, 0xFFFC] (base |>.setReg 1 0x1000)
      (fun t => t.readByte 0xFFC == 0x80 && t.zf) = true := by
  decide +kernel

theorem test_tst1F1_1 :
    runs [0xD7C1, 0x0000] (base |>.setReg 1 0x1000 |>.writeByte 0x1000 0x4)
      (fun t => !t.zf) = true := by
  decide +kernel

theorem test_bcondF2_1 :
    runs [0x07E2, 0x8001] (base |> atPc 0x2000 |>.setPsw 0x1)
      (fun t => t.pc == 0xA000) = true := by
  decide +kernel

theorem test_jmpF2_1 :
    runs [0x06E1, 0x0100, 0x0000] (base |>.setReg 1 0x1000)
      (fun t => t.pc == 0x1100) = true := by
  decide +kernel

theorem test_ldBF1_1 :
    runs [0x1701, 0x0003] (base |>.writeByte 0x1003 0x80 |>.setReg 1 0x1000)
      (fun t => t.reg 2 == 0xFFFFFF80) = true := by
  decide +kernel

theorem test_ldBuF1_1 :
    runs [0x17A1, 0x0003] (base |>.writeByte 0x1003 0x80 |>.setReg 1 0x1000)
      (fun t => t.reg 2 == 0x80) = true := by
  decide +kernel

theorem test_ldHF1_1 :
    runs [0x1721, 0x0002] (base |>.writeHalf 0x1002 0x8001 |>.setReg 1 0x1000)
      (fun t => t.reg 2 == 0xFFFF8001) = true := by
  decide +kernel

theorem test_ldHuF1_1 :
    runs [0x17E1, 0x0003] (base |>.writeHalf 0x1002 0x8001 |>.setReg 1 0x1000)
      (fun t => t.reg 2 == 0x8001) = true := by
  decide +kernel

theorem test_ldWF1_1 :
    runs [0x1721, 0x0005] (base |>.writeWord 0x1004 0xDEADBEEF |>.setReg 1 0x1000)
      (fun t => t.reg 2 == 0xDEADBEEF) = true := by
  decide +kernel

theorem test_sldB_1 :
    runs [0x1305] (base |>.setReg 30 0x2000 |>.writeByte 0x2005 0xF0)
      (fun t => t.reg 2 == 0xFFFFFFF0) = true := by
  decide +kernel

theorem test_sldBu_1 :
    runs [0x106F] (base |>.setReg 30 0x2000 |>.writeByte 0x200F 0xF0)
      (fun t => t.reg 2 == 0xF0) = true := by
  decide +kernel

theorem test_sldH_1 :
    runs [0x1402] (base |>.setReg 30 0x2000 |>.writeHalf 0x2004 0x8000)
      (fun t => t.reg 2 == 0xFFFF8000) = true := by
  decide +kernel

theorem test_sldHu_1 :
    runs [0x1072] (base |>.setReg 30 0x2000 |>.writeHalf 0x2004 0x8000)
      (fun t => t.reg 2 == 0x8000) = true := by
  decide +kernel

theorem test_sldW_1 :
    runs [0x1504] (base |>.setReg 30 0x2000 |>.writeWord 0x2008 0x11223344)
      (fun t => t.reg 2 == 0x11223344) = true := by
  decide +kernel

theorem test_stBF1_1 :
    runs [0x1741, 0x0001] (base |>.setReg 1 0x1000 |>.setReg 2 0x12345678)
      (fun t => t.readByte 0x1001 == 0x78 && t.readByte 0x1002 == 0x0) = true := by
  decide +kernel

theorem test_stDw_1 :
    runs [0x07A1, 0x208F, 0x0000] (base |>.setReg 1 0x1000 |>.setReg 4 0x11111111 |>.setReg 5 0x22222222)
      (fun t => t.readWord 0x1008 == 0x11111111 && t.readWord 0x100C == 0x22222222) = true := by
  decide +kernel

theorem test_stHF1_1 :
    runs [0x1761, 0x0002] (base |>.setReg 1 0x1000 |>.setReg 2 0x12345678)
      (fun t => t.readHalf 0x1002 == 0x5678) = true := by
  decide +kernel

theorem test_stWF4_1 :
    runs [0x27E3, 0x137A] (base |>.setReg 3 0x1000 |>.setReg 2 0xCAFEBABE)
      (fun t => t.readWord 0x1000 == 0xCAFEBABE && t.reg 3 == 0xFFC) = true := by
  decide +kernel

theorem test_sstB_1 :
    runs [0x1381] (base |>.setReg 30 0x2000 |>.setReg 2 0x1234)
      (fun t => t.readByte 0x2001 == 0x34) = true := by
  decide +kernel

theorem test_sstH_1 :
    runs [0x1481] (base |>.setReg 30 0x2000 |>.setReg 2 0x1234)
      (fun t => t.readHalf 0x2002 == 0x1234) = true := by
  decide +kernel

theorem test_sstW_1 :
    runs [0x1503] (base |>.setReg 30 0x2000 |>.setReg 2 0x11223344)
      (fun t => t.readWord 0x2004 == 0x11223344) = true := by
  decide +kernel

theorem test_ldWF2_1 :
    runs [0x0781, 0x1C49, 0x0246] (base |>.setReg 1 0x1000 |>.writeWord 0x13344 0xAABBCCDD)
      (fun t => t.reg 3 == 0xAABBCCDD) = true := by
  decide +kernel

theorem test_callt_1 :
    runs [0x0203] (base |>.writeHalf 0x2006 0x40 |>.setPsw 0x3001F |> fun u => { u with sys.ctbp := 0x2000 })
      (fun t => t.sys.ctpc == 0x1002 && t.sys.ctpsw == 0x1F && t.pc == 0x2040) = true := by
  decide +kernel

theorem test_ctret_1 :
    runs [0x07E0, 0x0144] (base |> fun u => { u with sys.ctpc := 0x1002 } |> fun u => { u with sys.ctpsw := 0x11 })
      (fun t => t.pc == 0x1002 && !t.cy && !t.ov && !t.sf && t.zf && t.sat) = true := by
  decide +kernel

theorem test_switch_1 :
    runs [0x0045] (base |>.setReg 5 0x2 |>.writeHalf 0x1006 0x10)
      (fun t => t.pc == 0x1022) = true := by
  decide +kernel

theorem test_prepareF1_1 :
    runs [0x0784, 0x0821] (base |>.setReg 3 0x1000 |>.setReg 20 0xAAAA0020 |>.setReg 31 0x31)
      (fun t => t.readWord 0xFFC == 0xAAAA0020 && t.readWord 0xFF8 == 0x31 && t.reg 3 == 0xFF0 && t.pc == 0x1004) = true := by
  decide +kernel

theorem test_pushsp_1 :
    runs [0x47E5, 0x3160] (base |>.setReg 3 0x2000 |>.setReg 5 0x55 |>.setReg 6 0x66)
      (fun t => t.readWord 0x1FFC == 0x55 && t.readWord 0x1FF8 == 0x66 && t.reg 3 == 0x1FF8) = true := by
  decide +kernel

theorem test_popsp_1 :
    runs [0x67E5, 0x3160] (base |>.setReg 3 0x1FF8 |>.writeWord 0x1FFC 0x55 |>.writeWord 0x1FF8 0x66)
      (fun t => t.reg 6 == 0x66 && t.reg 5 == 0x55 && t.reg 3 == 0x2000) = true := by
  decide +kernel

theorem test_disposeF2_1 :
    runs [0x0642, 0x0C3F] (base |>.setReg 3 0x3FF0 |>.writeWord 0x3FF4 0x1234 |>.writeWord 0x3FF8 0x22222222 |>.writeWord 0x3FFC 0x11111111)
      (fun t => t.pc == 0x1234 && t.reg 3 == 0x4000 && t.reg 20 == 0x11111111 && t.reg 21 == 0x22222222 && t.reg 31 == 0x1234) = true := by
  decide +kernel

theorem test_rieF1_1 :
    runs [0x0040] (base)
      (fun t => t.pc == 0x60 && t.host.feic == 0x60 && t.host.fepc == 0x1000 && t.host.fepsw == 0x30000 && t.host.psw == 0x300E0) = true := by
  decide +kernel

theorem test_rieF2_1 :
    runs [0x1FF5, 0x0000] (base)
      (fun t => t.pc == 0x60) = true := by
  decide +kernel

theorem test_di_1 :
    runs [0x07E0, 0x0160] (base)
      (fun t => t.psw == 0x30020) = true := by
  decide +kernel

theorem test_ei_1 :
    runs [0x87E0, 0x0160] (base |>.setPsw 0x20)
      (fun t => t.psw == 0x0) = true := by
  decide +kernel

theorem test_fetrap_1 :
    runs [0x2840] (base)
      (fun t => t.host.fepc == 0x1002 && t.host.feic == 0x35 && t.pc == 0x30) = true := by
  decide +kernel

theorem test_trap_1 :
    runs [0x07F1, 0x0100] (base |> atPc 0x2000)
      (fun t => t.host.eipc == 0x2004 && t.host.eiic == 0x51 && t.pc == 0x50) = true := by
  decide +kernel

theorem test_syscall_1 :
    runs [0xD7E2, 0x0160] (base |>.writeWord 0x8008 0x100 |> fun u => { u with sys.scbp := 0x8000 } |> fun u => { u with sys.sccfg := 0x3 })
      (fun t => t.host.eipc == 0x1004 && t.host.eiic == 0x8002 && t.pc == 0x8100) = true := by
  decide +kernel

theorem test_ldsr_1 :
    runs [0x2FE5, 0x0020] (base |>.setPsw 0x40000000 |>.setReg 5 0xFFFFFFFF)
      (fun t => t.psw == 0x4000001F) = true := by
  decide +kernel

theorem test_stsr_1 :
    runs [0x57E0, 0x0040] (base |>.setPsw 0x40000000)
      (fun t => t.host.fepc == 0x1000 && t.host.feic == 0xA0 && t.pc == 0xA0 && t.reg 10 == 0x0) = true := by
  decide +kernel

theorem test_synce_1 :
    runs [0x001D] (base)
      (fun t => t.pc == 0x1002) = true := by
  decide +kernel

theorem test_cll_1 :
    runs [0xFFFF, 0xF160] (base)
      (fun t => t.pc == 0x1004) = true := by
  decide +kernel

theorem test_cache_1 :
    runs [0xE7EA, 0x0160] (base)
      (fun t => t.pc == 0x1004) = true := by
  decide +kernel

theorem test_pref_1 :
    runs [0xDFE6, 0x0160] (base)
      (fun t => t.pc == 0x1004) = true := by
  decide +kernel

/-! ### 95_test_vectors.md B.4 to B.6: stack, atomic access, system, cache -/

theorem test_caxi_1 :
    runs [0x17E1, 0x18EE] (base |>.setReg 1 0x4000 |>.setReg 2 0x0 |>.setReg 3 0x1)
      (fun t => t.readWord 0x4000 == 0x1 && t.reg 3 == 0x0 && !t.cy && !t.ov && !t.sf && t.zf) = true := by
  decide +kernel

theorem test_caxi_2 :
    runs [0x17E1, 0x18EE] (base |>.setReg 1 0x4000 |>.setReg 2 0x0 |>.setReg 3 0x1 |>.writeWord 0x4000 0x5)
      (fun t => t.readWord 0x4000 == 0x5 && t.reg 3 == 0x5 && t.cy && !t.ov && t.sf && !t.zf) = true := by
  decide +kernel

theorem test_stcB_1 :
    runs [0x07E1, 0x1372] (base |>.setReg 1 0x3000 |>.setReg 2 0x55)
      (fun t => t.readByte 0x3000 == 0x0 && t.reg 2 == 0x0) = true := by
  decide +kernel

theorem test_pushsp_2 :
    runs [0x47E6, 0x2960] (base |>.setReg 3 0x2000)
      (fun t => t.reg 3 == 0x2000 && t.pc == 0x1004) = true := by
  decide +kernel

theorem test_prepareF1_2 :
    runs [0x0781, 0x0801] (base |>.setReg 3 0x1003 |>.setReg 30 0xAB |>.setReg 20 0xCD)
      (fun t => t.readWord 0xFFC == 0xCD && t.readWord 0xFF8 == 0xAB && t.reg 3 == 0xFFB) = true := by
  decide +kernel

theorem test_stmMp_1 :
    runs [0x07E6, 0x1964] (base |>.setReg 6 0x2000)
      (fun t => t.readWord 0x2000 == 0x0 && t.pc == 0x1004) = true := by
  decide +kernel

theorem test_eiret_1 :
    runs [0x07E0, 0x0148] (base |>.setPsw 0x40 |> fun u => { u with host.eipc := 0x1234 } |> fun u => { u with host.eipsw := 0x1 })
      (fun t => t.pc == 0x1234 && t.psw == 0x1) = true := by
  decide +kernel

theorem test_eiret_2 :
    runs [0x07E0, 0x0148] (base |>.setPsw 0x40000000 |> fun u => { u with host.eipc := 0x1234 } |> fun u => { u with host.eipsw := 0x1 })
      (fun t => t.pc == 0xA0) = true := by
  decide +kernel

theorem test_halt_1 :
    runs [0x07E0, 0x0120] (base |>.setPsw 0x40000000)
      (fun t => t.pc == 0xA0 && t.host.fepc == 0x1000 && t.host.feic == 0xA0) = true := by
  decide +kernel

theorem test_ldsr_2 :
    runs [0x17E2, 0x0020] (base |>.setReg 2 0x0)
      (fun t => t.pc == 0x1004) = true := by
  decide +kernel

theorem test_trap_2 :
    runs [0x07FF, 0x0100] (base)
      (fun t => t.host.eiic == 0x5F && t.pc == 0x50) = true := by
  decide +kernel

theorem test_fetrap_2 :
    runs [0x7840] (base)
      (fun t => t.host.feic == 0x3F && t.pc == 0x30) = true := by
  decide +kernel

theorem test_syscall_2 :
    runs [0xD7FF, 0x3960] (base |>.writeWord 0x83FC 0x20 |> fun u => { u with sys.scbp := 0x8000 } |> fun u => { u with sys.sccfg := 0xFF })
      (fun t => t.host.eiic == 0x80FF && t.pc == 0x8020) = true := by
  decide +kernel

theorem test_stsr_2 :
    runs [0x57FF, 0x3840] (base |>.setPsw 0x40000000)
      (fun t => t.pc == 0xA0) = true := by
  decide +kernel

theorem test_cache_2 :
    runs [0xEFEA, 0x0160] (base |>.setPsw 0x40000000)
      (fun t => t.pc == 0xA0) = true := by
  decide +kernel

theorem test_ldWF1_2 :
    runs [0x0721, 0x0001] (base |>.setReg 1 0x1002 |> atPc 0x3000)
      (fun t => t.host.fepc == 0x3000 && t.host.feic == 0xC0 && t.host.mea == 0x1002 && t.pc == 0xC0) = true := by
  decide +kernel

theorem test_stWF1_1 :
    runs [0x0761, 0x0001] (base |>.setReg 1 0x2000 |>.setPsw 0x40000000 |> fun u => { u with host.mpm := 0x1 })
      (fun t => t.host.feic == 0x20099 && t.host.mea == 0x2000 && t.pc == 0x90) = true := by
  decide +kernel

theorem test_stWF1_2 :
    runs [0x0761, 0x0001] (base |>.setReg 1 0x2000 |>.setPsw 0x0 |> fun u => { u with host.mpm := 0x3 })
      (fun t => t.host.feic == 0x100099) = true := by
  decide +kernel

theorem test_set1F1_2 :
    runs [0x07C1, 0x0000] (base |>.setReg 1 0x2000 |>.setPsw 0x40000000 |> fun u => { u with host.mpm := 0x1 })
      (fun t => t.host.feic == 0x430099) = true := by
  decide +kernel

theorem test_ldDw_1 :
    runs [0x07A1, 0x2009, 0x0000] (base |>.setReg 1 0x2004 |>.setPsw 0x40000000 |> fun u => { u with host.mpm := 0x1 })
      (fun t => t.host.feic == 0x1010099) = true := by
  decide +kernel

theorem test_ldDw_2 :
    runs [0x07A1, 0x2009, 0x0000] (base |>.setReg 1 0x2000 |>.setPsw 0x0 |>.writeByte 0x2000 0x11 |>.writeByte 0x2001 0x22 |>.writeByte 0x2002 0x33 |>.writeByte 0x2003 0x44 |>.writeByte 0x2004 0x55 |>.writeByte 0x2005 0x66 |>.writeByte 0x2006 0x77 |>.writeByte 0x2007 0x88)
      (fun t => t.reg 4 == 0x44332211 && t.reg 5 == 0x88776655) = true := by
  decide +kernel

/-! ### 95_test_vectors.md B.7 to B.10: floating point and vectors -/

theorem test_absfS_1 :
    runs [0x27E0, 0x3448] (base |>.setReg 4 0xFFC00001)
      (fun t => t.reg 6 == 0x7FC00001) = true := by
  decide +kernel

theorem test_negfD_1 :
    runs [0x27E1, 0x3458] (base |>.setRegPair 2 0x3FF0000000000000)
      (fun t => t.regPair 3 == 0xBFF0000000000000) = true := by
  decide +kernel

theorem test_addfD_1 :
    runs [0x27E2, 0x3470] (base |>.setRegPair 2 0x3FF0000000000000 |>.setRegPair 1 0x4000000000000000)
      (fun t => t.regPair 3 == 0x4008000000000000 && t.sys.fpsr.extractLsb' 10 6 == 0) = true := by
  decide +kernel

theorem test_addfS_1 :
    runs [0x17E1, 0x1C60] (base |>.setReg 2 0x3F800000 |>.setReg 1 0x33800000)
      (fun t => t.reg 3 == 0x3F800000 && t.sys.fpsr.extractLsb' 10 6 == 1 && t.sys.fpsr == 0x220401) = true := by
  decide +kernel

theorem test_subfS_1 :
    runs [0x17E1, 0x1C62] (base |>.setReg 2 0x40400000 |>.setReg 1 0x3F800000)
      (fun t => t.reg 3 == 0x40000000 && t.sys.fpsr.extractLsb' 10 6 == 0) = true := by
  decide +kernel

theorem test_mulfS_1 :
    runs [0x17E1, 0x1C64] (base |>.setReg 2 0x7F7FFFFF |>.setReg 1 0x40000000)
      (fun t => t.reg 3 == 0x7F800000 && t.sys.fpsr.extractLsb' 10 6 == 5) = true := by
  decide +kernel

theorem test_divfD_1 :
    runs [0x27E2, 0x347E] (base |>.setRegPair 2 0x3FF0000000000000 |>.setRegPair 1 0x0)
      (fun t => t.regPair 3 == 0x7FF0000000000000 && t.sys.fpsr.extractLsb' 10 6 == 8) = true := by
  decide +kernel

theorem test_divfS_1 :
    runs [0x17E1, 0x1C6E] (base |>.setReg 2 0x3F800000 |>.setReg 1 0x40400000)
      (fun t => t.reg 3 == 0x3EAAAAAB && t.sys.fpsr.extractLsb' 10 6 == 1) = true := by
  decide +kernel

theorem test_maxfS_1 :
    runs [0x17E1, 0x1C68] (base |>.setReg 2 0xC0000000 |>.setReg 1 0x3F800000)
      (fun t => t.reg 3 == 0x3F800000) = true := by
  decide +kernel

theorem test_minfD_1 :
    runs [0x27E2, 0x347A] (base |>.setRegPair 2 0xFFF0000000000000 |>.setRegPair 1 0x4014000000000000)
      (fun t => t.regPair 3 == 0xFFF0000000000000) = true := by
  decide +kernel

theorem test_sqrtfS_1 :
    runs [0x27E0, 0x344E] (base |>.setReg 4 0x40000000)
      (fun t => t.reg 6 == 0x3FB504F3 && t.sys.fpsr.extractLsb' 10 6 == 1) = true := by
  decide +kernel

theorem test_recipfS_1 :
    runs [0x27E1, 0x344E] (base |>.setReg 4 0x40000000)
      (fun t => t.sys.fpsr.extractLsb' 10 6 == 1) = true := by
  decide +kernel

theorem test_rsqrtfS_1 :
    runs [0x27E2, 0x344E] (base |>.setReg 4 0xBF800000)
      (fun t => t.reg 6 == 0x7FFFFFFF && t.sys.fpsr.extractLsb' 10 6 == 16) = true := by
  decide +kernel

theorem test_fmafS_1 :
    runs [0x17E1, 0x1CE0] (base |>.setReg 2 0x40000000 |>.setReg 1 0x40400000 |>.setReg 3 0x3F800000)
      (fun t => t.reg 3 == 0x40E00000 && t.sys.fpsr.extractLsb' 10 6 == 0) = true := by
  decide +kernel

theorem test_fnmsfS_1 :
    runs [0x17E1, 0x1CE6] (base |>.setReg 2 0x40000000 |>.setReg 1 0x40400000 |>.setReg 3 0x3F800000)
      (fun t => t.reg 3 == 0xC0A00000) = true := by
  decide +kernel

theorem test_cmpfD_1 :
    runs [0x67EE, 0x2430] (base |>.setRegPair 6 0x3FF0000000000000 |>.setRegPair 7 0x4000000000000000)
      (fun t => t.sys.fpsr == 0x1220000) = true := by
  decide +kernel

theorem test_cmovfS_1 :
    runs [0x17E1, 0x2C06] (base |>.setReg 1 0x11 |>.setReg 2 0x22 |> fun u => { u with sys.fpsr := 0x8220000 })
      (fun t => t.reg 5 == 0x11) = true := by
  decide +kernel

theorem test_trfsr_1 :
    runs [0x07E0, 0x0402] (base |> fun u => { u with sys.fpsr := 0x2220000 })
      (fun t => t.zf) = true := by
  decide +kernel

theorem test_cvtfDs_1 :
    runs [0x27E3, 0x3452] (base |>.setRegPair 2 0x3FB999999999999A)
      (fun t => t.reg 6 == 0x3DCCCCCD && t.sys.fpsr.extractLsb' 10 6 == 1) = true := by
  decide +kernel

theorem test_cvtfHs_1 :
    runs [0x27E2, 0x3442] (base |>.setReg 4 0x12343C00)
      (fun t => t.reg 6 == 0x3F800000 && t.sys.fpsr.extractLsb' 10 6 == 0) = true := by
  decide +kernel

theorem test_cvtfLd_1 :
    runs [0x27E1, 0x3452] (base |>.setRegPair 2 0x0020000000000001)
      (fun t => t.regPair 3 == 0x4340000000000000 && t.sys.fpsr.extractLsb' 10 6 == 1) = true := by
  decide +kernel

theorem test_cvtfSh_1 :
    runs [0x27E3, 0x3442] (base |>.setReg 4 0x3F800000)
      (fun t => t.reg 6 == 0x3C00) = true := by
  decide +kernel

theorem test_ceilfSuw_1 :
    runs [0x27F2, 0x3440] (base |>.setReg 4 0xBF000000)
      (fun t => t.reg 6 == 0x0 && t.sys.fpsr.extractLsb' 10 6 == 16) = true := by
  decide +kernel

theorem test_flpvS4_1 :
    runs [0x17F8, 0x1DA0] (base |>.setVreg 2 0x4080000040400000400000003F800000)
      (fun t => t.vreg 3 == 0x40800000C040000040000000BF800000) = true := by
  decide +kernel

theorem test_shflvW4_1 :
    runs [0x07A1, 0x1E9D, 0x1688] (base |>.setVreg 1 0x00000004000000030000000200000001 |>.setVreg 2 0x00000008000000070000000600000005)
      (fun t => t.vreg 3 == 0x00000004000000030000000200000001 && t.pc == 0x1006) = true := by
  decide +kernel

theorem test_ldvW_1 :
    runs [0x07AA, 0x19FD, 0x0008] (base |>.setReg 10 0x1000 |>.writeWord 0x1008 0x3F800000)
      (fun t => t.vreg 3 == 0x3F8000003F8000003F8000003F800000 && t.pc == 0x1006) = true := by
  decide +kernel

theorem test_ldvzH4_1 :
    runs [0x07AA, 0x1BDD, 0x0000] (base |>.setReg 10 0x1000 |>.writeHalf 0x1000 0x3C00 |>.writeHalf 0x1002 0x4000 |>.writeHalf 0x1004 0x4200 |>.writeHalf 0x1006 0x4400)
      (fun t => t.vreg 3 == 0x00004400000042000000400000003C00) = true := by
  decide +kernel

theorem test_stvDw_1 :
    runs [0x07AA, 0x1BBD, 0x0008] (base |>.setReg 10 0x1000 |>.setVreg 3 0x4080000040400000400000003F800000)
      (fun t => t.readWord 0x1008 == 0x40400000 && t.readWord 0x100C == 0x40800000) = true := by
  decide +kernel

theorem test_cmovfW4_1 :
    runs [0x07A1, 0x1E1D, 0x1004] (base |>.setVreg 4 0xFFFFFFFF00000000FFFFFFFF00000000 |>.setVreg 1 0x00000004000000030000000200000001 |>.setVreg 2 0x00000008000000070000000600000005)
      (fun t => t.vreg 3 == 0x00000004000000070000000200000005) = true := by
  decide +kernel

theorem test_trfsrvW4_1 :
    runs [0x7FFF, 0x25A0] (base |>.setVreg 15 0xFFFFFFFFFFFFFFFF00000000FFFFFFFF)
      (fun t => !t.zf) = true := by
  decide +kernel

theorem test_cmpfS4_1 :
    runs [0x77EC, 0x7D88] (base |>.setVreg 14 0x3F80000040A000007FC0000080000000 |>.setVreg 12 0x4000000040A000003F80000000000000)
      (fun t => t.vreg 15 == 0xFFFFFFFF000000000000000000000000 && t.sys.fxsr.extractLsb' 10 6 == 0) = true := by
  decide +kernel

theorem test_addfS4_1 :
    runs [0x17E1, 0x1DA4] (base |>.setVreg 2 0x4080000040400000400000003F800000 |>.setVreg 1 0x3F0000003F0000003F0000003F000000)
      (fun t => t.vreg 3 == 0x4090000040600000402000003FC00000) = true := by
  decide +kernel

theorem test_divfS4_1 :
    runs [0x17E1, 0x1DAE] (base |>.setVreg 2 0x40800000404000003F80000000000000 |>.setVreg 1 0x40000000400000000000000000000000)
      (fun t => t.vreg 3 == 0x400000003FC000007F8000007FFFFFFF && t.sys.fxsr.extractLsb' 10 6 == 24) = true := by
  decide +kernel

theorem test_maxfS4_1 :
    runs [0x17E1, 0x1DAA] (base |>.setVreg 2 0x3F800000C00000007FC0000040A00000 |>.setVreg 1 0x40400000C040000040E000007F800001)
      (fun t => t.vreg 3 == 0x40400000C000000040E000007FFFFFFF && t.sys.fxsr.extractLsb' 10 6 == 16) = true := by
  decide +kernel

theorem test_fmafS4_1 :
    runs [0x17E1, 0x1CC0] (base |>.setVreg 2 0x40000000400000004000000040000000 |>.setVreg 1 0x40400000404000004040000040400000 |>.setVreg 3 0x3F80000000000000C0C000007F800000)
      (fun t => t.vreg 3 == 0x40E0000040C00000000000007F800000) = true := by
  decide +kernel

theorem test_cvtfSh4_1 :
    runs [0x17ED, 0x1DA0] (base |>.setVreg 2 0x3F8000003EAAAAAB477FF000FF800000)
      (fun t => t.vreg 3 == 0x00003C000000355500007C000000FC00 && t.sys.fxxc == 66816) = true := by
  decide +kernel

theorem test_floorfSul_1 :
    runs [0x27F3, 0x3444] (base |>.setReg 4 0x40200000)
      (fun t => t.regPair 3 == 0x0000000000000002 && t.sys.fpsr.extractLsb' 10 6 == 1) = true := by
  decide +kernel

theorem test_trncfDw_1 :
    runs [0x27E1, 0x3450] (base |>.setRegPair 2 0x4004000000000000)
      (fun t => t.reg 6 == 0x00000002 && t.sys.fpsr.extractLsb' 10 6 == 1) = true := by
  decide +kernel

theorem test_addsubfS4_1 :
    runs [0x17E1, 0x1DD0] (base |>.setVreg 2 0x4080000040400000400000003F800000 |>.setVreg 1 0x3F0000003E8000004100000041800000)
      (fun t => t.vreg 3 == 0x409000004030000041200000C1700000 && t.sys.fxsr.extractLsb' 10 6 == 0) = true := by
  decide +kernel

theorem test_addsubnxfS4_1 :
    runs [0x17E1, 0x1DDC] (base |>.setVreg 2 0x4080000040400000400000003F800000 |>.setVreg 1 0x3F0000003E8000004100000041800000)
      (fun t => t.vreg 3 == 0xC0880000C0200000C190000040E00000 && t.sys.fxsr.extractLsb' 10 6 == 0) = true := by
  decide +kernel

theorem test_mulrfS4_1 :
    runs [0x17E1, 0x1DB8] (base |>.setVreg 2 0x4080000040400000400000003F800000 |>.setVreg 1 0x3F0000003E8000004100000041800000)
      (fun t => t.vreg 3 == 0x414000003E0000004000000043000000 && t.sys.fxsr.extractLsb' 10 6 == 0) = true := by
  decide +kernel

theorem test_maxrfS4_1 :
    runs [0x17E1, 0x1DBA] (base |>.setVreg 2 0x4080000040400000400000003F800000 |>.setVreg 1 0x3F0000003E8000004100000041800000)
      (fun t => t.vreg 3 == 0x408000003F0000004000000041800000 && t.sys.fxsr.extractLsb' 10 6 == 0) = true := by
  decide +kernel
/-! ### 60_exceptions.md: interrupts and fetch, one step each -/

/-- A core that an EIINT of channel 25H is presented to, interrupts enabled. -/
def interrupted (q : EiRequest) : State := { base with env := { Env.none with ei := some q } }

theorem test_step_eiint :
    steps (interrupted ⟨0x25, 3, false, false, none, false⟩)
      (fun t => t.pc == 0x130 && t.host.eipc == 0x1000 && t.host.eiic == 0x1025 && t.sys.ispr == 8) = true := by
  decide +kernel

theorem test_step_eiint_table :
    steps ({ interrupted ⟨0x25, 3, true, true, none, false⟩ with mem := [(0x2095, 0x55)] } |> fun u => { u with host.intbp := 0x2000 })
      (fun t => t.pc == 0x5500) = true := by
  decide +kernel

theorem test_step_fenmi :
    steps { base with env := { Env.none with fenmi := true } } (fun t => t.pc == 0xE0 && t.host.feic == 0xE0) = true := by
  decide +kernel

theorem test_step_feint :
    steps { base with env := { Env.none with fe := some ⟨2, none, false⟩ } }
      (fun t => t.pc == 0xF0 && t.host.fepc == 0x1000 && t.host.feic == 0xF2) = true := by
  decide +kernel

theorem test_step_runs_the_word_at_pc :
    steps ((base |>.setReg 1 5 |>.setReg 2 7).withFetchWord 16 0x11C1) (fun t => t.reg 2 == 12 && t.pc == 0x1002) = true := by
  decide +kernel

/-! ## Witnesses: states and operands that meet the hypotheses of the statements, at the boundaries of their clauses -/

/-- User mode at 1000H. -/
def user : State := base.setPsw 0x40030000

/-- A core with virtualization enabled, in host mode with supervisor privilege. -/
def hostMode : State := { base with sys := { base.sys with hvcfg := 1 } }

/-- The same core in guest mode, partition 1. -/
def guestMode : State := { base with sys := { base.sys with hvcfg := 1, pswh := 0x80000100 } }

/-- Both coprocessors unusable. -/
def unusable : State := base.setPsw 0x20

/-- A core that is not a G4MH2. -/
def olderCore : State := { base with prod := { Product.default with pid := 0x06000000 } }

theorem base_memWf : base.memWf := ⟨List.Pairwise.nil, fun _ h => absurd h (List.not_mem_nil)⟩

theorem witness_ProductsAndDivisionsFillTheirRegisters : (2 : Reg) ≠ 3 ∧ (0 : Reg) ≠ 1 ∧ RegPair.even 3 ≠ RegPair.odd 3 := by decide

theorem witness_ConditionCodesReadTheFlags : (0 : BitVec 4) ≠ 5 ∧ (0 : BitVec 4) ≠ 13 ∧ (15 : BitVec 4) ≠ 5 ∧ (15 : BitVec 4) ≠ 13 := by
  decide

theorem witness_BitFieldsAndShiftsMoveBits :
    16 + (0 : BitVec 4).toNat ≤ 16 + (0 : BitVec 4).toNat ∧ (15 : BitVec 4).toNat ≤ 16 + (0 : BitVec 4).toNat ∧
      (0 : BitVec 4).toNat ≤ (0 : BitVec 4).toNat ∧ (0 : BitVec 4).toNat < (1 : BitVec 4).toNat ∧
      16 + (14 : BitVec 4).toNat < 16 + (15 : BitVec 4).toNat := by
  decide

theorem witness_SwapsAndSearchesFollowTheBits :
    (∀ j, j < 31 → ¬ ((base.setReg 2 0xFFFFFFFE).reg 2).getLsbD (31 - j) = false) ∧
      ((base.setReg 2 0xFFFFFFFE).reg 2).getLsbD (31 - 31) = false ∧
      (∀ k, k < 32 → ¬ ((base.setReg 2 0xFFFFFFFF).reg 2).getLsbD k = false) ∧
      (∀ j, j < 31 → ¬ ((base.setReg 2 0x80000000).reg 2).getLsbD j = true) ∧
      ((base.setReg 2 0x80000000).reg 2).getLsbD 31 = true ∧ (∀ k, k < 32 → ¬ (base.reg 2).getLsbD (31 - k) = true) := by
  decide +kernel

theorem witness_BitInstructionsChangeOneBit :
    base.memWf ∧ base.MayAccess (base.reg 1 + (0xFFFF : BitVec 16).signExtend 32) 1 [.read, .write] ∧
      base.MayAccess (base.reg 1) 1 [.read, .write] ∧ base.MayAccess (base.reg 1) 1 [.read] :=
  ⟨base_memWf, ⟨by decide +kernel, by decide +kernel, by decide +kernel⟩, ⟨by decide +kernel, by decide +kernel, by decide +kernel⟩,
    ⟨by decide +kernel, by decide +kernel, by decide +kernel⟩⟩

theorem witness_LoadsReachTheirRegister :
    base.MayAccess (base.reg 1 + sextW (0xFFFF : BitVec 16)) 1 [.read] ∧
      base.MayAccess (base.reg 1 + sextW (dispLow (0x7FFF : BitVec 15) 1)) 2 [.read] ∧
      base.MayAccess (base.reg 1 + sextW (dispLow (0x3FFFFE : BitVec 22) 1)) 4 [.read] ∧
      base.MayAccess (base.reg ep + zextW (dispLow (0x3F : BitVec 6) 2)) 4 [.read] :=
  ⟨⟨by decide +kernel, by decide +kernel, by decide +kernel⟩, ⟨by decide +kernel, by decide +kernel, by decide +kernel⟩,
    ⟨by decide +kernel, by decide +kernel, by decide +kernel⟩, ⟨by decide +kernel, by decide +kernel, by decide +kernel⟩⟩

theorem witness_StoresChangeOnlyTheirBytes :
    base.memWf ∧ base.MayAccess (base.reg 1 + sextW (0xFFFF : BitVec 16)) 1 [.write] ∧
      base.MayAccess (base.reg 1 + sextW (dispLow (0x3FFFFE : BitVec 22) 1)) 4 [.write] ∧
      base.MayAccess (base.reg ep + zextW (dispLow (0x7F : BitVec 7) 1)) 2 [.write] :=
  ⟨base_memWf, ⟨by decide +kernel, by decide +kernel, by decide +kernel⟩, ⟨by decide +kernel, by decide +kernel, by decide +kernel⟩,
    ⟨by decide +kernel, by decide +kernel, by decide +kernel⟩⟩

theorem witness_SteppingAndDoubleWordAccesses :
    (base.setReg 1 0xFFFFFFFC).memWf ∧ (base.setReg 1 0xFFFFFFFC).MayAccess ((base.setReg 1 0xFFFFFFFC).reg 1) 4 [.read] ∧
      (base.setReg 1 0xFFFFFFFC).MayAccess ((base.setReg 1 0xFFFFFFFC).reg 1) 4 [.write] ∧ (1 : Reg) ≠ 2 :=
  ⟨base_memWf, ⟨by decide +kernel, by decide +kernel, by decide +kernel⟩, ⟨by decide +kernel, by decide +kernel, by decide +kernel⟩,
    by decide⟩

theorem witness_SteppingAndDoubleWordAccesses_pairs :
    base.memWf ∧ (2 : Reg) = 3 &&& 0x1E ∧ (3 : Reg) = 3 ||| 1 ∧
      base.MayAccess (base.reg 1 + sextW (dispLow (0x3FFFFE : BitVec 22) 1)) 8 [.read] ∧
      base.MayAccess (base.reg 1 + sextW (dispLow (0x3FFFFE : BitVec 22) 1)) 8 [.write] :=
  ⟨base_memWf, by decide, by decide, ⟨by decide +kernel, by decide +kernel, by decide +kernel⟩,
    ⟨by decide +kernel, by decide +kernel, by decide +kernel⟩⟩

theorem witness_StoppedAccessesRaiseMaeOrMdp :
    (base.reg 1 + sextW (dispLow (1 : BitVec 15) 1)).toNat % 4 ≠ 0 ∧ ((base.setReg 1 0xFFFFFFFF).reg 1).toNat % 2 ≠ 0 ∧
      (base.psw.getLsbD 17 = true ∧ ((base.setReg 1 8).reg 1 + sextW (dispLow (0 : BitVec 12) 4)).toNat % 16 ≠ 0) ∧
      { user with host := { user.host with mpm := 1 } }.mpuViolation .host 0 0 [.read] true = some .host ∧
      { base with host := { base.host with mpm := 3 } }.mpuViolation .host 0xFFFFFFFC 0x100000003 [.read, .write] false = some .host ∧
      { guestMode with guest := { guestMode.guest with mpm := 3 } }.mpuViolation .guest 0xFFFFFFFF 0xFFFFFFFF [.write] false =
        some .guest ∧
      { guestMode with guest := { guestMode.guest with mpm := 4 } }.mpuViolation .guest 0 0 [.read] false = some .host ∧
      base.hve = false ∧ base.um = false ∧ (hostMode.hve = true ∧ hostMode.mode = .host ∧ hostMode.um = false) := by
  decide +kernel

/-- A core with a device at 4000H to 4003H and a reserved address FFFFFFFFH. -/
def mapped : State :=
  { base with prod := { base.prod with memmap := [⟨0x4000, 0x4003, .device⟩, ⟨0xFFFFFFFF, 0xFFFFFFFF, .reserved⟩] } }

/-- SPID 3 in the host context, 5 in the guest context. -/
def withSpids (s : State) : State := { s with host := { s.host with spid := 3 }, guest := { s.guest with spid := 5 } }

theorem witness_ProtectionNeedsAMatchingEntry :
    (base.prod.mpuMatch = .stated ∧ base.hve = false ∧ hostMode.hve = true ∧
      { base with host := { base.host with mpm := 3 } }.host.mpe = true ∧ { base with host := { base.host with mpm := 3 } }.host.svp = true) ∧
      base.Unprotected ∧ misaligned 0xFFFFFFFC 8 = false ∧ misaligned 0xFFFFFFFF 1 = false :=
  ⟨by decide +kernel, ⟨by decide +kernel, by decide +kernel, by decide +kernel, rfl⟩, by decide, by decide⟩

/-- 20_memory.md R202, R204: a load from a device is reported to the environment with the SPID, of partition 1 in guest mode with the
SPID of the guest and the GPID; R201, R204, 60_exceptions.md R815: an access that runs into a reserved address raises SYSERR. -/
theorem test_ldW_device :
    runs [0x1727, 0x0001] (mapped.setReg 7 0x4000 |> withSpids)
        (fun t => t.out == [.deviceRead ⟨3, none⟩ 0x4000 4] && t.reg 2 == 0) = true ∧
      runs [0x1727, 0x0001] ({ mapped with sys := guestMode.sys }.setReg 7 0x4000 |> withSpids)
        (fun t => t.out == [.deviceRead ⟨5, some 1⟩ 0x4000 4]) = true ∧
      runs [0x1727, 0x0001] (mapped.setReg 7 0xFFFFFFFC)
        (fun t => t.pc == 0x10 && t.host.feic == 0x10 && t.host.fepc == 0x1000 && t.reg 2 == 0) = true := by
  decide +kernel

/-- 20_memory.md R215, 43_special_stack_atomic.md R518 (d): what another master wrote since the last step stands in memory, and ends a
link that it touches. -/
theorem test_step_other_master :
    steps { base with link := ⟨true, 0x2000, 4⟩, env := { Env.none with writes := [(0x2003, 0x55), (0x2003, 0x66)] } }
      (fun t => t.readByte 0x2003 == 0x66 && !t.link.bit && t.env == Env.none) = true := by
  decide +kernel

/-- 60_exceptions.md R815: a SYSERR that the bus system reports. -/
theorem test_step_syserr :
    steps { base with env := { Env.none with syserr := some ⟨4, true, false⟩ } }
      (fun t => t.pc == 0x10 && t.host.feic == 0x14 && t.host.fepc == 0x1000) = true := by
  decide +kernel

/-- 70_reset_and_hazards.md R944: a terminating SYSERR that is presented in guest mode behind FENMI is held through the transition to host
mode, and does not occur there. -/
theorem test_step_guest_syserr_waits :
    steps { guestMode with env := { Env.none with fenmi := true, syserr := some ⟨0, false, false⟩ } }
      (fun t => t.pc == 0xE0 && t.mode == .host && t.env.syserr == some ⟨0, false, true⟩ && t.pick == none) = true := by
  decide +kernel

/-- 60_exceptions.md R815: the bus reports an error for the fetch. -/
theorem test_step_fetch_error :
    steps { base with env := { Env.none with fetchError := some .bus } }
      (fun t => t.pc == 0x10 && t.host.feic == 0x11 && t.host.fepc == 0x1000) = true := by
  decide +kernel

/-- 20_memory.md R204, 60_exceptions.md R806, R815: a fetch from a reserved address; a PUSHSP whose second word (r6, at FFFFFFFCH) is
reserved has stored the first (r5, at 0) and keeps sp. -/
theorem test_reserved :
    steps (atPc 0xFFFFFFFE mapped) (fun t => t.pc == 0x10 && t.host.feic == 0x11 && t.host.fepc == 0xFFFFFFFE) = true ∧
      runs [0x47E5, 0x3160] (mapped |>.setReg 3 4 |>.setReg 5 0x55 |>.setReg 6 0x66)
        (fun t => t.pc == 0x10 && t.host.feic == 0x10 && t.reg 3 == 4 && t.readWord 0 == 0x55 && t.readWord 0xFFFFFFFC == 0) = true := by
  decide +kernel

/-- 20_memory.md R204: a store to a device is performed, and reported with its bytes. -/
theorem test_stW_device :
    runs [0x1767, 0x0001] (mapped.setReg 7 0x4000 |>.setReg 2 0x44332211)
      (fun t => t.out == [.deviceWrite ⟨0, none⟩ 0x4000 [0x11, 0x22, 0x33, 0x44]] && t.readWord 0x4000 == 0x44332211) = true := by
  decide +kernel

theorem witness_DeviceAccessesAreReported :
    (misaligned 0x4000 4 = false ∧ mapped.mpuViolation mapped.mode 0x4000 0x4003 [.write] mapped.um = none) ∧
      mapped.Reaches .device (0x4000, 4, [.write]) ∧ ¬ mapped.Reaches .device (0x4004, 4, [.write]) ∧
      mapped.Reaches .reserved (0xFFFFFFFC, 4, [.read]) ∧ ¬ mapped.Reaches .reserved (0x4000, 4, [.read]) ∧
      (mapped.psw.getLsbD 17 = true ∧ mapped.host.mpe = false ∧ mapped.guest.mpe = false ∧ mapped.guest.gmpe = false ∧
        mapped.um = false ∧ mapped.isMh2 = true) := by
  refine ⟨by decide +kernel, ⟨_, .head _, rfl, 0x4003, by unfold storedBytes; decide, by decide, by decide⟩, ?_,
    ⟨_, .tail _ (.head _), rfl, 0xFFFFFFFF, by unfold storedBytes; decide, by decide, by decide⟩, ?_, by decide +kernel⟩
  · rintro ⟨g, hg, hk, b, hb, h1, h2⟩
    unfold storedBytes at hb
    simp only [mapped, List.mem_cons, List.not_mem_nil, or_false] at hg
    rcases hg with rfl | rfl
    · dsimp only at h1 h2 hb; bv_omega
    · cases hk
  · rintro ⟨g, hg, hk, b, hb, h1, h2⟩
    unfold storedBytes at hb
    simp only [mapped, List.mem_cons, List.not_mem_nil, or_false] at hg
    rcases hg with rfl | rfl
    · cases hk
    · dsimp only at h1 h2 hb; bv_omega

theorem witness_BranchesReachTheirTargets :
    base.Permits (base.sys.ctbp + zextW (dispLow (63 : BitVec 6) 1)) 2 [.read] base.um ∧
      (base.setReg 1 0xFFFFF7FF).Permits (base.pc + 2 + ((base.setReg 1 0xFFFFF7FF).reg 1 <<< 1)) 2 [.read] base.um :=
  ⟨⟨by decide +kernel, by decide +kernel⟩, ⟨by decide +kernel, by decide +kernel⟩⟩

/-- The block of words at an address is permitted, as a check. -/
def blockFree (s : State) (a : Word) (n : Nat) (k : AccessKind) : Bool :=
  (List.range n).all fun j => s.mpuViolation s.mode (blockAddress a j).toNat ((blockAddress a j).toNat + 4 - 1) [k] s.um == none

theorem permitsBlock_of_free {s : State} {a : Word} {n : Nat} {k : AccessKind} (h : blockFree s a n k = true)
    (m : s.prod.memmap = []) : s.PermitsBlock a n k := by
  intro j hj
  unfold blockFree at h
  rw [List.all_eq_true] at h
  exact ⟨by simpa using h j (by simpa using hj), by simp [State.Ordinary, m]⟩

theorem witness_FramePushesStoreAndMoveSp :
    base.memWf ∧ base.PermitsBlock (base.reg sp - BitVec.ofNat 32 (4 * (list12Regs 0xFFF).length)) (list12Regs 0xFFF).length .write ∧
      base.PermitsBlock (base.reg sp - BitVec.ofNat 32 (4 * (regRange 1 31).length)) (regRange 1 31).length .write ∧
      base.PermitsBlock (base.reg sp) (list12Regs 0).length .write :=
  ⟨base_memWf, permitsBlock_of_free (by decide +kernel) rfl, permitsBlock_of_free (by decide +kernel) rfl,
    permitsBlock_of_free (by decide +kernel) rfl⟩

theorem witness_FramePopsLoadAndMoveSp :
    base.PermitsBlock (base.reg sp + ((31 : BitVec 5).setWidth 32 <<< 2)) (list12Regs 0xFFF).length .read ∧
      base.PermitsBlock (base.reg sp) (regRange 1 31).length .read ∧ (1 : Reg) ≠ sp :=
  ⟨permitsBlock_of_free (by decide +kernel) rfl, permitsBlock_of_free (by decide +kernel) rfl, by decide⟩

theorem witness_AtomicAccessesExchangeAndLink_exchange :
    base.memWf ∧ (base.setReg 1 0xFFFFFFFC).MayAccess ((base.setReg 1 0xFFFFFFFC).reg 1) 4 [.read, .write] :=
  ⟨base_memWf, by decide +kernel, by decide +kernel, by decide +kernel⟩

theorem witness_AtomicAccessesExchangeAndLink_link :
    base.memWf ∧ base.MayAccess (base.reg 1) 1 [.read] ∧ base.MayAccess (base.reg 1) 2 [.write] ∧
      { base with link := ⟨true, 0, 4⟩ }.MayAccess (base.reg 1) 4 [.write] ∧
      { base with link := ⟨true, 0, 4⟩ }.link = ⟨true, base.reg 1, Size.bytes .word⟩ ∧ ¬ base.link = ⟨true, base.reg 1, 4⟩ :=
  ⟨base_memWf, ⟨by decide +kernel, by decide +kernel, by decide +kernel⟩, ⟨by decide +kernel, by decide +kernel, by decide +kernel⟩,
    ⟨by decide +kernel, by decide +kernel, by decide +kernel⟩, by decide +kernel, by decide +kernel⟩

theorem witness_SyncAndCacheAreTransparent :
    base.hve = false ∧ base.um = false ∧ (hostMode.hve = true ∧ hostMode.mode = .host ∧ hostMode.um = false) ∧
      base.mpuViolation base.mode (base.reg 1).toNat (base.reg 1).toNat [.read] base.um = none ∧
      (1 : BitVec 7) ∉ [(0x00 : BitVec 7), 0x20, 0x40, 0x60, 0x61, 0x7E] := by
  decide +kernel

theorem witness_ExceptionsSaveAndSoftwareExceptionsReturn :
    hostMode.hve = true ∧ hostMode.um = false ∧ base.hve = false ∧ base.Permits (base.sys.scbp + BitVec.ofNat 32 (4 * 0)) 4 [.read] false :=
  ⟨by decide +kernel, by decide +kernel, by decide +kernel, by decide +kernel, by decide +kernel⟩

theorem witness_ReturnsRestoreTheSavedContext : base.um = false ∧ guestMode.um = false ∧ hostMode.um = false := by
  decide +kernel

theorem witness_InterruptEnableAndStandby :
    base.um = false ∧ ({ user with sys := { user.sys with mctl := 1 } }.um = true ∧
      { user with sys := { user.sys with mctl := 1 } }.sys.mctl.getLsbD 0 = true) := by
  decide +kernel

theorem witness_InterruptEnableAndStandby_release :
    ({ base with halt := .halted }.halt = .halted ∧ { base with halt := .halted }.begin.env.reset = false ∧
      { base with halt := .halted }.begin.releases = false) ∧
      { interrupted ⟨0, 63, false, false, none, false⟩ with halt := .halted }.begin.releases = true ∧
      { base with halt := .halted, env := { Env.none with syserr := some ⟨0, false, false⟩ } }.begin.releases = true ∧
      { hostMode with halt := .halted, env := { Env.none with syserr := some ⟨0, false, true⟩ } }.begin.releases = false ∧
      { guestMode with env := { Env.none with ei := some ⟨0, 63, false, false, some 1, false⟩ } }.begin.releases = true ∧
      { guestMode with env := { Env.none with ei := some ⟨0, 63, false, false, some 2, false⟩ } }.begin.releases = false ∧
      { guestMode with env := { Env.none with fe := some ⟨0, some 2, true⟩ } }.begin.releases = true ∧
      { hostMode with env := { Env.none with fe := some ⟨0, some 0, true⟩ } }.begin.releases = false ∧
      { base with halt := .snoozing 1 }.begin.releases = false ∧ { base with halt := .snoozing 0 }.begin.env.reset = false ∧
      { interrupted ⟨0, 63, false, false, none, false⟩ with halt := .snoozing 1 }.begin.releases = true := by
  decide +kernel

theorem witness_PrivilegedInstructionsTrapWithoutPrivilege :
    user.um = true ∧ user.sys.mctl.getLsbD 0 = false ∧ user.isMh2 = true ∧
      ({ user with sys := { user.sys with hvcfg := 1 } }.um = true ∧ { user with sys := { user.sys with hvcfg := 1 } }.hve = true) ∧
      sregOf user.prod 0 7 = none ∧ sregOf user.prod 0 0 = some (.orig .eipc) ∧ sregOf user.prod 22 5 = some .mpat ∧
      (guestMode.hve = true ∧ guestMode.mode = .guest ∧ guestMode.um = false) := by
  decide +kernel

/-- A number of each clause: an undefined one, one that exists only with HVE = 1, one of a coprocessor that may not be used, an HV register
in host mode and in guest supervisor mode, a performance counter in guest mode, and the limits of the numbered groups. -/
theorem witness_RegisterNumbersAndAuthorities :
    (user.um = true ∧ sregOf user.prod 0 7 = none ∧ base.um = false ∧ SReg.classB .gmcfg ∧ base.hve = false) ∧
      (SReg.OfCoprocessor .fpsr 0 ∧ unusable.psw.getLsbD 16 = false ∧ SReg.OfCoprocessor .fxxp 1 ∧ unusable.psw.getLsbD 17 = false) ∧
      (SReg.Exists .mpbk hostMode.hve ∧ hostMode.MayReach .mpbk true ∧ ¬ guestMode.MayReach .mpbk true ∧
        guestMode.MayReach .mpcfg false ∧ ¬ guestMode.MayReach (.pmctrl 7) false) ∧
      (Numbered base.prod 31 5 (.mpid 7) ∧ Numbered base.prod 23 14 (.pmcount 7) ∧ Numbered base.prod 24 13 .rdbcr ∧
        base.prod.rdbcrRegid = 24) := by
  refine ⟨⟨by decide +kernel, by decide +kernel, by decide +kernel, .inr (by decide), by decide +kernel⟩,
    ⟨.inl ⟨rfl, by decide⟩, by decide +kernel, .inr ⟨rfl, by decide⟩, by decide +kernel⟩, ⟨⟨fun _ => by decide +kernel, nofun⟩,
      .inr (.inr ⟨by decide +kernel, fun _ => by decide +kernel⟩), ?_, ?_, ?_⟩,
    ⟨.inr (.inl ⟨7, .inl ⟨rfl, rfl, rfl⟩⟩), .inr (.inl ⟨7, .inr (.inr (.inl ⟨rfl, rfl, rfl⟩))⟩),
      .inr (.inr ⟨rfl, by decide +kernel, by decide, rfl⟩), by decide +kernel⟩⟩
  · rintro (h | ⟨h, _⟩ | ⟨_, h⟩)
    · exact absurd h (by decide)
    · cases h
    · exact absurd (h ⟨by decide +kernel, .inl (by decide)⟩) (by decide +kernel)
  · refine .inr (.inr ⟨by decide +kernel, ?_⟩)
    rintro ⟨_, h | ⟨_, h⟩ | ⟨h, _⟩⟩
    · exact absurd h (by decide)
    · cases h
    · cases h
  · rintro ⟨h, _⟩
    exact absurd (h (by decide +kernel)) (by decide +kernel)

/-- 11_sysregs.md R70: an HV register in guest supervisor mode gives PIE; a register of the FPU with CU0 = 0 gives UCPOP. -/
theorem test_ldsr_privilege :
    runs [0x8FE2, 0x2820] guestMode (fun t => t.guest.feic == 0xA0 && t.mode == .guest && t.mpu == guestMode.mpu) = true ∧
      runs [0x57E6, 0x0040] unusable (fun t => t.pc == 0x80 && t.host.feic == 0x80) = true := by
  decide +kernel

theorem witness_SystemRegisterAccessesComplete :
    base.srAccess 0 0 false = .reg (.orig .eipc) ∧ base.srAccess 0 7 false = .undefined ∧
      user.srAccess 16 0 true = .reg .ctpc ∧ base.srAccess 15 0 true = .undefined ∧ user.um = true ∧ base.um = false := by
  decide +kernel

theorem witness_LdsrReachesOneRegister :
    (SReg.orig .eipc, (0xFFFFFFFF : Word)) ∈ plainRegisters ∧ base.srAccess 0 0 true = .reg (.orig .eipc) ∧
      (SReg.pmgmctrl, (0xFF : Word)) ∈ plainRegisters ∧ hostMode.srAccess 9 11 true = .reg .pmgmctrl ∧
      guestMode.srAccess 0 0 true = .reg (.orig .eipc) ∧ hostMode.mode = .host ∧ guestMode.mode = .guest := by
  decide +kernel

/-- Some LDSR reaches the register at the state. -/
def reaches (s : State) (r : SReg) : Bool :=
  (List.range 32).any fun reg => (List.range 32).any fun sel => s.srAccess (.ofNat 5 reg) (.ofNat 5 sel) true == .reg r

theorem witness_LdsrKeepsGuardsAndLayouts :
    ([SReg.orig .spid, .orig .svlock, .orig .mpm, .orig .intcfg, .hvcfg, .ispr, .mpcfg, .mpidx, .mpbk, .mpla, .mpua, .mpat, .mcc, .mcr,
        .fpsr, .fpst, .fpcfg, .fpcc, .fxsr, .fxst, .fxcfg, .tscountl, .ictagl, .imsr, .lscfg, .l1rcfg, .rdbcr].all (reaches base)) = true ∧
      ([SReg.gm .eipc, .gm .mpm, .gm .eipsw, .gm .spidlist, .gm .spid, .gm .psw, .gm .intcfg, .gmcfg, .pswh, .mpid 0, .mpid 7, .pmctrl 0,
        .pmsubcnd 7].all (reaches hostMode)) = true ∧
      ([SReg.orig .intcfg, .orig .mpm, .mpat].all (reaches guestMode)) = true ∧
      guestMode.FirstHostEntry ≤ 0 ∧ base.prod.mpuMatch = .stated ∧ (SReg.gm .mpm, (7 : Word)) ∈ guestCopies := by
  decide +kernel

/-- A transfer of loads is permitted, as a check: the MPU is off in every state that it passes. -/
theorem permitsTransfer_of_free {s : State} {n : Nat} {place : Nat → Word} {k : AccessKind} {f : Nat → State → State}
    (h : (List.range n).all (fun j => (after s f j).mpuViolation (after s f j).mode (place j).toNat ((place j).toNat + 3) [k] s.um == none)
      = true)
    (m : ∀ j, (after s f j).prod.memmap = []) : s.PermitsTransfer n place k f := by
  intro j hj
  rw [List.all_eq_true] at h
  exact ⟨by simpa using h j (by simpa using hj), by simp [State.Ordinary, m j]⟩

theorem after_writeEntry_prod (s : State) (e : Nat → Nat) (r : Nat → EntryReg) (v : Nat → Word) (j : Nat) :
    (after s (fun k t => t.writeEntry (e k) (r k) (v k)) j).prod = s.prod := by
  induction j with
  | zero => rfl
  | succ n ih =>
    have step : ∀ (t : State) a b c, (t.writeEntry a b c).prod = t.prod := by
      intro t a b c; unfold State.writeEntry; repeat' split
      all_goals rfl
    simpa [after, List.range_succ, step] using ih

theorem witness_MpuEntriesMoveInBlocks :
    base.memWf ∧ base.isMh2 = true ∧ base.um = false ∧
      base.PermitsTransfer (3 * ((31 : BitVec 5).toNat + 1 - (30 : BitVec 5).toNat)) (blockAddress (base.reg 1)) .read
        (fun k t => t.writeEntry (30 + k / 3) .mpla (base.readWord (blockAddress (base.reg 1) k))) ∧
      base.PermitsBlock (base.reg 1) (3 * ((31 : BitVec 5).toNat + 1 - (0 : BitVec 5).toNat)) .write ∧
      base.PermitsBlock (base.reg 1) (3 * ((0 : BitVec 5).toNat + 1 - (1 : BitVec 5).toNat)) .write ∧
      olderCore.isMh2 = false ∧ base.hve = false ∧ (base.cur.svlock.getLsbD 0 = false ∧ base.mode = .host) ∧
      (guestMode.mode = .guest ∧ guestMode.FirstHostEntry ≤ 0) :=
  ⟨base_memWf, by decide +kernel, by decide +kernel,
    permitsTransfer_of_free (by decide +kernel) (fun j => by rw [after_writeEntry_prod]; rfl),
    permitsBlock_of_free (by decide +kernel) rfl, permitsBlock_of_free (by decide +kernel) rfl, by decide +kernel, by decide +kernel,
    by decide +kernel, by decide +kernel⟩

theorem witness_GuestRegistersMoveInBlocks :
    hostMode.memWf ∧ hostMode.hve = true ∧ hostMode.mode = .host ∧ hostMode.um = false ∧
      hostMode.PermitsBlock (hostMode.reg 1) 36 .write ∧ hostMode.PermitsBlock (hostMode.reg 1) 36 .read ∧
      (1, SReg.fpsr) ∈ guestBlock ∧ (36, SReg.gm .fewr) ∈ guestBlock ∧ (22, SReg.gm .psw) ∈ guestBlock ∧
      (∀ k, (k, SReg.mpcfg) ∉ guestBlock) :=
  ⟨base_memWf, by decide +kernel, by decide +kernel, by decide +kernel, permitsBlock_of_free (by decide +kernel) rfl,
    permitsBlock_of_free (by decide +kernel) rfl, by decide, by decide, by decide, fun k h =>
      absurd (show SReg.mpcfg ∈ guestBlock.map Prod.snd from List.mem_map_of_mem (f := Prod.snd) h) (by decide)⟩

/-- 61_virtualization.md R900: the table has the numbers 1 to 36, and its registers have the numbers that it prints with them. -/
theorem test_guestBlock :
    guestBlock.map Prod.fst = List.range' 1 36 ∧
      guestBlock.map (fun x => some x.2) =
        ([(6, 0), (7, 0), (16, 0), (17, 0), (20, 0), (5, 1), (11, 1), (12, 1), (15, 2), (16, 2), (17, 2), (18, 2), (8, 5), (9, 5), (11, 5),
          (12, 5), (16, 5), (0, 9), (1, 9), (2, 9), (3, 9), (5, 9), (6, 9), (8, 9), (13, 9), (14, 9), (16, 9), (17, 9), (19, 9), (20, 9),
          (21, 9), (22, 9), (24, 9), (25, 9), (28, 9), (29, 9)] : List (Nat × Nat)).map fun x =>
            sregOf Product.default (.ofNat 5 x.1) (.ofNat 5 x.2) := by
  decide +kernel

/-- One bank in use, at 8000H. -/
def banked (big : Word) : State := { base with sys := { base.sys with rbnr := 1, rbip := 0x8000, rbcr0 := big } }

theorem witness_ResbankRestoresTheBank :
    (banked 0).um = false ∧ (banked 0).sys.rbnr.toNat % 64 ≠ 0 ∧
      (banked 0).PermitsBlock ((banked 0).sys.rbip - BitVec.ofNat 32 0x60 + 0) 24 .read ∧
      (banked 0x10000).PermitsBlock ((banked 0x10000).sys.rbip - BitVec.ofNat 32 0x90 + 4) 35 .read ∧
      base.um = false ∧ base.sys.rbnr.toNat % 64 = 0 :=
  ⟨by decide +kernel, by decide +kernel, permitsBlock_of_free (by decide +kernel) rfl, permitsBlock_of_free (by decide +kernel) rfl,
    by decide +kernel, by decide +kernel⟩

/-- The MPU on in supervisor mode, with one entry that holds the word at 2000H. -/
def oneWord : State :=
  { base.setReg 1 0x2000 with
    host := { base.host with mpm := 3 }
    mpu := { base.mpu with bank0 := base.mpu.bank0.set 0 ⟨0x2000, 0x2000, 0xC0BF⟩ } }

/-- 60_exceptions.md R806: RESBANK with a denied FPSR word keeps sp (its word is at 7FE4H), and has loaded r4 (7FE0H); with all words
permitted it loads both. -/
theorem test_resbank_keeps_sp :
    let s := ((banked 0).setReg 3 0x55 |>.writeWord 0x7FE4 0x66 |>.writeWord 0x7FE0 0x77)
    runs [0x07E0, 0x8160]
        { s with
          host := { s.host with mpm := 3 }
          mpu := { s.mpu with bank0 := s.mpu.bank0.set 0 ⟨0x7F00, 0x7FEC, 0xC0BF⟩ } }
        (fun t => t.pc == 0x90 && t.reg 3 == 0x55 && t.reg 4 == 0x77 && t.sys.rbnr == 1) = true ∧
      runs [0x07E0, 0x8160] s (fun t => t.pc == 0x1004 && t.reg 3 == 0x66 && t.reg 4 == 0x77 && t.sys.rbnr == 0) = true := by
  decide +kernel

theorem witness_DeniedWordsStopTransfers :
    (oneWord.um = false ∧ oneWord.isMh2 = true) ∧
      (after oneWord (fun k t => t.writeWord (blockAddress (oneWord.reg 1) k) 0) 0).mpuViolation oneWord.mode 0x2000 0x2003 [.write]
        oneWord.um = none ∧
      (after oneWord (fun k t => t.writeWord (blockAddress (oneWord.reg 1) k) 0) 1).mpuViolation oneWord.mode 0x2004 0x2007 [.write]
        oneWord.um = some .host ∧
      oneWord.mpuViolation oneWord.mode 0xFFFFFFFC 0xFFFFFFFF [.read] oneWord.um = some .host ∧
      (hostMode.hve = true ∧ hostMode.mode = .host ∧ hostMode.um = false) ∧ (banked 0).sys.rbnr.toNat % 64 ≠ 0 := by
  decide +kernel

/-- 60_exceptions.md R806: the first word of a push from sp = 0 reaches the reserved address of `mapped`. -/
theorem witness_DeniedWordsStopTransfers_reserved :
    mapped.PermitsTransfer 0 (fun _ => 0xFFFFFFFC) .write (fun _ t => t) ∧
      (after mapped (fun _ t => t) 0).mpuViolation mapped.mode 0xFFFFFFFC 0xFFFFFFFF [.write] mapped.um = none ∧
      mapped.Reaches .reserved (0xFFFFFFFC, 4, [.write]) :=
  ⟨fun _ h => absurd h (Nat.not_lt_zero _), by decide +kernel,
    ⟨_, .tail _ (.head _), rfl, 0xFFFFFFFF, by unfold storedBytes; decide, by decide, by decide⟩⟩

/-! ### Floating point -/

theorem decode_one : decodeFp .single 0x3F800000 = .num false 0x800000 (-23) false := by decide +kernel
theorem decode_zero : decodeFp .single 0 = .zero false := by decide +kernel
theorem decode_least : decodeFp .single (minFp .single false) = .num false 0x800000 (-149) false := by decide +kernel
theorem decode_greatest : decodeFp .single (maxFp .single false) = .num false 0xFFFFFF 104 false := by decide +kernel

theorem witness_ArithmeticIsCorrectlyRounded :
    let x := decodeFp .single (minFp .single false)
    let y := decodeFp .single 0
    x.finite ∧ y.finite ∧ x.isSubnormal = false ∧ y.isSubnormal = false ∧ x.value ≤ |x.value + y.value| ∧
      |x.value + y.value| ≤ (decodeFp .single (maxFp .single false)).value := by
  simp only [decode_least, decode_zero, decode_greatest]
  refine ⟨trivial, trivial, rfl, rfl, ?_, ?_⟩ <;> norm_num [Fp.value, abs_of_pos]

theorem witness_ArithmeticIsCorrectlyRounded_division :
    let x := decodeFp .single (maxFp .single false)
    let y := decodeFp .single 0x3F800000
    x.finite ∧ y.finite ∧ x.isSubnormal = false ∧ y.isSubnormal = false ∧ y.value ≠ 0 ∧
      (decodeFp .single (minFp .single false)).value ≤ |x.value / y.value| ∧ |x.value / y.value| ≤ x.value := by
  simp only [decode_least, decode_one, decode_greatest]
  refine ⟨trivial, trivial, rfl, rfl, ?_, ?_, ?_⟩ <;> norm_num [Fp.value, abs_of_pos]

theorem witness_RootsAndReciprocalsAreAccurate :
    let x := decodeFp .single 0x3F800000
    Fmt.single ≠ .half ∧ x.finite ∧ x.isSubnormal = false ∧ 0 < x.value ∧ (2 : ℚ) ^ (0 : Int) ≤ |1 / x.value| ∧ |1 / x.value| < 2 ^ ((0 : Int) + 1) ∧
      (decodeFp .single (minFp .single false)).value ≤ |1 / x.value| ∧ (2 : ℚ) ^ (0 : Int) * 2 ^ (0 : Int) ≤ 1 / x.value ∧
      1 / x.value < (2 : ℚ) ^ ((0 : Int) + 1) * 2 ^ ((0 : Int) + 1) := by
  simp only [decode_one, decode_least]
  refine ⟨by decide, trivial, rfl, ?_, ?_, ?_, ?_, ?_, ?_⟩ <;> norm_num [Fp.value]

theorem witness_ComparisonOrdersNumbers :
    (decodeFp .single 0x3F800000).finite ∧ (decodeFp .single (minFp .single false)).finite ∧
      (decodeFp .single 0x7F800001).isSnan = true ∧ (decodeFp .single 0x7FC00000).isQnan = true ∧
      decodeFp .single 0xFF800000 = .inf true ∧ decodeFp .single 0x7F800000 = .inf false ∧ (decodeFp .single 0).value = 0 := by
  rw [decode_one, decode_least, decode_zero]
  exact ⟨trivial, trivial, by decide +kernel, by decide +kernel, by decide +kernel, by decide +kernel, rfl⟩

theorem decode_subnormal : decodeFp .single 1 = .num false 1 (-149) true := by decide +kernel

/-- The operands of each clause: NaNs, a subnormal number beside a normal one, infinities, zeros. -/
theorem witness_ArithmeticFollowsItsTables :
    (decodeFp .single 0x7F800001).isSnan = true ∧
      ((decodeFp .single 0x3F800000).isSnan = false ∧ (decodeFp .single 0x7FC00000).isQnan = true) ∧
      (decodeFp .single 1).isSubnormal = true ∧ (0x20000 : Word).getLsbD 17 = true ∧ (0 : Word).getLsbD 17 = false ∧
      decodeFp .single 0xFF800000 = .inf (signBit .single 0xFF800000) ∧ decodeFp .single 0 = .zero (signBit .single 0) ∧
      (decodeFp .single 0x3F800000).Normal ∧ (decodeFp .single 0).Normal ∧
      (decodeFp .single 0x3F800000).value + (decodeFp .single 0xBF800000).value = 0 := by
  have h : decodeFp .single 0xBF800000 = .num true 0x800000 (-23) false := by decide +kernel
  rw [h, decode_one, decode_zero]
  refine ⟨by decide +kernel, by decide +kernel, by decide +kernel, by decide, by decide, by decide +kernel, by decide +kernel,
    ⟨trivial, rfl⟩, ⟨trivial, rfl⟩, ?_⟩
  norm_num [Fp.value]

/-- An exact value above the largest number, one below the smallest normal number, and what their clauses distinguish. -/
theorem witness_ArithmeticFollowsItsTables_range :
    let x := decodeFp .single (maxFp .single false)
    let y := decodeFp .single (minFp .single false)
    let most := x.value
    x.Normal ∧ y.Normal ∧ most < |x.value + x.value| ∧ (2 : ℚ) ^ (Fmt.single.bias + 1) ≤ |x.value + x.value| ∧
      most < |x.value + y.value| ∧ ¬ (2 : ℚ) ^ (Fmt.single.bias + 1) ≤ |x.value + y.value| ∧
      y.value * y.value ≠ 0 ∧ |y.value * y.value| < y.value ∧ y.value ≠ 0 := by
  simp only [decode_least, decode_greatest]
  refine ⟨⟨trivial, rfl⟩, ⟨trivial, rfl⟩, ?_, ?_, ?_, ?_, ?_, ?_, ?_⟩ <;>
    norm_num [Fp.value, abs_of_pos, Fmt.bias, Fmt.ebits]

theorem witness_RootsAndConversionsFollowTheirTables :
    (decodeFp .single 0x7F800001).isSnan = true ∧ (decodeFp .single 0x7FC00000).isQnan = true ∧
      (decodeFp .single 1).isSubnormal = true ∧ decodeFp .single 0x80000000 = .zero (signBit .single 0x80000000) ∧
      decodeFp .single 0x7F800000 = .inf (signBit .single 0x7F800000) ∧ decodeFp .single 0xFF800000 = .inf true ∧
      (decodeFp .single (maxFp .single false)).Normal ∧ (decodeFp .single (maxFp .single false)).value ≠ 0 ∧
      |1 / (decodeFp .single (maxFp .single false)).value| < (decodeFp .single (minFp .single false)).value ∧
      ((32 : Nat) = 32 ∨ (32 : Nat) = 64) := by
  simp only [decode_least, decode_greatest]
  refine ⟨by decide +kernel, by decide +kernel, by decide +kernel, by decide +kernel, by decide +kernel, by decide +kernel,
    ⟨trivial, rfl⟩, ?_, ?_, .inl trivial⟩ <;> norm_num [Fp.value, abs_of_pos]

/-- 46_fpu.md R585, R612 (92_eei_decisions.md D22): an infinity times a subnormal number, plus the opposite infinity, is invalid also
with FS = 0. -/
theorem test_fma_invalid_before_e :
    (fpFma Product.default 0 false false 0x7F800000 1 0xFF800000).det = detV ∧
      (fpFma Product.default 0 false false 0x3F800000 1 0xFF800000).det = detE := by
  decide +kernel

/-- 46_fpu.md R585, R612: with FS = 1 a negative subnormal factor is flushed to -0, and IF is set: -0 * 1 + -0 is -0. -/
theorem test_fma_flushes :
    fpFma Product.default 0x20000 false false 0x80000001 0x3F800000 0x80000000 = ⟨0, 0x80000000, true⟩ := by
  decide +kernel

/-- 47_fpu.md R641, R683, R687, R684: the rows of the conversions between formats: a signaling and a quiet NaN, an infinity, a subnormal
source with FS = 0 and with FS = 1, a subnormal half. -/
theorem test_conversions_special :
    fpToFp Product.default 0 .single .double 0xFFA00000 = ⟨detV, 0x7FFFFFFFFFFFFFFF, false⟩ ∧
      fpToFp Product.default 0 .double .single 0x7FF8000000000001 = ⟨0, 0x7FFFFFFF, false⟩ ∧
      fpToFp Product.default 0 .single .half 0xFF800000 = ⟨0, 0xFC00, false⟩ ∧
      (fpToFp Product.default 0 .double .single 1).det = detE ∧
      fpToFp Product.default 0x20000 .single .double 0x80000001 = ⟨0, 0x8000000000000000, true⟩ ∧
      fpOfHalf Product.default 0x20000 0x0001 = ⟨0, 0x33800000, false⟩ ∧
      fpOfHalf Product.default 0 0x7C01 = ⟨detV, 0x7FFFFFFF, false⟩ := by
  decide +kernel

/-- 48_fxu.md R734: the reciprocal of the largest number detects I beside E (FS = 0). -/
theorem test_recip_below_least : (fpRecip Product.default 0 .single recipCell none (maxFp .single false)).det = detE ||| detI := by
  decide +kernel

/-- A product and an addend that cancel, and zeros of one sign and of two. -/
theorem witness_FusedAndConvertedResultsRoundOnce_zero :
    (decodeFp .single 0xBF800000).Normal ∧
      (decodeFp .single 0x3F800000).value * (decodeFp .single 0x3F800000).value + (decodeFp .single 0xBF800000).value = 0 ∧
      (decodeFp .single 0).value * (decodeFp .single 0x3F800000).value + -(decodeFp .single 0).value = 0 ∧
      (signBit .single 0 ^^ signBit .single 0x3F800000) ≠ (signBit .single 0 ^^ true) ∧
      (signBit .single 0 ^^ signBit .single 0xBF800000) = (signBit .single 0 ^^ true) := by
  have h : decodeFp .single 0xBF800000 = .num true 0x800000 (-23) false := by decide +kernel
  rw [h, decode_one, decode_zero]
  refine ⟨⟨trivial, rfl⟩, ?_, ?_, by decide +kernel, by decide +kernel⟩ <;> norm_num [Fp.value]

/-- 46_fpu.md R586, R612: 1 * 1 - 1 is +0, and -0 rounding toward minus infinity; -0 * 1 + -0 is -0; 49_fxu.md R774: -2 as half. -/
theorem test_exact_zero_and_half :
    (fpFma Product.default 0 false false 0x3F800000 0x3F800000 0xBF800000).val = 0 ∧
      (fpFma Product.default 0xC0000 false false 0x3F800000 0x3F800000 0xBF800000).val = 0x80000000 ∧
      (fpFma Product.default 0 false false 0x80000000 0x3F800000 0x80000000).val = 0x80000000 ∧
      (fpToFp Product.default 0 .single .half 0xC0000000).val = 0xC000 := by
  decide +kernel

theorem witness_FusedAndConvertedResultsRoundOnce :
    (decodeFp .single 0x3F800000).Normal ∧ (decodeFp .single 0).Normal ∧
      (Fmt.single, Fmt.half) ∈ [(Fmt.single, Fmt.double), (.double, .single), (.single, .half)] ∧
      (decodeFp .half ((0x3C01 : Half).setWidth 64)).finite ∧ ((1 : Int) ≠ 0 ∧ |(1 : Int)| < 2 ^ 64) ∧
      (|(2 ^ 64 - 1 : Int)| < 2 ^ 64) ∧
      (decodeFp .single 0xFF800000 = .inf (signBit .single 0xFF800000) ∧ (decodeFp .single 0x7F800001).isSnan = true ∧
        (decodeFp .single 0x7FC00000).isQnan = true ∧ (decodeFp .single 1).isSubnormal = true) ∧
      (decodeFp .half ((0xFC00 : Half).setWidth 64) = .inf ((0xFC00 : Half).getLsbD 15) ∧
        (decodeFp .half ((0x7C01 : Half).setWidth 64)).isSnan = true ∧ (decodeFp .half ((0x7E00 : Half).setWidth 64)).isQnan = true) := by
  have h : decodeFp .half ((0x3C01 : Half).setWidth 64) = .num false 0x401 (-10) false := by decide +kernel
  rw [h, decode_one, decode_zero]
  exact ⟨⟨trivial, rfl⟩, ⟨trivial, rfl⟩, by decide, trivial, by decide, by decide, by decide +kernel, by decide +kernel⟩

theorem witness_ConversionsRoundToIntegers :
    ((32 : Nat) = 32 ∨ (32 : Nat) = 64) ∧ (decodeFp .single 0x3F800000).finite ∧ (decodeFp .single 0x3F800000).isSubnormal = false ∧
      (decodeFp .single 0x3F800000).value ≠ 0 := by
  rw [decode_one]
  exact ⟨.inl rfl, trivial, rfl, by norm_num [Fp.value]⟩

theorem witness_FpuMovesAndComparisonsTouchTheirBits_unusable : unusable.psw.getLsbD 16 = false ∧ unusable.psw.getLsbD 17 = false := by decide +kernel

theorem witness_FpuMovesAndComparisonsTouchTheirBits_moves : base.psw.getLsbD 16 = true := by decide +kernel

theorem not_trapped_none (w : Word) : ¬ Trapped w 0 := by simp [Trapped]

theorem witness_FpuArithmeticCompletesOrTraps :
    base.psw.getLsbD 16 = true ∧ (fpArith2 base.prod base.sys.fpsr .single addCell 0 0).det = 0 ∧ ¬ Trapped base.sys.fpsr 0 :=
  ⟨by decide +kernel, by decide +kernel, not_trapped_none _⟩

/-- FPSR with the exception V enabled. -/
def enabled : State := { base with sys := { base.sys with fpsr := 0x220200, fxsr := 0x220200 } }

theorem witness_FpuArithmeticCompletesOrTraps_traps :
    enabled.psw.getLsbD 16 = true ∧ (fpArith2 enabled.prod enabled.sys.fpsr .single addCell 0x7F800000 0xFF800000).det = detV ∧
      Trapped enabled.sys.fpsr detV :=
  ⟨by decide +kernel, by decide +kernel, .inr ⟨4, by decide, by decide, by decide⟩⟩

theorem witness_FpuMovesAndComparisonsTouchTheirBits :
    (if (0 : FpDet) = 0 then ¬ False else (0 : FpDet) = detV ∧ False) ∧
      (if detV = (0 : FpDet) then ¬ (decodeFp .single 0x7F800001).isSnan = true else detV = detV ∧ (decodeFp .single 0x7F800001).isSnan = true) := by
  rw [if_pos rfl, if_neg (by decide)]
  exact ⟨not_false, rfl, by decide +kernel⟩

/-- Four results together detect something. -/
theorem detected_exists (r : Nat → FpRes) : ∃ d, Detected r d := by
  refine ⟨(r 0).det ||| (r 1).det ||| (r 2).det ||| (r 3).det, fun i => ?_⟩
  simp only [BitVec.getLsbD_or, Bool.or_eq_true]
  constructor
  · rintro (((h | h) | h) | h)
    · exact ⟨0, by omega, h⟩
    · exact ⟨1, by omega, h⟩
    · exact ⟨2, by omega, h⟩
    · exact ⟨3, by omega, h⟩
  · rintro ⟨k, hk, h⟩
    match k, hk with
    | 0, _ => exact .inl (.inl (.inl h))
    | 1, _ => exact .inl (.inl (.inr h))
    | 2, _ => exact .inl (.inr h)
    | 3, _ => exact .inr h

theorem witness_VectorArithmeticIsElementwise :
    base.psw.getLsbD 17 = true ∧ Detected (fun _ => fpArith2 base.prod base.sys.fxsr .single addCell 0 0) 0 ∧
      ¬ Trapped base.sys.fxsr 0 := by
  refine ⟨by decide +kernel, fun i => ?_, not_trapped_none _⟩
  have h : (fpArith2 base.prod base.sys.fxsr .single addCell 0 0).det = 0 := by decide +kernel
  simp only [h]
  exact ⟨fun k => absurd k (by simp), fun ⟨_, _, k⟩ => absurd k (by simp)⟩

theorem witness_VectorArithmeticIsElementwise_traps :
    enabled.psw.getLsbD 17 = true ∧
      Detected (fun _ => fpArith2 enabled.prod enabled.sys.fxsr .single addCell 0x7F800000 0xFF800000) detV ∧
      Trapped enabled.sys.fxsr detV := by
  refine ⟨by decide +kernel, fun i => ?_, .inr ⟨4, by decide, by decide, by decide⟩⟩
  have h : (fpArith2 enabled.prod enabled.sys.fxsr .single addCell 0x7F800000 0xFF800000).det = detV := by decide +kernel
  simp only [h]
  exact ⟨fun k => ⟨0, by omega, k⟩, fun ⟨_, _, k⟩ => k⟩

theorem witness_VectorMovesAndAccessesSelectElements :
    base.psw.getLsbD 17 = true ∧ base.memWf ∧ base.MayAccess (base.reg 1 + sextW (dispLow (0xFFF : BitVec 12) 4)) 16 [.read] ∧
      base.MayAccess (base.reg 1 + sextW (dispLow (0x3FFF : BitVec 14) 2)) 4 [.write] ∧
      base.MayAccess (base.reg 1 + sextW (dispLow (0x1FFF : BitVec 13) 3)) 8 [.write] :=
  ⟨by decide +kernel, base_memWf, ⟨by decide +kernel, by decide +kernel, by decide +kernel⟩,
    ⟨by decide +kernel, by decide +kernel, by decide +kernel⟩, ⟨by decide +kernel, by decide +kernel, by decide +kernel⟩⟩

theorem witness_FpuConversionsCompleteOrTrap :
    base.psw.getLsbD 16 = true ∧ ¬ Trapped base.sys.fpsr (fpToInt base.sys.fpsr .single none true 32 0).det ∧
      Trapped enabled.sys.fpsr (fpToInt enabled.sys.fpsr .single none true 32 0x7F800000).det := by
  have h1 : (fpToInt base.sys.fpsr .single none true 32 0).det = 0 := by decide +kernel
  have h2 : (fpToInt enabled.sys.fpsr .single none true 32 0x7F800000).det = detV := by decide +kernel
  rw [h1, h2]
  exact ⟨by decide +kernel, not_trapped_none _, .inr ⟨4, by decide, by decide, by decide⟩⟩

theorem witness_VectorArithmeticAcrossElements :
    base.psw.getLsbD 17 = true ∧ Detected (fun _ => fpArith2 base.prod base.sys.fxsr .single subCell 0 0) 0 ∧
      ¬ Trapped base.sys.fxsr 0 := by
  refine ⟨by decide +kernel, fun i => ?_, not_trapped_none _⟩
  have h : (fpArith2 base.prod base.sys.fxsr .single subCell 0 0).det = 0 := by decide +kernel
  simp only [h]
  exact ⟨fun k => absurd k (by simp), fun ⟨_, _, k⟩ => absurd k (by simp)⟩

/-! ### The machine -/

theorem witness_ResetLeavesTheStatedState :
    { base with env := { Env.none with reset := true } }.begin.env.reset = true ∧
      { base with lastPc := some 0x20 }.begin.lastPc = some 0x20 := by
  decide +kernel

theorem witness_StepRunsTheDecodedInstruction :
    base.begin.env.reset = false ∧ base.halt = .running ∧ base.begin.pick = none ∧
      decodeBytes base.prod.enc base.begin.fetchBytes = .instr .nop 2 [0, 0, 0, 0, 0, 0] := by
  decide +kernel

theorem witness_StepRunsTheDecodedInstruction_fetch : base.begin.fetchStop = none := by
  have h1 : base.begin.fetchViolation = none := by decide +kernel
  have h2 : base.begin.prod.touches .reserved base.begin.pc base.begin.fetchLength = false := by decide +kernel
  have h3 : base.begin.env.fetchError = none := by decide +kernel
  simp only [State.fetchStop, h1, h2, h3, Bool.false_eq_true, if_false]

theorem witness_FetchesRaiseTheirExceptions_errors :
    base.fetchViolation = none ∧ ¬ base.Reaches .reserved (base.pc, base.fetchLength, [.exec]) ∧
      (atPc 0xFFFFFFFE mapped).fetchViolation = none ∧
      (atPc 0xFFFFFFFE mapped).Reaches .reserved ((atPc 0xFFFFFFFE mapped).pc, (atPc 0xFFFFFFFE mapped).fetchLength, [.exec]) := by
  refine ⟨by decide +kernel, ?_, by decide +kernel, ⟨_, .tail _ (.head _), rfl, 0xFFFFFFFF, ?_, by decide, by decide⟩⟩
  · rintro ⟨g, hg, _⟩
    have none : base.prod.memmap = [] := rfl
    rw [none] at hg
    cases hg
  · unfold storedBytes; decide +kernel

/-- ADDI at 1002H; the MPU permits the word at 1000H alone, so the first halfword of the instruction and not the second. -/
def halfPermitted : State :=
  { ((atPc 0x1002 base).withFetchWord 32 0x00012E06) with
    host := { base.host with mpm := 3 }
    mpu := { base.mpu with bank0 := base.mpu.bank0.set 0 ⟨0x1000, 0x1000, 0x40BF⟩ } }

theorem witness_FetchesRaiseTheirExceptions :
    (0 < { user with host := { user.host with mpm := 1 } }.fetchLength / 2 ∧
        { user with host := { user.host with mpm := 1 } }.HalfwordDenied 0 = some .host) ∧
      { guestMode with guest := { guestMode.guest with mpm := 3 } }.HalfwordDenied 0 = some .guest ∧
      decodeBytes base.prod.enc base.fetchBytes = .instr .nop 2 [0, 0, 0, 0, 0, 0] ∧
      decodeBytes base.prod.enc (base.withFetchWord 16 0x0001).fetchBytes = .undefined 1 ∧
      decodeBytes base.prod.enc (base.withFetchWord 32 0x04A007E0).fetchBytes = .undefined 0x04A007E0 ∧
      (coprocessorOf 0x04A007E0 = some 0 ∧ unusable.psw.getLsbD 16 = false) ∧ coprocessorOf 1 = none ∧
      coprocessorOf 0x050007E0 = some 2 := by
  decide +kernel

/-- 30_encoding.md R317: an encoding of each row of the table, of Format 2, and of none. -/
theorem test_coprocessorOf :
    ([0x040007E0, 0x048007E0, 0x04A007E0, 0x04C007E0, 0x04E007E0, 0x050007E0, 0x058007E0, 0x060007E0, 0x078007E0, 0x001D07A0, 0x040107E0,
        0x000007E0].map coprocessorOf) =
      [some 0, some 0, some 0, some 1, some 0, some 2, some 1, some 2, some 2, some 1, none, none] := by
  decide +kernel

/-- 21_mpu.md R264 (d): MIP at the second halfword; 11_sysregs.md R107 against R265: MEA by the product. -/
theorem test_mip_second_halfword :
    let takes (s : State) (p : State → Bool) : Bool := match s.fetchStop with
      | some (.next t) => p t
      | _ => false
    halfPermitted.HalfwordDenied 0 = none ∧ halfPermitted.HalfwordDenied 1 = some .host ∧
      takes halfPermitted (fun t => t.pc == 0x90 && t.host.feic == 0x00200098 && t.host.mea == 0x1002) = true ∧
      takes { halfPermitted with prod := { base.prod with mipWritesMea := false } }
        (fun t => t.host.feic == 0x00200098 && t.host.mea == base.host.mea) = true := by
  decide +kernel

theorem witness_AcceptedInterruptsAreUnmasked :
    (interrupted ⟨0x25, 3, false, false, none, false⟩).pick = some (.ei .eiint ⟨0x25, 3, false, false, none, false⟩) ∧
      { guestMode with
          guest := { guestMode.guest with psw := 0x03F08000 }
          env := { Env.none with ei := some ⟨0x25, 3, false, false, some 1, false⟩ } }.pick =
        some (.ei .gmeiint ⟨0x25, 3, false, false, some 1, false⟩) ∧
      { guestMode with
          guest := { guestMode.guest with psw := 0x03F08000 }
          env := { Env.none with ei := some ⟨0x25, 3, false, false, some 2, true⟩ } }.pick =
        some (.ei .bgeiint ⟨0x25, 3, false, false, some 2, true⟩) ∧
      { base with env := { Env.none with fenmi := true, syserr := some ⟨0, true, false⟩ } }.pick = some .fenmi ∧ base.pick = none ∧
      { hostMode with env := { Env.none with syserr := some ⟨0, false, true⟩ } }.pick = none ∧
      { guestMode with env := { Env.none with syserr := some ⟨0, false, true⟩ } }.pick = some (.syserr ⟨0, false, true⟩) := by
  decide +kernel

theorem witness_MaskStatusShowsTheFirstMask :
    base.um = false ∧ base.hve = false ∧ guestMode.um = false ∧ guestMode.mode = .guest := by
  decide +kernel

/-- 11_sysregs.md R111: the rows of the table of BGFEINT (GMPSW.NP, PSW.ID, PSW.NP; FNP 4, HEID 10, HENP 11). -/
theorem test_imsr_bgfeint :
    let row (gnp hid hnp : Word) : Word :=
      State.imsr { guestMode with
        guest := { guestMode.guest with psw := 0x8000 ||| gnp <<< 7 }
        host := { guestMode.host with psw := hid <<< 5 ||| hnp <<< 7 }
        env := { Env.none with fe := some ⟨0, some 2, true⟩ } }
    [row 0 0 0, row 0 0 1, row 0 1 0, row 0 1 1, row 1 0 0, row 1 0 1, row 1 1 0, row 1 1 1] =
      [0, 0x800, 0x400, 0x400, 0x10, 0x810, 0x410, 0x410] := by
  decide +kernel

/-- 11_sysregs.md R111: an EIINT masked by PLMR and by ID shows EPLM alone, in guest mode HEPLM. -/
theorem test_imsr_first :
    State.imsr { interrupted ⟨0x25, 3, false, false, none, false⟩ with
      host := { base.host with plmr := 3, psw := base.host.psw ||| 0x20, intcfg := 0 } } = 2 ∧
    State.imsr { guestMode with
      host := { guestMode.host with plmr := 3, psw := 0x20, intcfg := 0 }
      env := { Env.none with ei := some ⟨0x25, 3, false, false, none, false⟩ } } = 0x200 := by
  decide +kernel

theorem witness_InterruptsEnterTheirHandlers :
    { base with env := { Env.none with fenmi := true } }.env.fenmi = true ∧ (⟨0x25, 63, false, false, none, false⟩ : EiRequest).table = false := by
  decide +kernel

/-- A table request, priority 3, whose bank flag is clear, on a core with two banks of which `used` are in use. -/
def bankWanted (used : Word) : State :=
  { interrupted ⟨0x25, 3, true, false, none, false⟩ with
    sys := { base.sys with rbcr0 := 0xFFFF, rbnr := used, rbip := 0x8000 }
    host := { base.host with intcfg := 0x10000 } }

theorem witness_InterruptsUseTablesAndBanks :
    base.memWf ∧ (⟨0x25, 3, true, false, none, false⟩ : EiRequest).table = true ∧
      ((bankWanted 0).mpuViolation .host 0x94 0x97 [.read] false = none ∧ (bankWanted 0).sys.rbcr0.getLsbD (min 3 15) = true ∧
        (bankWanted 0).hve = false ∧ ¬ ((bankWanted 0).host.intcfg.toNat / 2 ^ 16 % 64 < 0)) ∧
      (List.range 24).all (fun j => (bankWanted 1).mpuViolation .host (0x7FA0 - 4 * (j + 1)) (0x7FA3 - 4 * (j + 1)) [.write] false == none)
        = true ∧
      (bankWanted 2).host.intcfg.toNat / 2 ^ 16 % 64 < (bankWanted 2).sys.rbnr.toNat % 64 ∧
      { bankWanted 0 with host := { base.host with mpm := 3 } }.mpuViolation .host 0x94 0x97 [.read] false = some .host ∧
      { bankWanted 0 with host := { base.host with mpm := 3 } }.mpuViolation .host 0x7FFC 0x7FFF [.write] false = some .host ∧
      ((bankWanted 0).VectorReg .host).getLsbD 1 = false :=
  ⟨base_memWf, by decide +kernel, by decide +kernel, by decide +kernel, by decide +kernel, by decide +kernel, by decide +kernel,
    by decide +kernel⟩

/-- The table word, and the first word of the bank, at a reserved address. -/
theorem witness_InterruptsUseTablesAndBanks_reserved :
    let reserved (lo : Nat) : State := { bankWanted 0 with prod := { base.prod with memmap := [⟨lo, lo, .reserved⟩] } }
    ((reserved 0x97).mpuViolation .host 0x94 0x97 [.read] false = none ∧ (reserved 0x97).Reaches .reserved (0x94, 4, [.read])) ∧
      (reserved 0x7FFC).mpuViolation .host 0x7FFC 0x7FFF [.write] false = none ∧ (reserved 0x7FFC).Reaches .reserved (0x7FFC, 4, [.write]) :=
  ⟨⟨by decide +kernel, ⟨_, .head _, rfl, 0x97, by unfold storedBytes; decide, by decide, by decide⟩⟩, by decide +kernel,
    ⟨_, .head _, rfl, 0x7FFC, by unfold storedBytes; decide, by decide, by decide⟩⟩

/-- 20_memory.md R204, 60_exceptions.md R815: a table word at a reserved address cancels the entry: the request stays, EIPC is written. -/
theorem test_accept_reserved :
    (match State.accept { bankWanted 0 with prod := { base.prod with memmap := [⟨0x97, 0x97, .reserved⟩] } }
        (.ei .eiint ⟨0x25, 3, true, false, none, false⟩) with
      | .next t => t.pc == 0x10 && t.host.feic == 0x10 && t.host.fepc == 0x1000 && t.host.eipc == 0x1000 && t.env.ei.isSome &&
          t.host.fepsw == base.host.psw
      | _ => false) = true := by
  decide +kernel

/-- A core in guest mode whose table word for channel 25H (94H to 97H) and register banks (below 8000H) are devices. -/
def deviceTables : State :=
  { bankWanted 0 with
    sys := { (bankWanted 0).sys with hvcfg := 1, pswh := 0x80000100 }
    guest := { guestMode.guest with intcfg := 0x10002 }
    prod := { base.prod with memmap := [⟨0x94, 0x97, .device⟩, ⟨0x7000, 0x7FFF, .device⟩] } } |> withSpids

/-- 20_memory.md R202, 21_mpu.md R266: a host-bound EIINT accepted in guest mode reads its table word with the SPID of the host context and
without a GPID; a GMEIINT of partition 1 reads it, and stores its bank, with the SPID and the GPID of the guest. -/
theorem test_accept_device :
    (match deviceTables.accept (.ei .eiint ⟨0x25, 3, true, false, none, false⟩) with
      | .next t => t.out == [.deviceRead ⟨3, none⟩ 0x94 4, .accepted .eiint, .acknowledge .eiint]
      | _ => false) = true ∧
      (match deviceTables.accept (.ei .gmeiint ⟨0x25, 3, true, false, some 1, false⟩) with
      | .next t => t.out.take 2 == [.deviceRead ⟨5, some 1⟩ 0x94 4, .deviceWrite ⟨5, some 1⟩ 0x7FFC [0x00, 0x10, 0x00, 0x00]] &&
          t.out.length == 27
      | _ => false) = true := by
  decide +kernel

/-- The entry of that GMEIINT, whose 25 words are all permitted, the first and the last of them at a device. -/
theorem witness_DeviceAccessesAreReported_entry :
    (deviceTables.mode = .guest ∧ (deviceTables.VectorReg .guest).getLsbD 1 = false ∧ deviceTables.sys.rbcr0.getLsbD (min 3 15) = true ∧
      deviceTables.sys.rbnr.toNat % 64 ≤ (deviceTables.ctx .guest).intcfg.toNat / 2 ^ 16 % 64 ∧
      deviceTables.sys.rbcr0.getLsbD 16 = false ∧ deviceTables.BankPlace 0 = 0x7FFC ∧ deviceTables.BankPlace 23 = 0x7FA0) ∧
      ((0x94 : Word) :: (List.range 24).map deviceTables.BankPlace).all (fun a =>
        deviceTables.mpuViolation .guest a.toNat (a.toNat + 3) [.read] false == none &&
        deviceTables.mpuViolation .guest a.toNat (a.toNat + 3) [.write] false == none) = true ∧
      (∀ x, ¬ deviceTables.Reaches .reserved x) ∧
      deviceTables.Reaches .device (0x94, 4, [.read]) ∧ deviceTables.Reaches .device (0x7FA0, 4, [.write]) := by
  refine ⟨by decide +kernel, by decide +kernel, ?_, ⟨_, .head _, rfl, 0x97, by unfold storedBytes; decide, by decide, by decide⟩,
    ⟨_, .tail _ (.head _), rfl, 0x7FA3, by unfold storedBytes; decide, by decide, by decide⟩⟩
  rintro x ⟨g, hg, hk, -⟩
  simp only [deviceTables, withSpids, List.mem_cons, List.not_mem_nil, or_false] at hg
  rcases hg with rfl | rfl <;> cases hk

theorem witness_StepsAdvanceTheCounters :
    (base.begin.env.reset = false ∧ base.begin.wake = some base.begin ∧ base.begin.pick = none) ∧
      { base with halt := .halted }.begin.wake = none ∧
      { base with env := { Env.none with fenmi := true } }.begin.pick = some .fenmi ∧
      { base with cnt := { base.cnt with tsctrl := 1 } }.cnt.tsctrl.getLsbD 0 = true := by
  decide +kernel

/-- 11_sysregs.md R155, R156: a counter of EIINT at its last value (FFFFFFFFH + 1 = 2^32), and one at the value before. -/
theorem witness_StepsAdvanceTheCounters_overflow :
    let u (count : Word) : State :=
      { base with
        cnt := { base.cnt with pmctrl := base.cnt.pmctrl.set 0 0x2001, pmcount := base.cnt.pmcount.set 0 count }
        out := [.accepted .eiint] }
    (u 0xFFFFFFFF).Counts (u 0xFFFFFFFF) false 0x2001 1 ∧ (0xFFFFFFFF : Word).toNat + 1 = 2 ^ 32 ∧
      ((u 0xFFFFFFFF).finish false (u 0xFFFFFFFF)).cnt.pmcount[0] = 0 ∧
      ((u 0xFFFFFFFF).finish false (u 0xFFFFFFFF)).cnt.pmctrl[0] = 0x2003 ∧
      ((u 0xFFFFFFFE).finish false (u 0xFFFFFFFE)).cnt.pmctrl[0] = 0x2001 := by
  refine ⟨?_, by decide, by decide +kernel, by decide +kernel, by decide +kernel⟩
  show 1 = List.length _
  decide +kernel

theorem witness_StepKeepsMemoryCanonical : base.memWf ∧ steps base (fun t => t.pc == 0x1002) = true :=
  ⟨base_memWf, by decide +kernel⟩

theorem witness_StepKeepsPcAndModeLegal :
    (base.pcEven ∧ base.hvcfgLegal ∧ base.pswhLegal) ∧ guestMode.pcEven ∧ guestMode.hvcfgLegal ∧ guestMode.pswhLegal :=
  ⟨⟨by show _ = _; decide +kernel, .inl rfl, by decide +kernel, by decide +kernel, by decide +kernel, fun _ => rfl⟩,
    by show _ = _; decide +kernel, .inr ⟨rfl, by decide +kernel⟩, by decide +kernel, by decide +kernel, by decide +kernel,
    fun h => absurd h (by decide +kernel)⟩

theorem witness_UserModeKeepsProtectedRegisters :
    user.um = true ∧ (∃ t, exec (.trap 0) user = .next t) ∧ ∃ t, exec .nop user = .next t ∧ t.um = true :=
  ⟨by decide +kernel, ⟨_, rfl⟩, _, rfl, by decide +kernel⟩

theorem witness_DecodeReadsWhatEncodeWrites :
    Instr.wellFormed (.addF1 31 0) = true ∧ encodeBytes Enc.default (.addF1 31 0) = some [0xDF, 0x01] := by decide +kernel

end

end Sys2Proof.Tests
end

section
/-!
PROOFS. The condition codes (10_state.md, R29).
-/

namespace Sys2Proof.Machine

/-! ## What each code reads -/

variable (s : State)

@[simp] theorem State.cond_overflow : s.cond 0#4 = s.ov := rfl
@[simp] theorem State.cond_carry : s.cond 1#4 = s.cy := rfl
@[simp] theorem State.cond_zero : s.cond 2#4 = s.zf := rfl
@[simp] theorem State.cond_notHigher : s.cond 3#4 = (s.cy || s.zf) := rfl
@[simp] theorem State.cond_negative : s.cond 4#4 = s.sf := rfl
@[simp] theorem State.cond_always : s.cond 5#4 = true := rfl
@[simp] theorem State.cond_lessSigned : s.cond 6#4 = (s.sf ^^ s.ov) := rfl
@[simp] theorem State.cond_lessOrEqualSigned : s.cond 7#4 = ((s.sf ^^ s.ov) || s.zf) := rfl
@[simp] theorem State.cond_saturated : s.cond 13#4 = s.sat := rfl

/-! ## Opposite codes -/

/-- The lower half of the table, but for 0101: these codes have an opposite. -/
theorem invertible_low_code_cases :
    ∀ c : BitVec 4, c < 8 → c ≠ 5 → c = 0 ∨ c = 1 ∨ c = 2 ∨ c = 3 ∨ c = 4 ∨ c = 6 ∨ c = 7 := by
  decide

/-- Inverting the top bit of a code of the upper half, but for 1101, gives one of the lower half that is not 0101. -/
theorem invertible_high_code_xor_eight : ∀ c : BitVec 4, ¬ c < 8 → c ≠ 13 → c ^^^ 8 < 8 ∧ c ^^^ 8 ≠ 5 := by
  decide

theorem State.cond_xor_eight_of_lt {c : BitVec 4} (low : c < 8) (notAlways : c ≠ 5) : s.cond (c ^^^ 8) = !s.cond c := by
  obtain rfl | rfl | rfl | rfl | rfl | rfl | rfl := invertible_low_code_cases c low notAlways <;> rfl

/-- The upper half follows from the lower one, as inverting the top bit twice gives the code back. -/
theorem State.cond_xor_eight {c : BitVec 4} (notAlways : c ≠ 5) (notSat : c ≠ 13) : s.cond (c ^^^ 8) = !s.cond c := by
  by_cases low : c < 8
  · exact s.cond_xor_eight_of_lt low notAlways
  · obtain ⟨low', notAlways'⟩ := invertible_high_code_xor_eight c low notSat
    have opposite : s.cond c = !s.cond (c ^^^ 8) := by
      simpa [BitVec.xor_assoc] using s.cond_xor_eight_of_lt low' notAlways'
    rw [opposite, Bool.not_not]

end Sys2Proof.Machine

open Sys2Proof.Machine

/-- Settles O6: the table is read off code by code, and the opposite codes by halves of the table. -/
theorem conditionCodesReadTheFlags : Obligations.ConditionCodesReadTheFlags := by
  intro s
  constructor
  · simp
  · intro c notAlways notSat
    exact s.cond_xor_eight notAlways notSat

end

section
/-!
PROOFS. The instructions that write one register and no flag, and the logical instructions (40_arith_logic.md).
-/

namespace Sys2Proof.Machine

/-! ## Operands of the model in the terms of the rules -/

/-- R384, R385: the signed low halfword of a product. -/
theorem lowSigned_eq_toInt_setWidth (v : Word) : lowSigned v = (v.setWidth 16).toInt := by
  rw [lowSigned, BitVec.setWidth_eq_extractLsb' (by decide)]

/-- R421, R422: sign extension of the low bits of a register. -/
theorem sextW_extractLsb'_zero (v : Word) {n : Nat} (h : n ≤ 32) :
    sextW (v.extractLsb' 0 n) = (v.setWidth n).signExtend 32 := by
  rw [sextW, BitVec.setWidth_eq_extractLsb' h]

/-- R423, R424: zero extension of the low bits of a register is a mask. -/
theorem zextW_extractLsb'_zero (v : Word) {n : Nat} (h : n ≤ 32) :
    zextW (v.extractLsb' 0 n) = v &&& BitVec.ofNat 32 (2 ^ n - 1) := by
  rw [zextW, ← BitVec.setWidth_eq_extractLsb' h]
  apply BitVec.eq_of_getLsbD_eq
  intro i hi
  simp only [BitVec.getLsbD_setWidth, BitVec.getLsbD_and, BitVec.getLsbD_ofNat, Nat.testBit_two_pow_sub_one, hi, decide_true,
    Bool.true_and, Bool.and_comm]

/-- R359: a halfword above sixteen zero bits. -/
theorem append_zeros_eq_shiftLeft (v : Half) : v ++ 0#16 = v.setWidth 32 <<< 16 := by
  simpa using BitVec.setWidth_append_eq_shiftLeft_setWidth_or (w'' := 32) (b := v) (b' := 0#16)

/-- R417, R418: a condition as a word. -/
theorem zextW_ofBool (b : Bool) : zextW (BitVec.ofBool b) = if b then 1 else 0 := by
  cases b <;> rfl

/-! ## Instructions without flags -/

/-- `State.plain_completes`, with the value `w` of the model given as the value `v` of the rule. -/
theorem Writes.of_plain {i : Instr} {s : State} {dst : Reg} {v w : Word} {len : Nat} (h : exec i s = s.plain dst w len)
    (hw : w = v) : Writes i s len dst v :=
  hw ▸ State.plain_completes h

end Sys2Proof.Machine

open Sys2Proof.Machine

/-- Settles O2: each of these instructions is `State.plain`, and its value is that of the rule. -/
theorem flaglessResultsReachOneRegister : Obligations.FlaglessResultsReachOneRegister := by
  intro s reg1 reg2 reg3 imm5 imm16 imm32 cccc low
  refine ⟨?movF1, ?movF2, ?movF3, ?movea, ?movhi, ?sasf, ?setf, ?sxb, ?sxh, ?zxb, ?zxh, ?cmovF1, ?cmovF2, ?mulhF1, ?mulhF2,
    ?mulhi⟩
  case movF1 | movF2 | movF3 | movea | cmovF1 | cmovF2 => exact State.plain_completes rfl
  case movhi => exact .of_plain rfl (by rw [append_zeros_eq_shiftLeft])
  case sasf => exact .of_plain rfl (by rw [zextW_ofBool])
  case setf => exact .of_plain rfl (zextW_ofBool _)
  case sxb | sxh => exact .of_plain rfl (sextW_extractLsb'_zero _ (by decide))
  case zxb | zxh => exact .of_plain rfl (zextW_extractLsb'_zero _ (by decide))
  case mulhF1 | mulhF2 | mulhi => exact .of_plain rfl (by simp only [lowSigned_eq_toInt_setWidth, low])

/-- Settles O3: each of these instructions is `State.logic`; the destination of TST is r0, which keeps no value. -/
theorem logicalResultsKeepCarry : Obligations.LogicalResultsKeepCarry := by
  intro s reg1 reg2 imm16
  refine ⟨?and, ?andi, ?not, ?or, ?ori, ?tst, ?xor, ?xori⟩
  case and | andi | not | or | ori | tst | xor | xori => exact State.logic_completes rfl

end

section
/-!
PROOFS. The byte and halfword swaps, and the bit searches (41_data_bit_branch.md).
-/

namespace Sys2Proof.Machine

/-! ## Words as bytes and halfwords -/

theorem append_eq_zero_iff {m n : Nat} (a : BitVec m) (b : BitVec n) : a ++ b = 0 ↔ a = 0 ∧ b = 0 := by
  simp only [← BitVec.toNat_inj, BitVec.toNat_append, BitVec.ofNat_eq_ofNat, BitVec.toNat_ofNat, Nat.zero_mod, Nat.or_eq_zero_iff,
    Nat.shiftLeft_eq_zero_iff]

section
variable (a b c d : Byte) (v : Word)

@[simp] theorem byteOf_append_zero : byteOf (a ++ b ++ c ++ d) 0 = d := BitVec.extractLsb'_append_eq_right
@[simp] theorem byteOf_append_one : byteOf (a ++ b ++ c ++ d) 1 = c := by
  rw [byteOf, BitVec.extractLsb'_append_eq_of_le (by decide)]
  exact BitVec.extractLsb'_append_eq_right
@[simp] theorem byteOf_append_two : byteOf (a ++ b ++ c ++ d) 2 = b := by
  rw [byteOf, BitVec.extractLsb'_append_eq_of_le (by decide), BitVec.extractLsb'_append_eq_of_le (by decide)]
  exact BitVec.extractLsb'_append_eq_right
@[simp] theorem byteOf_append_three : byteOf (a ++ b ++ c ++ d) 3 = a := by
  rw [byteOf, BitVec.extractLsb'_append_eq_of_le (by decide), BitVec.extractLsb'_append_eq_of_le (by decide)]
  exact BitVec.extractLsb'_append_eq_left

theorem bytes_append_low : byteOf v 1 ++ byteOf v 0 = halfOf v 0 :=
  BitVec.extractLsb'_append_extractLsb'_eq_extractLsb' (by rfl)

theorem bytes_append_high : byteOf v 3 ++ byteOf v 2 = halfOf v 1 :=
  BitVec.extractLsb'_append_extractLsb'_eq_extractLsb' (by rfl)

theorem halves_append : halfOf v 1 ++ halfOf v 0 = v :=
  (BitVec.extractLsb'_append_extractLsb'_eq_extractLsb' (by rfl)).trans BitVec.extractLsb'_eq_self

theorem halfOf_zero_eq_zero_iff : halfOf v 0 = 0 ↔ byteOf v 0 = 0 ∧ byteOf v 1 = 0 := by
  rw [← bytes_append_low, append_eq_zero_iff, and_comm]

theorem halfOf_one_eq_zero_iff : halfOf v 1 = 0 ↔ byteOf v 2 = 0 ∧ byteOf v 3 = 0 := by
  rw [← bytes_append_high, append_eq_zero_iff, and_comm]

theorem eq_zero_iff_halves : v = 0 ↔ halfOf v 0 = 0 ∧ halfOf v 1 = 0 := by
  rw [and_comm, ← append_eq_zero_iff, halves_append]

/-- R414: in bytes. -/
theorem swapHalves_eq_bytes : swapHalves v = byteOf v 1 ++ byteOf v 0 ++ byteOf v 3 ++ byteOf v 2 := by
  rw [swapHalves, ← bytes_append_low, ← bytes_append_high, BitVec.append_assoc', BitVec.cast_eq]

/-- R406: exchanging the bytes of the low halfword keeps 0. -/
theorem halfOf_zero_swapHalfBytes_eq_zero_iff : halfOf (swapHalfBytes v) 0 = 0 ↔ byteOf v 0 = 0 ∧ byteOf v 1 = 0 := by
  rw [halfOf_zero_eq_zero_iff, swapHalfBytes, byteOf_append_zero, byteOf_append_one, and_comm]

/-- R407: reversing the bytes keeps 0. -/
theorem swapBytes_eq_zero_iff : swapBytes v = 0 ↔ v = 0 := by
  simp only [eq_zero_iff_halves, halfOf_zero_eq_zero_iff, halfOf_one_eq_zero_iff, swapBytes, byteOf_append_zero,
    byteOf_append_one, byteOf_append_two, byteOf_append_three]
  tauto

@[simp] theorem halfOf_zero_swapHalves : halfOf (swapHalves v) 0 = halfOf v 1 := BitVec.extractLsb'_append_eq_right
@[simp] theorem halfOf_one_swapHalves : halfOf (swapHalves v) 1 = halfOf v 0 := BitVec.extractLsb'_append_eq_left

/-- R414: exchanging the halfwords keeps 0. -/
theorem swapHalves_eq_zero_iff : swapHalves v = 0 ↔ v = 0 := by
  rw [eq_zero_iff_halves, halfOf_zero_swapHalves, halfOf_one_swapHalves, eq_zero_iff_halves v, and_comm]

end

/-! ## Results with flags -/

section
variable {i : Instr} {s : State} {dst : Reg} {len : Nat}

/-- `State.arith`, with the flags `f` of the model given as the conditions of the rule. -/
theorem GivesFlags.of_arith {r : Word} {f : Flags} {cy ov sf zf : Prop} (h : exec i s = s.arith dst (r, f) len)
    (hcy : f.cy = true ↔ cy) (hov : f.ov = true ↔ ov) (hsf : f.s = true ↔ sf) (hzf : f.z = true ↔ zf) :
    GivesFlags i s len dst r cy ov sf zf := by
  refine State.arith_completes h fun t holds tcy tov tsf tzf => ⟨holds, ?_⟩
  rw [State.FlagsAre, tcy, tov, tsf, tzf]
  exact ⟨hcy, hov, hsf, hzf⟩

theorem signFlag_eq_true_iff (r : Word) : signFlag r = true ↔ r.toInt < 0 := by
  rw [signFlag, BitVec.msb_eq_toInt, decide_eq_true_eq]

/-- R406, R407, R413, R414: OV is 0 and S that of the result, which the rule writes as `r`. -/
theorem GivesFlags.of_swap {w r : Word} {c z : Bool} {cy zf : Prop}
    (h : exec i s = s.arith dst (w, ⟨c, false, signFlag w, z⟩) len) (hw : w = r) (hcy : c = true ↔ cy) (hzf : z = true ↔ zf) :
    GivesFlags i s len dst r cy False (r.toInt < 0) zf :=
  hw ▸ .of_arith h hcy Bool.false_eq_true.to_iff (signFlag_eq_true_iff w) hzf

/-! ## Bit searches -/

/-- R425 to R428: the first position found. -/
theorem searchResult_of_first {found : Nat → Bool} {k : Nat} (hk : k < 32) (here : found k = true)
    (before : ∀ j, j < k → found j = false) :
    searchResult found = (BitVec.ofNat 32 (k + 1), ⟨k == 31, false, false, false⟩) := by
  have first : (List.range 32).find? found = some k :=
    List.find?_range_eq_some.mpr ⟨here, List.mem_range.mpr hk, fun j hj => by rw [before j hj, Bool.not_false]⟩
  rw [searchResult, first]

/-- R425 to R428: nothing found. -/
theorem searchResult_of_none {found : Nat → Bool} (nowhere : ∀ k, k < 32 → found k = false) :
    searchResult found = (0, ⟨false, false, false, true⟩) := by
  have nothing : (List.range 32).find? found = none :=
    List.find?_range_eq_none.mpr fun k hk => by rw [nowhere k hk, Bool.not_false]
  rw [searchResult, nothing]

/-- R425 to R428: a search of the model, with the positions it finds given as the rule's `bit`. -/
theorem search_gives_first {found : Nat → Bool} {bit : Nat → Prop} (h : exec i s = s.arith dst (searchResult found) len)
    (hbit : ∀ k, found k = true ↔ bit k) :
    (∀ k, k < 32 → bit k → (∀ j, j < k → ¬ bit j) →
        GivesFlags i s len dst (.ofNat 32 (k + 1)) (k = 31) False False False) ∧
      ((∀ k, k < 32 → ¬ bit k) → GivesFlags i s len dst 0 False False False True) := by
  have absent {k : Nat} (hk : ¬ bit k) : found k = false := Bool.eq_false_iff.mpr fun hf => hk ((hbit k).mp hf)
  constructor
  · intro k hk here before
    rw [searchResult_of_first hk ((hbit k).mpr here) fun j hj => absent (before j hj)] at h
    exact .of_arith h beq_iff_eq Bool.false_eq_true.to_iff Bool.false_eq_true.to_iff Bool.false_eq_true.to_iff
  · intro nowhere
    rw [searchResult_of_none fun k hk => absent (nowhere k hk)] at h
    exact .of_arith h Bool.false_eq_true.to_iff Bool.false_eq_true.to_iff Bool.false_eq_true.to_iff (iff_true_intro rfl)

end

end Sys2Proof.Machine

open Sys2Proof.Machine

/-- Settles O8: each swap is `State.arith` with flags read off the bytes of its result, each search the first position found. -/
theorem swapsAndSearchesFollowTheBits : Obligations.SwapsAndSearchesFollowTheBits := by
  constructor
  · intro s reg2 reg3 b swaps
    refine ⟨?bsh, ?bsw, ?hsh, ?hsw⟩
    case bsh =>
      refine .of_swap rfl rfl ?_ (beq_iff_eq.trans (halfOf_zero_swapHalfBytes_eq_zero_iff _))
      simp only [Bool.or_eq_true, beq_iff_eq, swapHalfBytes, byteOf_append_zero, byteOf_append_one]
      exact Iff.rfl
    case bsw =>
      refine .of_swap rfl rfl ?_ (beq_iff_eq.trans (swapBytes_eq_zero_iff _))
      simp only [Bool.or_eq_true, beq_iff_eq, swapBytes, byteOf_append_zero, byteOf_append_one, byteOf_append_two,
        byteOf_append_three, or_assoc]
      exact Iff.rfl
    case hsh =>
      have lowHalfZero := (beq_iff_eq (a := halfOf (s.reg reg2) 0)).trans (halfOf_zero_eq_zero_iff _)
      exact .of_swap rfl rfl lowHalfZero lowHalfZero
    case hsw =>
      refine .of_swap rfl (swapHalves_eq_bytes _) ?_ (beq_iff_eq.trans (swapHalves_eq_zero_iff _))
      rw [Bool.or_eq_true, beq_iff_eq, beq_iff_eq, halfOf_one_swapHalves, halfOf_zero_swapHalves]
      exact or_congr (halfOf_zero_eq_zero_iff _) (halfOf_one_eq_zero_iff _)
  · intro s reg2 reg3 finds v
    refine ⟨?sch0l, ?sch0r, ?sch1l, ?sch1r⟩
    case sch0l | sch0r => exact search_gives_first rfl fun k => (Bool.not_eq_true' _).to_iff
    case sch1l | sch1r => exact search_gives_first rfl fun k => Iff.rfl

end

section
/-!
PROOFS. Everything that an instruction can do, once for all 327 of them: what it does to the program's own state, to PSW, to a system
register that LDSR reaches, with supervisor privilege to the rest, and by an exception. The statements on every step follow.
-/

namespace Sys2Proof.Machine

/-! ## The program's own state -/

/-- `t` is `s` with other registers of the program: the general and vector registers, the link, the standby state, CTPC, CTPSW and the
floating-point status; the pc stays even and memory in its canonical form. -/
structure State.Runs (s t : State) : Prop where
  state : t = { s with
    gpr := t.gpr, pc := t.pc, wr := t.wr, link := t.link, halt := t.halt, mem := t.mem, out := t.out, free := t.free
    sys := { s.sys with
      ctpc := t.sys.ctpc, ctpsw := t.sys.ctpsw, fpsr := t.sys.fpsr, fpepc := t.sys.fpepc, fxsr := t.sys.fxsr
      fxxc := t.sys.fxxc, fxxp := t.sys.fxxp } }
  even : s.pcEven → t.pcEven
  canonical : s.memWf → t.memWf

section
variable {s t u : State}

theorem State.Runs.refl (s : State) : s.Runs s := ⟨rfl, id, id⟩

theorem State.Runs.trans (h : s.Runs t) (k : t.Runs u) : s.Runs u :=
  ⟨by rw [k.state, h.state], fun e => k.even (h.even e), fun e => k.canonical (h.canonical e)⟩

theorem evenPc_even (a : Word) {s : State} (h : s.pc = evenPc a) : s.pcEven := by
  rw [State.pcEven, h, evenPc_getLsbD_zero]

theorem State.Runs.advance (h : s.Runs u) (n : Nat) : s.Runs (u.advance n) :=
  h.trans ⟨rfl, fun _ => evenPc_even _ rfl, id⟩

theorem State.Runs.jump (h : s.Runs u) (a : Word) : s.Runs (u.jump a) :=
  h.trans ⟨rfl, fun _ => evenPc_even _ rfl, id⟩

theorem State.Runs.setReg (h : s.Runs u) (r : Reg) (v : Word) : s.Runs (u.setReg r v) := by
  refine h.trans ?_
  unfold State.setReg
  split
  · exact .refl u
  · exact ⟨rfl, id, id⟩

theorem State.Runs.setRegPair (h : s.Runs u) (p : RegPair) (v : DWord) : s.Runs (u.setRegPair p v) :=
  (h.setReg _ _).setReg _ _

theorem State.Runs.setVreg (h : s.Runs u) (r : VReg) (v : QWord) : s.Runs (u.setVreg r v) := h.trans ⟨rfl, id, id⟩

theorem State.Runs.skipFree (h : s.Runs u) (n : Nat) : s.Runs (u.skipFree n) := h.trans ⟨rfl, id, id⟩

theorem State.Runs.emit (h : s.Runs u) (e : Event) : s.Runs (u.emit e) := h.trans ⟨rfl, id, id⟩

theorem State.Runs.out (h : s.Runs u) (es : List Event) : s.Runs { u with out := es } := h.trans ⟨rfl, id, id⟩

theorem State.Runs.dropLink (h : s.Runs u) : s.Runs u.dropLink := h.trans ⟨rfl, id, id⟩

theorem State.Runs.setFpsr (h : s.Runs u) (w : Word) : s.Runs (u.setFpsr w) := h.trans ⟨rfl, id, id⟩

theorem State.Runs.writeByte (h : s.Runs u) (a : Word) (v : Byte) : s.Runs (u.writeByte a v) :=
  h.trans ⟨rfl, id, fun e => State.memWf_writeByte _ e _ _⟩

theorem State.Runs.writeHalf (h : s.Runs u) (a : Word) (v : Half) : s.Runs (u.writeHalf a v) := (h.writeByte _ _).writeByte _ _

theorem State.Runs.writeWord (h : s.Runs u) (a v : Word) : s.Runs (u.writeWord a v) := (h.writeHalf _ _).writeHalf _ _

theorem State.Runs.writeDWord (h : s.Runs u) (a : Word) (v : DWord) : s.Runs (u.writeDWord a v) :=
  (h.writeWord _ _).writeWord _ _

theorem State.Runs.writeQWord (h : s.Runs u) (a : Word) (v : QWord) : s.Runs (u.writeQWord a v) :=
  (h.writeDWord _ _).writeDWord _ _

theorem State.Runs.storeValue (h : s.Runs u) (a : Word) (z : Size) (v : Word) : s.Runs (u.storeValue a z v) := by
  cases z
  · exact h.writeByte _ _
  · exact h.writeHalf _ _
  · exact h.writeWord _ _

theorem State.Runs.fpPut (h : s.Runs u) (o : FpOperand) (v : DWord) : s.Runs (u.fpPut o v) := by
  cases o
  · exact h.setReg _ _
  · exact h.setRegPair _ _

theorem State.Runs.breakLink (h : s.Runs u) (a : Word) (n : Nat) : s.Runs (u.breakLink a n) := by
  unfold State.breakLink
  split
  · exact h.dropLink
  · exact h

theorem State.Runs.um (h : s.Runs t) : t.um = s.um := by rw [h.state]; rfl
theorem State.Runs.mode (h : s.Runs t) : t.mode = s.mode := by rw [h.state]; rfl
theorem State.Runs.ctx (h : s.Runs t) (m : Mode) : t.ctx m = s.ctx m := by rw [h.state]; rfl

end

/-! ## What an instruction does without an exception -/

/-- What supervisor privilege adds: the return from an exception, a write to any system register or MPU entry, the values that CILDI
and RESBANK leave. -/
inductive State.Privileged (s : State) : State → Prop
  | returns (l : Level) : s.Privileged (s.returnException l)
  | writes (r : SReg) (v : Word) : s.Privileged (s.writeSr r v)
  | entry (e : Nat) (r : EntryReg) (v : Word) : s.Privileged (s.writeEntry e r v)
  | cache : s.Privileged s.freeCacheRegs
  | bank (n : Word) : s.Privileged { s with sys := { s.sys with rbnr := n } }

/-- What an instruction does without an exception. -/
inductive State.Does (s : State) : State → Prop
  | start : s.Does s
  | runs {u t : State} : s.Does u → u.Runs t → s.Does t
  | flags {u : State} (w : Word) : s.Does u → w &&& ~~~0x1F = u.psw &&& ~~~0x1F → s.Does (u.setPsw w)
  | interruptMask {u : State} (b : Bool) : s.Does u → s.um = false ∨ s.sys.mctl.getLsbD 0 = true → s.Does (u.setPsw (putBit u.psw 5 b))
  | ldsr {u : State} (regID selID : BitVec 5) (r : SReg) (v : Word) : s.Does u → u.srAccess regID selID true = .reg r →
      s.Does (u.ldsrWrite r v)
  | privileged {u t : State} : s.um = false → s.Does u → u.Privileged t → s.Does t

/-- The entry of an exception from `u`, with MEA and MEI written first or not; guest mode handles none that host mode raises. -/
def State.Excepts (u t : State) : Prop :=
  ∃ (l : Level) (cause offset retpc : Word) (hm : Mode), (hm = .guest → u.mode = .guest) ∧
    ∃ v, (v = u ∨ ∃ mea mei, v = u.setMea hm mea mei) ∧ t = v.takeException l cause offset retpc hm true

/-- What an instruction has done where it raises an exception: nothing to a system register in user mode. -/
def State.Before (s u : State) : Prop := s.Runs u ∨ (s.um = false ∧ s.Does u)

/-- What an instruction does: its effect, or an exception after a part of it. -/
inductive State.Answers (s : State) : State → Prop
  | does {t : State} : s.Does t → s.Answers t
  | excepts {u v t : State} : s.Before u → u.Excepts v → v.Runs t → s.Answers t

/-- The outcome is a next state, and `P` of it. -/
def Gives (o : Out) (P : State → Prop) : Prop := ∃ t, o = .next t ∧ P t

section
variable {s u t : State} {k : Out}

theorem Gives.next {P : State → Prop} (h : P t) : Gives (.next t) P := ⟨t, rfl, h⟩

theorem State.Runs.does (h : s.Runs t) : s.Does t := .runs .start h

theorem Gives.runs (h : s.Runs t) : Gives (.next t) s.Answers := .next (.does h.does)

theorem Gives.does (h : s.Does t) : Gives (.next t) s.Answers := .next (.does h)

theorem State.Before.refl (s : State) : s.Before s := .inl (.refl s)

theorem State.Before.does (h : s.Before u) : s.Does u := h.elim State.Runs.does And.right

theorem State.Before.runs (h : s.Before u) (k : u.Runs t) : s.Before t :=
  h.imp (fun r => r.trans k) fun d => ⟨d.1, .runs d.2 k⟩

/-- A report to the environment is nothing that matters. -/
theorem State.Answers.out (h : s.Answers t) (es : List Event) : s.Answers { t with out := es } := by
  cases h with
  | does d => exact .does (.runs d ((State.Runs.refl t).out es))
  | excepts b e r => exact .excepts b e (r.out es)

theorem Gives.noteDevice (h : Gives k s.Answers) (a : Word) (n : Nat) (ks : List AccessKind) :
    Gives (u.noteDevice a n ks k) s.Answers := by
  obtain ⟨t, rfl, ht⟩ := h
  obtain ⟨es, -, e⟩ := State.noteDevice_reports (s := u) (a := a) (n := n) (ks := ks) (u := t)
  exact ⟨_, e, ht.out _⟩

/-! ### Exceptions -/

theorem Gives.raise (h : s.Before u) (l : Level) (cause offset : Word) {hm : Mode} (hg : hm = .guest → u.mode = .guest) :
    Gives (u.raise l cause offset hm) s.Answers :=
  .next (.excepts h ⟨l, cause, offset, u.pc, hm, hg, u, .inl rfl, rfl⟩ ((State.Runs.refl _).emit _))

theorem Gives.raiseMea (h : s.Before u) (l : Level) (cause offset mea mei : Word) {hm : Mode} (hg : hm = .guest → u.mode = .guest) :
    Gives ((u.setMea hm mea mei).raise l cause offset hm) s.Answers :=
  .next (.excepts h ⟨l, cause, offset, _, hm, hg, _, .inr ⟨mea, mei, rfl⟩, rfl⟩ ((State.Runs.refl _).emit _))

theorem Gives.raisePending (h : s.Before u) (l : Level) (cause offset retpc : Word) {hm : Mode} (hg : hm = .guest → u.mode = .guest) :
    Gives (u.raisePending l cause offset retpc hm) s.Answers :=
  .next (.excepts h ⟨l, cause, offset, retpc, hm, hg, u, .inl rfl, rfl⟩ ((State.Runs.refl _).emit _))

theorem Gives.raiseRie (h : s.Before u) : Gives u.raiseRie s.Answers := .raise h _ _ _ id
theorem Gives.raisePie (h : s.Before u) : Gives u.raisePie s.Answers := .raise h _ _ _ id
theorem Gives.raiseUcpop (h : s.Before u) (n : Word) : Gives (u.raiseUcpop n) s.Answers := .raise h _ _ _ id
theorem Gives.raiseFxe (h : s.Before u) : Gives u.raiseFxe s.Answers := .raise h _ _ _ id

theorem Gives.raiseFpe (h : s.Before u) : Gives u.raiseFpe s.Answers :=
  .raise (h.runs (t := { u with sys := { u.sys with fpepc := evenPc u.pc } }) ⟨rfl, id, id⟩) _ _ _ id

theorem State.syserrHandler_guest {m : Mode} (h : s.syserrHandler m = .guest) : m = .guest := by
  cases m
  · cases h
  · rfl

theorem State.mpuHandler_guest {m : Mode} {l : Layer} (h : s.mpuHandler m l = .guest) : m = .guest := by
  cases m
  · cases h
  · rfl

theorem Gives.raiseSyserr (h : s.Before u) (cause : Word) : Gives (u.raiseSyserr cause) s.Answers :=
  .raise h _ _ _ State.syserrHandler_guest

theorem Gives.raiseMdp (h : s.Before u) (x : Access) (l : Layer) (user : Bool) : Gives (u.raiseMdp x l user) s.Answers :=
  .raiseMea h _ _ _ _ _ State.mpuHandler_guest

theorem Gives.raiseMae (h : s.Before u) (x : Access) : Gives (u.raiseMae x) s.Answers := .raiseMea h _ _ _ _ _ id

/-! ### Guards -/

theorem Gives.checked (h : s.Before u) (x : Access) (user : Bool) (hk : Gives k s.Answers) : Gives (u.checked x user k) s.Answers := by
  unfold State.checked State.denied State.reservedStop
  by_cases aligned : (x.aligned && misaligned x.adr x.size) = true
  · simpa only [aligned, if_true] using .raiseMae h x
  · rw [if_neg aligned]
    cases u.mpuViolation u.mode x.adr.toNat (x.adr.toNat + x.size - 1) x.kinds user with
    | some l => exact .raiseMdp h x l user
    | none =>
      by_cases reserved : u.prod.touches .reserved x.adr x.size = true
      · simpa only [reserved, if_true] using .raiseSyserr h _
      · simpa only [reserved, Bool.false_eq_true, if_false] using hk

theorem Gives.access (h : s.Before u) (x : Access) (hk : Gives k s.Answers) : Gives (u.access x k) s.Answers :=
  .checked h x _ (hk.noteDevice _ _ _)

theorem Gives.supervisor (hk : s.um = false → Gives k s.Answers) : Gives (s.supervisor k) s.Answers := by
  unfold State.supervisor
  split
  · exact .raisePie (.refl s)
  · next h => exact hk (by simpa using h)

theorem Gives.hypervisor (hk : s.um = false → Gives k s.Answers) : Gives (s.hypervisor k) s.Answers := by
  unfold State.hypervisor
  split
  · exact .raiseRie (.refl s)
  · split
    · next h =>
      simp only [State.isHv, Bool.and_eq_true, Bool.not_eq_true'] at h
      exact hk h.2
    · exact .raisePie (.refl s)

theorem Gives.withFpu (hk : Gives k s.Answers) : Gives (s.withFpu k) s.Answers := by
  unfold State.withFpu
  split
  · exact hk
  · exact .raiseUcpop (.refl s) _

theorem Gives.withFxu (hk : Gives k s.Answers) : Gives (s.withFxu k) s.Answers := by
  unfold State.withFxu
  split
  · exact hk
  · exact .raiseUcpop (.refl s) _

end

section
variable {s t u : State} {k : Out}

/-! ### Flags -/

theorem State.Does.advance (h : s.Does u) (n : Nat) : s.Does (u.advance n) := .runs h ((State.Runs.refl u).advance n)

theorem State.Does.jump (h : s.Does u) (a : Word) : s.Does (u.jump a) := .runs h ((State.Runs.refl u).jump a)

theorem State.Does.setFlags (h : s.Does u) (f : Flags) : s.Does (u.setFlags f) :=
  .flags _ h (masked_mono (putMasked_outside ..) (by decide))

theorem State.Does.setFlagsNoCy (h : s.Does u) (f : Flags) : s.Does (u.setFlagsNoCy f) :=
  .flags _ h (masked_mono (putMasked_outside ..) (by decide))

theorem State.Does.setZ (h : s.Does u) (z : Bool) : s.Does (u.setZ z) :=
  .flags _ h (masked_mono (putBit_outside _ 0 (by omega) _) (by decide))

theorem State.Does.setSat (h : s.Does u) (b : Bool) : s.Does (u.setSat b) := by
  refine .flags _ h ?_
  cases b
  · rfl
  · exact masked_mono (m := 0x10) (putBit_outside _ 4 (by omega) true) (by decide)

/-! ### The shapes of the integer instructions -/

theorem Gives.arith (dst : Reg) (r : Word × Flags) (len : Nat) : Gives (s.arith dst r len) s.Answers :=
  .does ((((State.Runs.refl s).setReg _ _).does.setFlags _).advance _)

theorem Gives.logic (dst : Reg) (r : Word) (len : Nat) : Gives (s.logic dst r len) s.Answers :=
  .does ((((State.Runs.refl s).setReg _ _).does.setFlagsNoCy _).advance _)

theorem Gives.plain (dst : Reg) (r : Word) (len : Nat) : Gives (s.plain dst r len) s.Answers :=
  .runs (((State.Runs.refl s).setReg _ _).advance _)

theorem Gives.saturated (dst : Reg) (f : Flags) (r : Word) (len : Nat) : Gives (s.saturated dst f r len) s.Answers :=
  .does (((((State.Runs.refl s).setReg _ _).does.setFlags _).setSat _).advance _)

theorem Gives.satAdd (dst : Reg) (a b : Word) (len : Nat) : Gives (s.satAdd dst a b len) s.Answers := .saturated _ _ _ _

theorem Gives.satSub (dst : Reg) (a b : Word) (len : Nat) : Gives (s.satSub dst a b len) s.Answers := .saturated _ _ _ _

/-- The quotient, where there is one. -/
theorem State.Runs.quotient (h : s.Runs u) (r : Reg) (q : Option Word) :
    s.Runs (match q with | some v => u.setReg r v | none => u) := by
  cases q
  · exact h
  · exact h.setReg _ _

theorem Gives.divide1 (q : Reg) (d : Division) (len : Nat) : Gives (s.divide1 q d len) s.Answers :=
  .does ((((State.Runs.refl s).quotient _ _).does.setFlagsNoCy _).advance _)

theorem Gives.divide2 (q r : Reg) (d : Division) : Gives (s.divide2 q r d) s.Answers := by
  have stored := (((State.Runs.refl s).quotient q d.quotient).setReg r d.remainder).does
  unfold State.divide2
  dsimp only
  by_cases same : q = r
  · rw [if_pos same]
    exact .does ((State.Does.runs (stored.setFlagsNoCy _) ((State.Runs.refl _).skipFree _)).advance _)
  · rw [if_neg same]
    exact .does ((stored.setFlagsNoCy _).advance _)

theorem Gives.product (lo hi : Reg) (p : DWord) : Gives (s.product lo hi p) s.Answers :=
  .runs ((((State.Runs.refl s).setReg _ _).setReg _ _).advance _)

theorem Gives.pair (p : RegPair) (v : DWord) (len : Nat) : Gives (.next ((s.setRegPair p v).advance len)) s.Answers :=
  .runs (((State.Runs.refl s).setRegPair _ _).advance _)

theorem Gives.bins (msb lsb : Nat) (reg1 reg2 : Reg) : Gives (s.bins msb lsb reg1 reg2) s.Answers := by
  unfold State.bins
  split
  · exact .does ((State.Does.runs (((State.Runs.refl s).setReg _ _).does.setFlagsNoCy _) ((State.Runs.refl _).skipFree _)).advance _)
  · exact .logic _ _ _

theorem Gives.clip (dst : Reg) (v : Word) (f : Flags) (sat : Bool) :
    Gives (.next ((((s.setReg dst v).setFlags f).setSat sat).advance 4)) s.Answers :=
  .does (((((State.Runs.refl s).setReg _ _).does.setFlags _).setSat _).advance _)

theorem Gives.clipSigned (lo hi : Int) (a b : Reg) : Gives (s.clipSigned lo hi a b) s.Answers := .clip _ _ _ _

theorem Gives.clipUnsigned (hi : Nat) (a b : Reg) : Gives (s.clipUnsigned hi a b) s.Answers := .clip _ _ _ _

theorem Gives.advance (n : Nat) : Gives (.next (s.advance n)) s.Answers := .runs ((State.Runs.refl s).advance n)

theorem Gives.jump (a : Word) : Gives (.next (s.jump a)) s.Answers := .runs ((State.Runs.refl s).jump a)

theorem Gives.link (r : Reg) (v a : Word) : Gives (.next ((s.setReg r v).jump a)) s.Answers :=
  .runs (((State.Runs.refl s).setReg _ _).jump a)

theorem Gives.branch (c : Bool) (a : Word) (n : Nat) :
    Gives (if c then .next (s.jump a) else .next (s.advance n)) s.Answers := by
  split
  · exact .jump a
  · exact .advance n

theorem Gives.loop (d : BitVec 15) (r : Reg) : Gives (execLoop d r s) s.Answers := by
  have counted := ((State.Runs.refl s).setReg r (addF (s.reg r) 0xFFFFFFFF false).1).does.setFlags
    (addF (s.reg r) 0xFFFFFFFF false).2
  unfold execLoop
  dsimp only
  split
  · exact .does (counted.advance _)
  · exact .does (counted.jump _)

/-! ### Bits, loads and stores -/

theorem Gives.accessed (x : Access) (hk : Gives k s.Answers) : Gives (s.access x k) s.Answers := .access (.refl s) x hk

theorem Gives.modifyBit (a : Word) (n : Nat) (f : Bool → Bool) : Gives (s.modifyBit a n f) s.Answers :=
  .accessed _ (.does ((State.Does.runs (State.Does.start.setZ _) ((State.Runs.refl _).writeByte _ _)).advance _))

theorem Gives.testBit (a : Word) (n : Nat) : Gives (s.testBit a n) s.Answers :=
  .accessed _ (.does ((State.Does.start.setZ _).advance _))

/-- The base register's new value, where the form has one. -/
theorem State.Runs.update (h : s.Runs u) (b : Option (Reg × Word)) :
    s.Runs (match b with | some (r, v) => u.setReg r v | none => u) := by
  cases b
  · exact h
  · exact h.setReg _ _

theorem Gives.loadTo (x : Access) (z : Size) (zero : Bool) (dst : Reg) (b : Option (Reg × Word)) (len : Nat) :
    Gives (s.loadTo x z zero dst b len) s.Answers :=
  .accessed _ (.runs ((((State.Runs.refl s).setReg _ _).update b).advance _))

theorem Gives.storeFrom (x : Access) (z : Size) (src : Reg) (b : Option (Reg × Word)) (len : Nat) :
    Gives (s.storeFrom x z src b len) s.Answers :=
  .accessed _ (.runs ((((State.Runs.refl s).storeValue _ _ _).update b).advance _))

theorem Gives.load16 (z : Size) (zero : Bool) (r : Reg) (d : BitVec 16) (dst : Reg) : Gives (s.load16 z zero r d dst) s.Answers :=
  .loadTo _ _ _ _ _ _

theorem Gives.load23 (z : Size) (zero : Bool) (r : Reg) (d : BitVec 23) (dst : Reg) : Gives (s.load23 z zero r d dst) s.Answers :=
  .loadTo _ _ _ _ _ _

theorem Gives.loadInc (z : Size) (zero : Bool) (r dst : Reg) : Gives (s.loadInc z zero r dst) s.Answers := .loadTo _ _ _ _ _ _

theorem Gives.loadDec (z : Size) (zero : Bool) (r dst : Reg) : Gives (s.loadDec z zero r dst) s.Answers := .loadTo _ _ _ _ _ _

theorem Gives.loadEp (z : Size) (zero : Bool) (d : BitVec 8) (dst : Reg) : Gives (s.loadEp z zero d dst) s.Answers :=
  .loadTo _ _ _ _ _ _

theorem Gives.store16 (z : Size) (r : Reg) (d : BitVec 16) (src : Reg) : Gives (s.store16 z r d src) s.Answers :=
  .storeFrom _ _ _ _ _

theorem Gives.store23 (z : Size) (r : Reg) (d : BitVec 23) (src : Reg) : Gives (s.store23 z r d src) s.Answers :=
  .storeFrom _ _ _ _ _

theorem Gives.storeInc (z : Size) (r src : Reg) : Gives (s.storeInc z r src) s.Answers := .storeFrom _ _ _ _ _

theorem Gives.storeDec (z : Size) (r src : Reg) : Gives (s.storeDec z r src) s.Answers := .storeFrom _ _ _ _ _

theorem Gives.storeEp (z : Size) (d : BitVec 8) (src : Reg) : Gives (s.storeEp z d src) s.Answers := .storeFrom _ _ _ _ _

theorem Gives.loadPair (x : Access) (p : RegPair) (v : DWord) (n : Nat) :
    Gives (s.access x (.next ((s.setRegPair p v).advance n))) s.Answers :=
  .accessed _ (.pair _ _ _)

theorem Gives.storePair (x : Access) (a : Word) (v : DWord) (n : Nat) :
    Gives (s.access x (.next ((s.writeDWord a v).advance n))) s.Answers :=
  .accessed _ (.runs (((State.Runs.refl s).writeDWord _ _).advance _))

theorem Gives.callt (n : BitVec 6) : Gives (execCallt n s) s.Answers :=
  .accessed _ (.runs (by refine State.Runs.jump ?_ _; exact ⟨rfl, id, id⟩))

theorem Gives.ctret : Gives (execCtret s) s.Answers :=
  .does ((State.Does.flags _ .start (putMasked_outside ..)).jump _)

theorem Gives.switch (r : Reg) : Gives (execSwitch r s) s.Answers := .accessed _ (.jump _)

theorem Gives.caxi (a b c : Reg) : Gives (execCaxi a b c s) s.Answers :=
  .accessed _ (.does (((((State.Runs.refl s).writeWord _ _).setReg _ _).does.setFlags _).advance _))

theorem Gives.loadLinked (z : Size) (a d : Reg) : Gives (s.loadLinked z a d) s.Answers := by
  refine .accessed _ (.runs (State.Runs.advance (((State.Runs.refl s).setReg d (s.loadValue (s.reg a) z (z != .word))).trans ?_) _))
  exact ⟨rfl, id, id⟩

theorem Gives.storeConditional (z : Size) (a d : Reg) : Gives (s.storeConditional z a d) s.Answers := by
  unfold State.storeConditional
  dsimp only
  split
  · exact .accessed _ (.runs (((((State.Runs.refl s).storeValue _ _ _).setReg _ _).dropLink).advance _))
  · exact .checked (.refl s) _ _ (.runs ((((State.Runs.refl s).setReg _ _).dropLink).advance _))

/-! ### Transfers of several words -/

theorem Gives.pushRegs {mei values : Reg → Word} {k : Word → State → Out} (hk : ∀ a v, s.Before v → Gives (k a v) s.Answers) :
    ∀ (rs : List Reg) (a : Word) (u : State), s.Before u → Gives (pushRegs mei values rs a u k) s.Answers
  | [], a, u, h => hk a u h
  | _ :: rs, _, u, h => .access h _ (Gives.pushRegs hk rs _ _ (h.runs ((State.Runs.refl u).writeWord _ _)))

theorem Gives.popRegs {mei : Reg → Word} {keep : Reg → Bool} {k : Word → State → Out}
    (hk : ∀ a v, s.Before v → Gives (k a v) s.Answers) :
    ∀ (rs : List Reg) (a : Word) (u : State), s.Before u → Gives (popRegs mei keep rs a u k) s.Answers
  | [], a, u, h => hk a u h
  | r :: rs, a, u, h => by
    refine .access h _ (Gives.popRegs hk rs _ _ ?_)
    split
    · exact h
    · exact h.runs ((State.Runs.refl u).setReg _ _)

theorem Gives.storeBlock {α : Type} {itype : BitVec 5} {get : State → α → Word} {k : State → Out}
    (hk : ∀ v, s.Before v → Gives (k v) s.Answers) :
    ∀ (xs : List α) (a : Word) (u : State), s.Before u → Gives (storeBlock itype get xs a u k) s.Answers
  | [], _, u, h => hk u h
  | _ :: xs, _, u, h => .access h _ (Gives.storeBlock hk xs _ _ (h.runs ((State.Runs.refl u).writeWord _ _)))

theorem Gives.loadBlock {α : Type} {itype : BitVec 5} {put : State → α → Word → State} {k : State → Out}
    (hput : ∀ v x w, s.Before v → s.Before (put v x w)) (hk : ∀ v, s.Before v → Gives (k v) s.Answers) :
    ∀ (xs : List α) (a : Word) (u : State), s.Before u → Gives (loadBlock itype put xs a u k) s.Answers
  | [], _, u, h => hk u h
  | x :: xs, _, u, h => .access h _ (Gives.loadBlock hput hk xs _ _ (hput u x _ h))

theorem State.Before.privileged (um : s.um = false) (h : s.Before u) (p : u.Privileged t) : s.Before t :=
  .inr ⟨um, .privileged um h.does p⟩

/-- The end of a transfer: some of the program's registers, and the pc. -/
theorem Gives.after {v : State} (h : s.Before v) (r : v.Runs t) : Gives (.next t) s.Answers := .does (.runs h.does r)

theorem Gives.prepare (l : BitVec 12) (n : BitVec 5) (len : Nat) (f : Option (Word → Word)) :
    Gives (s.prepare l n len f) s.Answers := by
  refine Gives.pushRegs (fun a v h => .after h (State.Runs.advance ?_ _)) _ _ _ (.refl s)
  cases f
  · exact (State.Runs.refl v).setReg _ _
  · exact ((State.Runs.refl v).setReg _ _).setReg _ _

theorem Gives.dispose (n : BitVec 5) (l : BitVec 12) {k : State → Out} (hk : ∀ v, s.Before v → Gives (k v) s.Answers) :
    Gives (s.dispose n l k) s.Answers :=
  Gives.popRegs (fun _ v h => hk _ (h.runs ((State.Runs.refl v).setReg _ _))) _ _ _ (.refl s)

theorem Gives.pushsp (a b : Reg) : Gives (execPushsp a b s) s.Answers :=
  Gives.pushRegs (fun _ v h => .after h (((State.Runs.refl v).setReg _ _).advance _)) _ _ _ (.refl s)

theorem Gives.popsp (a b : Reg) : Gives (execPopsp a b s) s.Answers :=
  Gives.popRegs (fun _ v h => .after h (((State.Runs.refl v).setReg _ _).advance _)) _ _ _ (.refl s)

theorem Gives.mpTransfer (hk : s.um = false → Gives k s.Answers) : Gives (s.mpTransfer k) s.Answers := by
  unfold State.mpTransfer
  split
  · exact .supervisor hk
  · exact .raiseRie (.refl s)

theorem Gives.ldmMp (a b : BitVec 5) (r : Reg) : Gives (execLdmMp a b r s) s.Answers :=
  .mpTransfer fun um => Gives.loadBlock (fun _ _ _ h => h.privileged um (.entry ..))
    (fun v h => .after h ((State.Runs.refl v).advance _)) _ _ _ (.refl s)

theorem Gives.stmMp (a b : BitVec 5) (r : Reg) : Gives (execStmMp a b r s) s.Answers :=
  .mpTransfer fun _ => Gives.storeBlock (fun v h => .after h ((State.Runs.refl v).advance _)) _ _ _ (.refl s)

theorem Gives.ldmGsr (r : Reg) : Gives (execLdmGsr r s) s.Answers :=
  .hypervisor fun um => Gives.loadBlock (fun _ _ _ h => h.privileged um (.writes ..))
    (fun v h => .after h ((State.Runs.refl v).advance _)) _ _ _ (.refl s)

theorem Gives.stmGsr (r : Reg) : Gives (execStmGsr r s) s.Answers :=
  .hypervisor fun _ => Gives.storeBlock (fun v h => .after h ((State.Runs.refl v).advance _)) _ _ _ (.refl s)

theorem State.Before.putBankItem (um : s.um = false) (h : s.Before u) (i : BankItem) (v : Word) :
    s.Before (putBankItem u i v) := by
  cases i with
  | gpr r =>
    simp only [Sys2Proof.Machine.putBankItem]
    split
    · exact h
    · exact h.runs ((State.Runs.refl u).setReg _ _)
  | sr r => exact h.privileged um (.writes ..)

theorem Gives.resbank : Gives (execResbank s) s.Answers := by
  refine .supervisor fun um => ?_
  split
  · exact .raiseSyserr (.refl s) _
  · refine Gives.loadBlock (fun _ i w h => h.putBankItem um i w) (fun v h => ?_) _ _ _ (.refl s)
    have popped := h.runs ((State.Runs.refl v).setReg sp s.bankSp)
    exact .does ((State.Does.interruptMask _ (popped.privileged um (.bank _)).does (.inl um)).advance _)

/-! ### System instructions -/

theorem Gives.writeId (b : Bool) : Gives (s.writeId b) s.Answers := by
  unfold State.writeId
  split
  · exact .raisePie (.refl s)
  · next h =>
    have may : s.um = false ∨ s.sys.mctl.getLsbD 0 = true := by
      simp only [Bool.and_eq_true, Bool.not_eq_true', not_and, Bool.not_eq_true] at h
      cases hm : s.sys.mctl.getLsbD 0 with
      | false => exact .inl (h hm)
      | true => exact .inr rfl
    exact .does ((State.Does.interruptMask _ .start may).advance _)

theorem Gives.returns (l : Level) : Gives (s.supervisor (.next (s.returnException l))) s.Answers :=
  .supervisor fun um => .does (.privileged um .start (.returns l))

theorem Gives.syscall (v : BitVec 8) : Gives (execSyscall v s) s.Answers :=
  .checked (.refl s) _ _ (.noteDevice (.next (.excepts (.refl s) ⟨_, _, _, _, s.mode, id, s, .inl rfl, rfl⟩
    (((State.Runs.refl _).jump _).emit _))) _ _ _)

theorem Gives.hvtrap (v : BitVec 5) : Gives (execHvtrap v s) s.Answers := by
  unfold execHvtrap
  split
  · exact .raiseRie (.refl s)
  · exact .supervisor fun _ => .raisePending (.refl s) _ _ _ _ nofun

theorem Gives.halt : Gives (execHalt s) s.Answers :=
  .supervisor fun _ => .runs (((State.Runs.refl s).advance 4).trans ⟨rfl, id, id⟩)

theorem Gives.snooze : Gives (execSnooze s) s.Answers := .runs (((State.Runs.refl s).advance 4).trans ⟨rfl, id, id⟩)

theorem Gives.ldsr (a b : BitVec 5) (r : Reg) : Gives (execLdsr a b r s) s.Answers := by
  unfold execLdsr
  split
  · next h => exact .does ((State.Does.ldsr _ _ _ _ .start h).advance _)
  · exact .advance _
  · exact .raisePie (.refl s)
  · exact .raiseUcpop (.refl s) _

theorem Gives.stsr (a b : BitVec 5) (r : Reg) : Gives (execStsr a b r s) s.Answers := by
  unfold execStsr
  split
  · exact .plain _ _ _
  · exact .runs ((((State.Runs.refl s).setReg _ _).skipFree _).advance _)
  · exact .raisePie (.refl s)
  · exact .raiseUcpop (.refl s) _

theorem State.mayCache_cildi (h : s.mayCache .cildi = true) : s.um = false := by
  unfold State.mayCache State.isHv at h
  cases hv : s.hve <;> simp_all

theorem Gives.cacheCheck (x : Access) (n : Nat) :
    Gives (match s.mpuViolation s.mode x.adr.toNat n x.kinds s.um with
      | some l => s.raiseMdp x l s.um
      | none => .next (s.advance 4)) s.Answers := by
  split
  · exact .raiseMdp (.refl s) _ _ _
  · exact .advance 4

theorem Gives.cache (c : BitVec 7) (r : Reg) : Gives (execCache c r s) s.Answers := by
  unfold execCache
  split
  · exact .advance 4
  · next op _ =>
    split
    · next may =>
      cases op with
      | chbii | cfali => exact .cacheCheck (cacheAccess (s.reg r)) _
      | cibii | cisti => exact .advance 4
      | cildi => exact .does ((State.Does.privileged (State.mayCache_cildi may) .start .cache).advance _)
      | cll => exact .runs (((State.Runs.refl s).dropLink).advance _)
    · exact .raisePie (.refl s)

/-! ### The floating-point units -/

theorem Gives.fpuFinish {r : FpRes} {write : State → State} (hw : ∀ v, s.Runs v → s.Runs (write v)) :
    Gives (s.fpuFinish r write) s.Answers := by
  unfold State.fpuFinish
  dsimp only
  split
  · exact .raiseFpe (.inl ((State.Runs.refl s).setFpsr _))
  · exact .runs ((hw _ ((State.Runs.refl s).setFpsr _)).advance _)

theorem Gives.fpuOp (dst : FpOperand) (f : Product → Word → FpRes) : Gives (s.fpuOp dst f) s.Answers :=
  .withFpu (.fpuFinish fun _ h => h.fpPut _ _)

theorem Gives.fpuArith (f : Fmt) (op : RMode → Fp → Fp → Cell) (a b c : FpOperand) : Gives (s.fpuArith f op a b c) s.Answers :=
  .fpuOp _ _

theorem Gives.fpuFma (sub neg : Bool) (a b c : Reg) : Gives (s.fpuFma sub neg a b c) s.Answers := .fpuOp _ _

theorem Gives.fpuToInt (f : Fmt) (m : Option RMode) (signed : Bool) (n : Nat) (a b : FpOperand) :
    Gives (s.fpuToInt f m signed n a b) s.Answers :=
  .fpuOp _ _

theorem Gives.fpuOfInt (f : Fmt) (v : Int) (a : FpOperand) : Gives (s.fpuOfInt f v a) s.Answers := .fpuOp _ _

theorem Gives.fpuToFp (f g : Fmt) (a b : FpOperand) : Gives (s.fpuToFp f g a b) s.Answers := .fpuOp _ _

theorem Gives.fpuMove (dst : FpOperand) (v : DWord) : Gives (s.fpuMove dst v) s.Answers :=
  .withFpu (.runs (((State.Runs.refl s).fpPut _ _).advance _))

theorem Gives.fpuMaxMin (f : Fmt) (l : Bool) (a b c : FpOperand) : Gives (s.fpuMaxMin f l a b c) s.Answers :=
  .withFpu (.fpuFinish fun _ h => (h.fpPut _ _).skipFree _)

theorem Gives.fpuCompare (f : Fmt) (c : BitVec 4) (n : BitVec 3) (a b : FpOperand) :
    Gives (s.fpuCompare f c n a b) s.Answers :=
  .withFpu (.fpuFinish fun _ h => h.setFpsr _)

theorem Gives.trfsr (n : BitVec 3) : Gives (execTrfsr n s) s.Answers :=
  .withFpu (.does ((State.Does.start.setZ _).advance _))

theorem Gives.fxuFinish {r : Nat → FpRes} {write : State → State} (hw : ∀ v, s.Runs v → s.Runs (write v)) :
    Gives (s.fxuFinish r write) s.Answers := by
  unfold State.fxuFinish
  dsimp only
  split
  · exact .raiseFxe (.inl ⟨rfl, id, id⟩)
  · refine .runs ((hw _ ?_).advance _)
    exact ⟨rfl, id, id⟩

theorem Gives.vec4 (w : VReg) (f : Product → Word → Nat → FpRes) : Gives (s.vec4 w f) s.Answers :=
  .withFxu (.fxuFinish fun _ h => h.setVreg _ _)

theorem Gives.vecMaxMin (l : Bool) (w : VReg) (x y : Nat → DWord) : Gives (s.vecMaxMin l w x y) s.Answers :=
  .withFxu (.fxuFinish fun _ h => (h.setVreg _ _).skipFree _)

theorem Gives.reduceMaxMin (l : Bool) (a b c : VReg) : Gives (s.reduceMaxMin l a b c) s.Answers := .vecMaxMin _ _ _ _

theorem Gives.vecArith (op : RMode → Fp → Fp → Cell) (a b c : VReg) : Gives (s.vecArith op a b c) s.Answers := .vec4 _ _

theorem Gives.vecFma (sub neg : Bool) (a b c : VReg) : Gives (s.vecFma sub neg a b c) s.Answers := .vec4 _ _

theorem Gives.vecToInt (m : Option RMode) (signed : Bool) (a b : VReg) : Gives (s.vecToInt m signed a b) s.Answers := .vec4 _ _

theorem Gives.mix4 (m : Pairing) (odd even : RMode → Fp → Fp → Cell) (neg : Bool) (a b c : VReg) :
    Gives (s.mix4 m odd even neg a b c) s.Answers :=
  .vec4 _ _

theorem Gives.cmpfS4 (c : BitVec 4) (a b d : VReg) : Gives (execCmpfS4 c a b d s) s.Answers :=
  .withFxu (.fxuFinish fun _ h => (h.setVreg _ _).skipFree _)

theorem Gives.fxuMove (w : VReg) (f : Nat → Word) (n : Nat) : Gives (s.fxuMove w f n) s.Answers :=
  .withFxu (.runs (((State.Runs.refl s).setVreg _ _).advance _))

theorem Gives.trfsrvW4 (n : BitVec 3) (w : VReg) : Gives (execTrfsrvW4 n w s) s.Answers :=
  .withFxu (.does ((State.Does.start.setZ _).advance _))

theorem Gives.vecLoad (x : Access) (w : VReg) (v : QWord) : Gives (s.vecLoad x w v) s.Answers :=
  .withFxu (.accessed _ (.runs (((State.Runs.refl s).setVreg _ _).advance _)))

theorem Gives.vecStore (x : Access) {write : State → State} (hw : s.Runs (write s)) : Gives (s.vecStore x write) s.Answers :=
  .withFxu (.accessed _ (.runs ((hw.breakLink _ _).advance _)))

theorem Gives.stvW (n : BitVec 2) (d : BitVec 14) (r : Reg) (w : VReg) : Gives (execStvW n d r w s) s.Answers := by
  dsimp only [execStvW]
  exact .vecStore _ ((State.Runs.refl s).writeWord _ _)

theorem Gives.stvDw (n : BitVec 1) (d : BitVec 13) (r : Reg) (w : VReg) : Gives (execStvDw n d r w s) s.Answers := by
  dsimp only [execStvDw]
  exact .vecStore _ ((State.Runs.refl s).writeDWord _ _)

theorem Gives.stvQw (d : BitVec 12) (r : Reg) (w : VReg) : Gives (execStvQw d r w s) s.Answers := by
  dsimp only [execStvQw]
  exact .vecStore _ ((State.Runs.refl s).writeQWord _ _)

theorem Gives.stvzH4 (d : BitVec 13) (r : Reg) (w : VReg) : Gives (execStvzH4 d r w s) s.Answers := by
  dsimp only [execStvzH4]
  exact .vecStore _ ((State.Runs.refl s).writeDWord _ _)

end

/-- Every instruction, in every state, has its effect or raises an exception. -/
theorem exec_answers (i : Instr) (s : State) : Gives (exec i s) s.Answers := by
  cases i
  all_goals
    delta exec
    dsimp only
  case addF1 | addF2 | addi | cmpF1 | cmpF2 | sub | subr | adf | sbf | bsh | bsw | hsh | hsw | rotlF1 | rotlF2 | sarF1 | sarF2 |
      sarF3 | shlF1 | shlF2 | shlF3 | shrF1 | shrF2 | shrF3 | sch0l | sch0r | sch1l | sch1r =>
    exact .arith _ _ _
  case movF1 | movF2 | movF3 | movea | movhi | mulhF1 | mulhF2 | mulhi | cmovF1 | cmovF2 | sasf | setf | sxb | sxh | zxb | zxh
      =>
    exact .plain _ _ _
  case and | andi | not | or | ori | tst | xor | xori =>
    exact .logic _ _ _
  case divhF1 =>
    exact .divide1 _ _ _
  case div | divhF2 | divhu | divq | divqu | divu =>
    exact .divide2 _ _ _
  case sataddF1 | sataddF2 | sataddF3 =>
    exact .satAdd _ _ _ _
  case satsubF1 | satsubF2 | satsubi | satsubr =>
    exact .satSub _ _ _ _
  case mulF1 | mulF2 | muluF1 | muluF2 =>
    exact .product _ _ _
  case mac | macu =>
    exact .pair _ _ _
  case bcondF1 | bcondF2 =>
    exact .branch _ _ _
  case jarlF1 | jarlF2 | jarlF3 =>
    exact .link _ _ _
  case jmpF1 | jmpF2 | jrF1 | jrF2 =>
    exact .jump _
  case loop =>
    exact .loop _ _
  case binsF1 | binsF2 | binsF3 =>
    exact .bins _ _ _ _
  case clipB | clipH =>
    exact .clipSigned _ _ _ _
  case clipBu | clipHu =>
    exact .clipUnsigned _ _ _
  case clr1F1 | clr1F2 | not1F1 | not1F2 | set1F1 | set1F2 =>
    exact .modifyBit _ _ _
  case tst1F1 | tst1F2 =>
    exact .testBit _ _
  case ldBF1 | ldBuF1 | ldHF1 | ldHuF1 | ldWF1 =>
    exact .load16 _ _ _ _ _
  case ldBF2 | ldBuF2 | ldHF2 | ldHuF2 | ldWF2 =>
    exact .load23 _ _ _ _ _
  case ldBF3 | ldBuF3 | ldHF3 | ldHuF3 | ldWF3 =>
    exact .loadInc _ _ _ _
  case ldBF4 | ldBuF4 | ldHF4 | ldHuF4 | ldWF4 =>
    exact .loadDec _ _ _ _
  case sldB | sldBu | sldH | sldHu | sldW =>
    exact .loadEp _ _ _ _
  case stBF1 | stHF1 | stWF1 =>
    exact .store16 _ _ _ _
  case stBF2 | stHF2 | stWF2 =>
    exact .store23 _ _ _ _
  case stBF3 | stHF3 | stWF3 =>
    exact .storeInc _ _ _
  case stBF4 | stHF4 | stWF4 =>
    exact .storeDec _ _ _
  case sstB | sstH | sstW =>
    exact .storeEp _ _ _
  case ldDw =>
    exact .loadPair _ _ _ _
  case stDw =>
    exact .storePair _ _ _ _
  case callt =>
    exact .callt _
  case ctret =>
    exact .ctret
  case switch =>
    exact .switch _
  case caxi =>
    exact .caxi _ _ _
  case prepareF1 | prepareF2a | prepareF2b | prepareF2c | prepareF2d =>
    exact .prepare _ _ _ _
  case disposeF1 =>
    exact .dispose _ _ fun v h => .after h ((State.Runs.refl v).advance _)
  case disposeF2 =>
    exact .dispose _ _ fun v h => .after h ((State.Runs.refl v).jump _)
  case pushsp =>
    exact .pushsp _ _
  case popsp =>
    exact .popsp _ _
  case cll =>
    exact .runs (((State.Runs.refl s).dropLink).advance _)
  case ldlBu | ldlHu | ldlW =>
    exact .loadLinked _ _ _
  case stcB | stcH | stcW =>
    exact .storeConditional _ _ _
  case nop | synce | synci | syncm | syncp | pref =>
    exact .advance _
  case rieF1 | rieF2 =>
    exact .raiseRie (.refl s)
  case di | ei =>
    exact .writeId _
  case eiret | feret =>
    exact .returns _
  case fetrap | trap =>
    exact .raisePending (.refl s) _ _ _ _ id
  case syscall =>
    exact .syscall _
  case hvtrap =>
    exact .hvtrap _
  case halt =>
    exact .halt
  case snooze =>
    exact .snooze
  case ldsr =>
    exact .ldsr _ _ _
  case stsr =>
    exact .stsr _ _ _
  case cache =>
    exact .cache _ _
  case ldmMp =>
    exact .ldmMp _ _ _
  case stmMp =>
    exact .stmMp _ _ _
  case ldmGsr =>
    exact .ldmGsr _
  case stmGsr =>
    exact .stmGsr _
  case resbank =>
    exact .resbank
  case absfD | absfS | negfD | negfS | cmovfD | cmovfS | cvtfUwd | cvtfWd =>
    exact .fpuMove _ _
  case sqrtfD | sqrtfS | recipfD | recipfS | rsqrtfD | rsqrtfS | cvtfHs =>
    exact .fpuOp _ _
  case addfD | addfS | subfD | subfS | mulfD | mulfS | divfD | divfS =>
    exact .fpuArith _ _ _ _ _
  case fmafS | fmsfS | fnmafS | fnmsfS =>
    exact .fpuFma _ _ _ _ _
  case ceilfDl | ceilfDul | ceilfDuw | ceilfDw | ceilfSl | ceilfSul | ceilfSuw | ceilfSw | floorfDl | floorfDul | floorfDuw |
      floorfDw | floorfSl | floorfSul | floorfSuw | floorfSw | roundfDl | roundfDul | roundfDuw | roundfDw | roundfSl | roundfSul |
      roundfSuw | roundfSw | trncfDl | trncfDul | trncfDuw | trncfDw | trncfSl | trncfSul | trncfSuw | trncfSw | cvtfDl | cvtfDul |
      cvtfDuw | cvtfDw | cvtfSl | cvtfSul | cvtfSuw | cvtfSw =>
    exact .fpuToInt _ _ _ _ _ _
  case cvtfDs | cvtfSd | cvtfSh =>
    exact .fpuToFp _ _ _ _
  case cvtfLd | cvtfLs | cvtfUld | cvtfUls | cvtfUws | cvtfWs =>
    exact .fpuOfInt _ _ _
  case maxfD | maxfS | minfD | minfS =>
    exact .fpuMaxMin _ _ _ _ _
  case cmpfD | cmpfS =>
    exact .fpuCompare _ _ _ _ _
  case trfsr =>
    exact .trfsr _
  case movvW4 | flpvS4 | shflvW4 | cmovfW4 | absfS4 | negfS4 =>
    exact .fxuMove _ _ _
  case ldvW | ldvDw | ldvQw | ldvzH4 =>
    exact .vecLoad _ _ _
  case stvW => exact .stvW _ _ _ _
  case stvDw => exact .stvDw _ _ _ _
  case stvQw => exact .stvQw _ _ _
  case stvzH4 => exact .stvzH4 _ _ _
  case trfsrvW4 =>
    exact .trfsrvW4 _ _
  case cmpfS4 =>
    exact .cmpfS4 _ _ _ _
  case sqrtfS4 | recipfS4 | rsqrtfS4 | cvtfWs4 | cvtfUws4 | cvtfHs4 | cvtfSh4 =>
    exact .vec4 _ _
  case addfS4 | subfS4 | mulfS4 | divfS4 =>
    exact .vecArith _ _ _ _
  case fmafS4 | fmsfS4 | fnmafS4 | fnmsfS4 =>
    exact .vecFma _ _ _ _ _
  case roundfSw4 | roundfSuw4 | trncfSw4 | trncfSuw4 | ceilfSw4 | ceilfSuw4 | floorfSw4 | floorfSuw4 | cvtfSw4 | cvtfSuw4 =>
    exact .vecToInt _ _ _ _
  case addsubfS4 | subaddfS4 | addsubnfS4 | subaddnfS4 | addxfS4 | subxfS4 | mulxfS4 | addsubxfS4 | subaddxfS4 | addsubnxfS4 |
      subaddnxfS4 | addrfS4 | subrfS4 | mulrfS4 =>
    exact .mix4 _ _ _ _ _ _ _
  case maxfS4 | minfS4 =>
    exact .vecMaxMin _ _ _ _
  case maxrfS4 | minrfS4 =>
    exact .reduceMaxMin _ _ _ _

end Sys2Proof.Machine
end

section
/-!
PROOFS. Every step answers a next state (O55) and keeps the invariants of the data: memory in its canonical form (O56), the pc even and
the mode registers legal (O57).
-/

namespace Sys2Proof.Machine

/-! ## What every part of a step keeps -/

/-- 10_state.md R22, 11_sysregs.md R84, R85, R103: the pc is even and the mode registers are legal. -/
def State.Legal (s : State) : Prop := s.pcEven ∧ s.hvcfgLegal ∧ s.pswhLegal

/-- `t` has the invariants that `s` has. -/
structure State.Keeps (s t : State) : Prop where
  canonical : s.memWf → t.memWf
  legal : s.Legal → t.Legal

section
variable {s t u : State}

theorem State.Keeps.refl (s : State) : s.Keeps s := ⟨id, id⟩

theorem State.Keeps.trans (h : s.Keeps t) (k : t.Keeps u) : s.Keeps u := ⟨k.canonical ∘ h.canonical, k.legal ∘ h.legal⟩

/-- The invariants read memory, the pc, the mode registers and the product alone. -/
theorem State.Keeps.same (mem : t.mem = s.mem) (pc : t.pc = s.pc) (hvcfg : t.sys.hvcfg = s.sys.hvcfg)
    (pswh : t.sys.pswh = s.sys.pswh) (eipswh : t.sys.eipswh = s.sys.eipswh) (fepswh : t.sys.fepswh = s.sys.fepswh)
    (prod : t.prod = s.prod) : s.Keeps t := by
  refine ⟨fun h => ?_, fun h => ?_⟩
  · simpa only [State.memWf, mem] using h
  · simpa only [State.Legal, State.pcEven, State.hvcfgLegal, State.hasHv, State.isMh2, State.pswhLegal, State.hve, pc, hvcfg, pswh,
      eipswh, fepswh, prod] using h

theorem State.Runs.keeps (h : s.Runs t) : s.Keeps t := by
  have sys := h.state
  refine ⟨h.canonical, fun ⟨pc, rest⟩ => ⟨h.even pc, ?_⟩⟩
  rw [sys]
  exact rest

/-- An update of the mode registers, HVE kept. -/
theorem State.Keeps.modes (mem : t.mem = s.mem) (pc : s.pcEven → t.pcEven) (hvcfg : t.sys.hvcfg = s.sys.hvcfg)
    (prod : t.prod = s.prod) (pswh : s.pswhLegal → t.pswhLegal) : s.Keeps t := by
  refine ⟨fun h => ?_, fun ⟨p, v, w⟩ => ⟨pc p, ?_, pswh w⟩⟩
  · simpa only [State.memWf, mem] using h
  · simpa only [State.hvcfgLegal, State.hasHv, State.isMh2, hvcfg, prod] using v

theorem State.Keeps.setCtx (m : Mode) (c : Ctx) : s.Keeps (s.setCtx m c) := by cases m <;> exact .same rfl rfl rfl rfl rfl rfl rfl

theorem State.Keeps.setPsw (w : Word) : s.Keeps (s.setPsw w) := .setCtx _ _

theorem State.Keeps.setMea (m : Mode) (a b : Word) : s.Keeps (s.setMea m a b) := .setCtx _ _

/-! ### System registers -/

/-- A masked value has no reserved bit. -/
theorem pswh_reserved (v : Word) : v &&& 0x80000700 &&& 0x7FFFF8FF = 0 := by
  rw [BitVec.and_assoc]
  simp

theorem pswh_reserved_gm {v : Word} (h : v &&& 0x7FFFF8FF = 0) : putBit v 31 false &&& 0x7FFFF8FF = 0 := by
  rw [putBit_gm, BitVec.and_assoc, show (0x7FFFFFFF &&& 0x7FFFF8FF : Word) = 0x7FFFF8FF from rfl, h]

theorem State.Keeps.writeHost (r : CtxReg) (v : Word) : s.Keeps (s.writeHost r v) := by
  cases r
  case spid | mpm =>
    simp only [State.writeHost]
    split <;> exact .same rfl rfl rfl rfl rfl rfl rfl
  all_goals exact .same rfl rfl rfl rfl rfl rfl rfl

theorem State.Keeps.writeGuestOwn (r : CtxReg) (v : Word) : s.Keeps (s.writeGuestOwn r v) := by
  cases r
  case spid | mpm =>
    simp only [State.writeGuestOwn]
    split <;> exact .same rfl rfl rfl rfl rfl rfl rfl
  all_goals exact .same rfl rfl rfl rfl rfl rfl rfl

theorem State.Keeps.writeGuestFromHost (r : CtxReg) (v : Word) : s.Keeps (s.writeGuestFromHost r v) := by
  cases r
  all_goals exact .same rfl rfl rfl rfl rfl rfl rfl

theorem State.Keeps.writeEntry (e : Nat) (r : EntryReg) (v : Word) : s.Keeps (s.writeEntry e r v) := by
  unfold State.writeEntry
  split
  · exact .same rfl rfl rfl rfl rfl rfl rfl
  · exact .refl s

/-- 11_sysregs.md R103, R71: HVE is set only where the function exists; PSWH is 0 after a change of HVE. -/
theorem State.Keeps.writeHvcfg (v : Word) : s.Keeps (s.writeHvcfg v) := by
  unfold State.writeHvcfg
  by_cases new : (s.hasHv && v.getLsbD 0) = true
  · have has : s.hasHv = true := by simp_all
    simp only [new, if_true]
    by_cases on : s.hve = true
    · simp only [on, if_true]
      refine ⟨id, fun ⟨pc, _, r, e, f, _⟩ => ⟨pc, .inr ⟨rfl, has⟩, r, e, f, ?_⟩⟩
      exact fun off => by simp [State.hve] at off
    · simp only [on, Bool.false_eq_true, if_false]
      refine ⟨id, fun ⟨pc, _, _⟩ => ⟨pc, .inr ⟨rfl, has⟩, ?_, pswh_reserved _, pswh_reserved _, fun _ => rfl⟩⟩
      simp [State.freeClassB]
  · simp only [new, Bool.false_eq_true, if_false]
    refine ⟨id, fun ⟨pc, _, _, e, f, _⟩ => ⟨pc, .inl rfl, ?_, e, f, fun _ => rfl⟩⟩
    simp

theorem State.Keeps.writeSr (r : SReg) (v : Word) : s.Keeps (s.writeSr r v) := by
  cases r
  case orig x =>
    simp only [State.writeSr]
    split
    · exact .writeHost _ _
    · exact .writeGuestOwn _ _
  case gm x => exact .writeGuestFromHost _ _
  case hvcfg => exact .writeHvcfg _
  case eipswh => exact .modes rfl id rfl rfl fun ⟨r, _, f, z⟩ => ⟨r, pswh_reserved _, f, z⟩
  case fepswh => exact .modes rfl id rfl rfl fun ⟨r, e, _, z⟩ => ⟨r, e, pswh_reserved _, z⟩
  case mpla | mpua | mpat => exact .writeEntry _ _ _
  case ispr | mpbk | mpid =>
    simp only [State.writeSr]
    split <;> exact .same rfl rfl rfl rfl rfl rfl rfl
  all_goals exact .same rfl rfl rfl rfl rfl rfl rfl

theorem State.Keeps.ldsrWrite (r : SReg) (v : Word) : s.Keeps (s.ldsrWrite r v) := by
  unfold State.ldsrWrite
  split
  · exact .setPsw _
  · exact .writeSr _ _

/-! ### Exceptions -/

/-- 11_sysregs.md R84, R85: PSWH saved and GM cleared. -/
theorem SysRegs.leaveGuest_reserved {y : SysRegs} (l : Level)
    (h : y.pswh &&& 0x7FFFF8FF = 0 ∧ y.eipswh &&& 0x7FFFF8FF = 0 ∧ y.fepswh &&& 0x7FFFF8FF = 0) :
    (y.leaveGuest l).pswh &&& 0x7FFFF8FF = 0 ∧ (y.leaveGuest l).eipswh &&& 0x7FFFF8FF = 0 ∧
      (y.leaveGuest l).fepswh &&& 0x7FFFF8FF = 0 := by
  obtain ⟨p, e, f⟩ := h
  cases l
  · exact ⟨pswh_reserved_gm p, p, f⟩
  · exact ⟨pswh_reserved_gm p, e, p⟩

theorem State.Keeps.saveContext (l : Level) (retpc : Word) (hm : Mode) (b : Bool) : s.Keeps (s.saveContext l retpc hm b) := by
  cases hm with
  | guest => exact .setCtx .guest _
  | host =>
    by_cases on : s.hve = true
    · have sys : (s.saveContext l retpc .host b).sys = s.sys.leaveGuest l := by simp [State.saveContext, on]
      refine .modes rfl id ?_ rfl fun ⟨p, e, f, _⟩ => ?_
      · rw [sys]
        cases l <;> rfl
      · obtain ⟨p', e', f'⟩ := SysRegs.leaveGuest_reserved l ⟨p, e, f⟩
        refine ⟨by rwa [sys], by rwa [sys], by rwa [sys], fun off => ?_⟩
        have : (s.saveContext l retpc .host b).hve = s.hve := by
          unfold State.hve
          rw [sys]
          cases l <;> rfl
        simp_all
    · have sys : (s.saveContext l retpc .host b).sys = s.sys := by simp [State.saveContext, on]
      exact .same rfl rfl (by rw [sys]) (by rw [sys]) (by rw [sys]) (by rw [sys]) rfl

theorem State.Keeps.takeException (l : Level) (cause offset retpc : Word) (hm : Mode) (b : Bool) :
    s.Keeps (s.takeException l cause offset retpc hm b) := by
  unfold State.takeException
  dsimp only
  refine (State.Keeps.saveContext l retpc hm b).trans ((State.Keeps.setCtx hm
    (((s.saveContext l retpc hm b).ctx hm).setCause l cause)).trans ?_)
  exact .modes rfl (fun _ => evenPc_even _ rfl) rfl rfl id

theorem State.Excepts.keeps (h : s.Excepts t) : s.Keeps t := by
  obtain ⟨l, cause, offset, retpc, hm, -, v, rfl | ⟨mea, mei, rfl⟩, rfl⟩ := h
  · exact .takeException ..
  · exact (State.Keeps.setMea hm mea mei).trans (.takeException ..)

/-- 60_exceptions.md R808: what a return does to PSWH: the saved one in host mode with HVE = 1. -/
theorem State.returnException_pswh (s : State) (l : Level) :
    (s.returnException l).sys.pswh =
      if (s.mode == .host && s.hve) = true then (match l with | .ei => s.sys.eipswh | .fe => s.sys.fepswh) &&& 0x80000700
      else s.sys.pswh := by
  cases l <;> (unfold State.returnException; dsimp only; split <;> simp)

theorem State.Keeps.returnException (l : Level) : s.Keeps (s.returnException l) := by
  have rest : (s.returnException l).mem = s.mem ∧ (s.returnException l).prod = s.prod ∧ (s.returnException l).pcEven ∧
      (s.returnException l).sys = { s.sys with
        pswh := (s.returnException l).sys.pswh, ispr := (s.returnException l).sys.ispr } := by
    unfold State.returnException
    dsimp only
    split <;> refine ⟨by simp, by simp, evenPc_even _ rfl, by simp⟩
  obtain ⟨mem, prod, pc, sys⟩ := rest
  refine .modes mem (fun _ => pc) (by rw [sys]) prod fun ⟨p, e, f, z⟩ => ?_
  have pswh := s.returnException_pswh l
  refine ⟨?_, by rwa [sys], by rwa [sys], fun off => ?_⟩
  · rw [pswh]
    split
    · exact pswh_reserved _
    · exact p
  · have off : s.hve = false := by
      unfold State.hve at off ⊢
      rwa [sys] at off
    rw [pswh, off]
    simpa using z off

/-! ### Instructions -/

theorem State.Privileged.keeps (h : s.Privileged t) : s.Keeps t := by
  cases h with
  | returns l => exact .returnException l
  | writes r v => exact .writeSr r v
  | entry e r v => exact .writeEntry e r v
  | cache => exact .same rfl rfl rfl rfl rfl rfl rfl
  | bank n => exact .same rfl rfl rfl rfl rfl rfl rfl

theorem State.Does.keeps (h : s.Does t) : s.Keeps t := by
  induction h with
  | start => exact .refl s
  | runs _ r ih => exact ih.trans r.keeps
  | flags w _ _ ih => exact ih.trans (.setPsw w)
  | interruptMask b _ _ ih => exact ih.trans (.setPsw _)
  | ldsr _ _ r v _ _ ih => exact ih.trans (.ldsrWrite r v)
  | privileged _ _ p ih => exact ih.trans p.keeps

theorem State.Answers.keeps (h : s.Answers t) : s.Keeps t := by
  cases h with
  | does d => exact d.keeps
  | excepts b e r => exact b.does.keeps.trans (e.keeps.trans r.keeps)

theorem Gives.mono {P Q : State → Prop} {o : Out} (h : Gives o P) (k : ∀ t, P t → Q t) : Gives o Q := by
  obtain ⟨t, e, p⟩ := h
  exact ⟨t, e, k t p⟩

/-! ### The fetch -/

theorem Gives.undefinedEncoding (w : Nat) : Gives (s.undefinedEncoding w) s.Answers := by
  unfold State.undefinedEncoding
  split
  · exact .withFpu (.raiseRie (.refl s))
  · exact .withFxu (.raiseRie (.refl s))
  · exact .raiseUcpop (.refl s) _
  · exact .raiseRie (.refl s)

theorem State.fetchStop_answers {o : Out} (h : s.fetchStop = some o) : Gives o s.Answers := by
  unfold State.fetchStop at h
  split at h
  · cases h
    exact .raiseMea (.refl s) _ _ _ _ _ State.mpuHandler_guest
  · split at h
    · cases h
      exact .raiseSyserr (.refl s) _
    · split at h <;> cases h <;> exact .raiseSyserr (.refl s) _

/-- A fetch is stopped by an exception, or runs the instruction. -/
theorem fetchRun_answers (s : State) : Gives (s.fetchRun exec) s.Answers := by
  unfold State.fetchRun
  split
  · next h => exact State.fetchStop_answers h
  · refine .noteDevice ?_ _ _ _
    split
    · exact exec_answers _ _
    · exact .undefinedEncoding _
    · exact .raiseRie (.refl s)

/-! ### The entry of an interrupt -/

/-- A state that the entry hardware has reached from `s`: the registers outside the contexts keep HVE. -/
structure State.Reached (s t : State) : Prop where
  keeps : s.Keeps t
  hvcfg : t.sys.hvcfg = s.sys.hvcfg
  prod : t.prod = s.prod

theorem State.Reached.setCtx (h : s.Reached t) (m : Mode) (c : Ctx) : s.Reached (t.setCtx m c) :=
  ⟨h.keeps.trans (.setCtx m c), by simpa using h.hvcfg, by simpa using h.prod⟩

theorem State.Reached.saveContext (l : Level) (retpc : Word) (hm : Mode) (b : Bool) : s.Reached (s.saveContext l retpc hm b) := by
  refine ⟨.saveContext l retpc hm b, ?_, ?_⟩
  · cases hm <;> cases l <;> cases on : s.hve <;> simp [State.saveContext, State.setCtx, SysRegs.leaveGuest, on]
  · cases hm <;> rfl

/-- 60_exceptions.md R814 (c): the cancelled entry has PSWH as it was, and EIPSWH as the entry had saved it. -/
theorem State.Reached.cancelEntry (h : s.Reached t) (cause offset : Word) (hm : Mode) :
    s.Keeps (s.cancelEntry t cause offset hm) := by
  refine State.Keeps.trans (t := { t with
    host := { t.host with psw := s.host.psw }
    guest := { t.guest with psw := s.guest.psw }
    sys := { t.sys with pswh := s.sys.pswh } }) ⟨h.keeps.canonical, fun legal => ?_⟩
    ((State.Keeps.takeException ..).trans (.same rfl rfl rfl rfl rfl rfl rfl))
  obtain ⟨pc, hvcfg, _, e, f, _⟩ := h.keeps.legal legal
  obtain ⟨_, _, p, _, _, z⟩ := legal
  refine ⟨pc, hvcfg, p, e, f, fun off => z ?_⟩
  simpa only [State.hve, h.hvcfg] using off

theorem State.Reached.entryAccess {k : Out} (h : s.Reached t) (hm : Mode) (x : Access) (hk : Gives k s.Keeps) :
    Gives (s.entryAccess t hm x k) s.Keeps := by
  unfold State.entryAccess
  dsimp only
  split
  · exact .next (State.Reached.cancelEntry (h.setCtx _ _) _ _ _)
  · split
    · exact .next (h.cancelEntry _ _ _)
    · obtain ⟨u, rfl, hu⟩ := hk
      obtain ⟨es, -, e⟩ := State.noteDevice_reports (s := t) (a := x.adr) (n := x.size) (ks := x.kinds) (u := u)
      exact ⟨_, e, hu.trans (.same rfl rfl rfl rfl rfl rfl rfl)⟩

theorem State.Reached.storeBank {k : State → Out} (hm : Mode) (hk : ∀ u, s.Reached u → Gives (k u) s.Keeps) :
    ∀ (ws : List Word) (a : Word) (t : State), s.Reached t → Gives (s.storeBank hm ws a t k) s.Keeps
  | [], _, t, h => hk t h
  | w :: ws, a, t, h => h.entryAccess _ _ (State.Reached.storeBank hm hk ws _ _
      ⟨h.keeps.trans ((State.Runs.refl t).writeWord _ _).keeps, by simpa using h.hvcfg, by simpa using h.prod⟩)

theorem State.Reached.bankCount (h : s.Reached t) (n : Word) : s.Reached { t with sys := { t.sys with rbnr := n } } :=
  ⟨h.keeps.trans (.same rfl rfl rfl rfl rfl rfl rfl), h.hvcfg, h.prod⟩

theorem State.Reached.withHandler {k : Word → Out} (h : s.Reached t) (hm : Mode) (q : EiRequest) (hk : ∀ a, Gives (k a) s.Keeps) :
    Gives (s.withHandler t hm q k) s.Keeps := by
  unfold State.withHandler
  dsimp only
  split
  · exact h.entryAccess _ _ (hk _)
  · exact hk _

theorem State.Reached.withBank {k : State → Out} (h : s.Reached t) (hm : Mode) (q : EiRequest) (cause : Word)
    (hk : ∀ u, s.Reached u → Gives (k u) s.Keeps) : Gives (s.withBank t hm q cause k) s.Keeps := by
  unfold State.withBank
  dsimp only
  split
  · exact hk t h
  · split
    · exact .next (h.cancelEntry _ _ _)
    · exact State.Reached.storeBank hm (fun u hu => hk _ ((hu.bankCount _).setCtx _ _)) _ _ _ h

theorem State.Keeps.recordPriority (hm : Mode) (p : BitVec 6) : s.Keeps (s.recordPriority hm p) := by
  unfold State.recordPriority
  dsimp only
  split
  · exact .setCtx _ _
  · split
    · exact .setCtx _ _
    · split
      · exact .same rfl rfl rfl rfl rfl rfl rfl
      · exact .refl s

theorem acceptEi_keeps (s : State) (k : IntKind) (q : EiRequest) (hm : Mode) : Gives (s.acceptEi k q hm) s.Keeps := by
  have saved := State.Reached.saveContext (s := s) .ei s.pc hm false
  unfold State.acceptEi
  dsimp only
  refine saved.withHandler hm q fun a => saved.withBank hm q _ fun u hu => .next ?_
  have recorded := hu.keeps.trans ((State.Keeps.setCtx hm
    ((u.ctx hm).setCause .ei (s.prod.causeEiint + q.channel.setWidth 32))).trans (State.Keeps.recordPriority hm q.prio))
  refine recorded.trans ?_
  exact .modes rfl (fun _ => evenPc_even _ rfl) rfl rfl id

/-- An accepted request has its entry, or the exception that cancels it. -/
theorem accept_keeps (s : State) (a : Accepted) : Gives (s.accept a) s.Keeps := by
  have entry (l : Level) (cause offset : Word) (hm : Mode) (b : Bool) {t : State}
      (h : (s.takeException l cause offset s.pc hm b).Keeps t) : Gives (.next t) s.Keeps :=
    .next ((State.Keeps.takeException ..).trans h)
  unfold State.accept
  split
  case h_5 => exact acceptEi_keeps ..
  all_goals exact entry _ _ _ _ _ (.same rfl rfl rfl rfl rfl rfl rfl)

/-! ### The whole step -/

/-- 70_reset_and_hazards.md R931: the mode registers after reset. -/
theorem resetOf_legal (p : Product) : (State.resetOf p).Legal := by
  refine ⟨?_, ?_, ?_⟩
  · simp [State.pcEven, State.resetOf, resetAddress]
  · simp only [State.hvcfgLegal, State.hasHv, State.isMh2, State.resetOf, SysRegs.reset]
    split
    · next h => exact .inr ⟨rfl, by simp_all⟩
    · exact .inl rfl
  · have zero : (0 : Word) &&& 0x7FFFF8FF = 0 := by decide
    exact ⟨zero, zero, zero, fun _ => rfl⟩

theorem State.Keeps.begin (s : State) : s.Keeps s.begin := by
  refine ⟨s.memWf_begin, fun h => ?_⟩
  have same : s.Keeps { s.begin with mem := s.mem } :=
    .same rfl (by simp) (by simp) (by simp) (by simp) (by simp) (by simp)
  exact same.legal h

theorem State.Keeps.afterReset (s : State) : s.Keeps s.afterReset := ⟨id, fun _ => resetOf_legal s.prod⟩

theorem State.Keeps.finish (s : State) (ran : Bool) (t : State) : t.Keeps (s.finish ran t) :=
  .same (by simp) (by simp) (by simp) (by simp) (by simp) (by simp) (by simp)

theorem State.Keeps.pause (s : State) : s.Keeps s.pause := by
  unfold State.pause
  split
  · exact .same rfl rfl rfl rfl rfl rfl rfl
  · exact .refl s

theorem State.Keeps.wake (h : s.wake = some t) : s.Keeps t := by
  unfold State.wake at h
  split at h
  · cases h
    exact .refl s
  all_goals
    split at h
    · cases h
      exact .same rfl rfl rfl rfl rfl rfl rfl
    · cases h

theorem Gives.finish {o : Out} (ran : Bool) (h : Gives o s.Keeps) : Gives (mapNext (s.finish ran) o) s.Keeps := by
  obtain ⟨t, rfl, k⟩ := h
  exact .next (k.trans (.finish s ran t))

theorem runStep_keeps (s : State) : Gives s.runStep s.Keeps := by
  unfold State.runStep
  split
  · exact (accept_keeps s _).finish false
  · exact ((fetchRun_answers s).mono fun _ h => h.keeps).finish true

/-- Every step answers a next state, which has the invariants that the state before it has. -/
theorem step_keeps (s : State) : Gives (step s) s.Keeps := by
  have start := State.Keeps.begin s
  unfold step
  dsimp only
  split
  · exact .next (start.trans (.afterReset _))
  · split
    · exact .next (start.trans ((State.Keeps.pause _).trans (.finish ..)))
    · next s1 h => exact (runStep_keeps s1).mono fun _ k => start.trans ((State.Keeps.wake h).trans k)

theorem step_next_keeps (h : step s = .next t) : s.Keeps t := by
  obtain ⟨u, e, k⟩ := step_keeps s
  cases h.symm.trans e
  exact k

end

end Sys2Proof.Machine

open Sys2Proof.Machine

/-- Settles O54. -/
theorem resetHasTheInvariants : Obligations.ResetHasTheInvariants := fun p =>
  ⟨⟨.nil, nofun⟩, resetOf_legal p⟩

/-- Settles O55: every instruction answers a next state, and so does every part of a step. -/
theorem everyStepAnswersANextState : Obligations.EveryStepAnswersANextState := by
  refine ⟨fun i s => ?_, fun s => ?_⟩
  · obtain ⟨t, h, -⟩ := exec_answers i s
    exact ⟨t, h⟩
  · obtain ⟨t, h, -⟩ := step_keeps s
    exact ⟨t, h⟩

/-- Settles O56. -/
theorem stepKeepsMemoryCanonical : Obligations.StepKeepsMemoryCanonical := fun _ _ wf h => (step_next_keeps h).canonical wf

/-- Settles O57. -/
theorem stepKeepsPcAndModeLegal : Obligations.StepKeepsPcAndModeLegal := fun _ _ legal h => (step_next_keeps h).legal legal
end

section
/-! PROOFS. What no instruction run in user mode changes (O58): along `State.Does` in user mode, and at the entry of an exception. -/

namespace Sys2Proof.Machine

/-- 11_sysregs.md R158: channel `n` is closed to the mode. -/
def State.Closed (s : State) (n : Fin 8) : Prop :=
  s.cnt.pmumctrl.getLsbD n = false ∨ (s.mode = .guest ∧ s.cnt.pmgmctrl.getLsbD n = false)

/-- Channel `n` of the counters of `c` is as in `d`. -/
def Counters.SameChannel (c d : Counters) (n : Fin 8) : Prop :=
  c.pmctrl[n] = d.pmctrl[n] ∧ c.pmcount[n] = d.pmcount[n] ∧ c.pmsubcnd[n] = d.pmsubcnd[n]

/-- What user mode keeps without an exception: the MPU, every context but bits of the PSW in use, the counters but for the open
channels, and the system registers that exist once but for those of the program and of the floating-point units. -/
structure State.UserKeeps (s t : State) : Prop where
  mpu : t.mpu = s.mpu
  prod : t.prod = s.prod
  system : t.sys = { s.sys with
    ctpc := t.sys.ctpc, ctpsw := t.sys.ctpsw, ctbp := t.sys.ctbp, fpsr := t.sys.fpsr, fpepc := t.sys.fpepc, fxsr := t.sys.fxsr
    fxxc := t.sys.fxxc, fxxp := t.sys.fxxp }
  counters : t.cnt = { s.cnt with pmctrl := t.cnt.pmctrl, pmcount := t.cnt.pmcount, pmsubcnd := t.cnt.pmsubcnd }
  channels : ∀ n, s.Closed n → t.cnt.SameChannel s.cnt n
  other : ∀ m, m ≠ s.mode → t.ctx m = s.ctx m
  cur : t.cur = { s.cur with psw := t.psw }
  psw : ∀ j, 5 ≤ j → (j = 5 → s.sys.mctl.getLsbD 0 = false) → t.psw.getLsbD j = s.psw.getLsbD j

section
variable {s t u : State}

theorem State.UserKeeps.hve (h : s.UserKeeps t) : t.hve = s.hve := by rw [State.hve, h.system]; rfl

theorem State.UserKeeps.mode (h : s.UserKeeps t) : t.mode = s.mode := by rw [State.mode, h.hve, h.system]; rfl

theorem State.UserKeeps.um (h : s.UserKeeps t) : t.um = s.um := h.psw 30 (by omega) (by omega)

theorem State.UserKeeps.mctl (h : s.UserKeeps t) : t.sys.mctl = s.sys.mctl := by rw [h.system]

theorem State.UserKeeps.closed (h : s.UserKeeps t) (n : Fin 8) : t.Closed n ↔ s.Closed n := by
  rw [State.Closed, State.Closed, h.mode, h.counters]

theorem State.UserKeeps.trans (h : s.UserKeeps t) (k : t.UserKeeps u) : s.UserKeeps u := by
  refine ⟨k.mpu.trans h.mpu, k.prod.trans h.prod, ?_, ?_, fun n c => ?_, fun m hm => ?_, ?_, fun j h5 hid => ?_⟩
  · rw [k.system, h.system]
  · rw [k.counters, h.counters]
  · obtain ⟨a, b, c'⟩ := h.channels n c
    obtain ⟨a', b', c''⟩ := k.channels n ((h.closed n).mpr c)
    exact ⟨a'.trans a, b'.trans b, c''.trans c'⟩
  · rw [k.other m (by rwa [h.mode]), h.other m hm]
  · rw [k.cur, h.cur]
  · rw [k.psw j h5 (by rwa [h.mctl]), h.psw j h5 hid]

/-- An update of the registers that exist once, of those that user mode may write. -/
theorem State.UserKeeps.system_only (host : t.host = s.host) (guest : t.guest = s.guest) (mpu : t.mpu = s.mpu) (cnt : t.cnt = s.cnt)
    (prod : t.prod = s.prod) (sys : t.sys = { s.sys with
      ctpc := t.sys.ctpc, ctpsw := t.sys.ctpsw, ctbp := t.sys.ctbp, fpsr := t.sys.fpsr, fpepc := t.sys.fpepc, fxsr := t.sys.fxsr
      fxxc := t.sys.fxxc, fxxp := t.sys.fxxp }) : s.UserKeeps t := by
  have hve : t.hve = s.hve := by rw [State.hve, sys]; rfl
  have mode : t.mode = s.mode := by rw [State.mode, hve, sys]; rfl
  have ctx : ∀ m, t.ctx m = s.ctx m := fun m => by cases m <;> assumption
  have cur : t.cur = s.cur := by rw [State.cur, State.cur, mode, ctx]
  have psw : t.psw = s.psw := by rw [State.psw, State.psw, cur]
  refine ⟨mpu, prod, sys, by rw [cnt], fun n _ => by rw [cnt]; exact ⟨rfl, rfl, rfl⟩, fun m _ => ctx m, by rw [cur, psw]; rfl, ?_⟩
  intro j _ _
  rw [psw]

theorem State.UserKeeps.refl (s : State) : s.UserKeeps s := .system_only rfl rfl rfl rfl rfl rfl

theorem State.Runs.userKeeps (h : s.Runs t) : s.UserKeeps t := by
  have e := h.state
  exact .system_only (by rw [e]) (by rw [e]) (by rw [e]) (by rw [e]) (by rw [e]) (by rw [e])

/-- A write to the PSW in use that keeps the bits that user mode keeps. -/
theorem State.UserKeeps.setPsw (w : Word)
    (h : ∀ j, 5 ≤ j → (j = 5 → s.sys.mctl.getLsbD 0 = false) → w.getLsbD j = s.psw.getLsbD j) : s.UserKeeps (s.setPsw w) := by
  refine ⟨by simp, by simp, by simp, by simp, fun n _ => by simp [Counters.SameChannel], fun m hm => ?_, by simp, by simpa using h⟩
  simp [State.setPsw, State.setCtx_ctx, hm]

/-- Equal bits outside a mask. -/
theorem getLsbD_outside {v w m : Word} (h : v &&& ~~~ m = w &&& ~~~ m) {j : Nat} (hj : m.getLsbD j = false) :
    v.getLsbD j = w.getLsbD j := by
  by_cases lt : j < 32
  · have := congrArg (fun x : Word => x.getLsbD j) h
    simpa only [BitVec.getLsbD_and, BitVec.getLsbD_not, hj, lt, decide_true, Bool.not_false, Bool.and_true] using this
  · simp [BitVec.getLsbD_of_ge _ j (Nat.le_of_not_lt lt)]

theorem lowFive_getLsbD {j : Nat} (h : 5 ≤ j) : (0x1F : Word).getLsbD j = false := by
  have : (0x1F : Word) = (0x1F : BitVec 5).setWidth 32 := rfl
  rw [this, BitVec.getLsbD_setWidth, BitVec.getLsbD_of_ge _ j h, Bool.and_false]

/-! ### LDSR in user mode -/

/-- The access check of R70 passes with the authority of the register alone. -/
theorem State.srAccess_hasAuth {a b : BitVec 5} {w : Bool} {r : SReg} (h : s.srAccess a b w = .reg r) :
    s.hasAuth (r.auth s.hve w) = true := by
  unfold State.srAccess at h
  split at h
  · split at h <;> cases h
  · split at h
    · cases h
    · split at h
      · cases h
        assumption
      · cases h

/-- 11_sysregs.md R70, R158: what user mode has the authority for. -/
theorem State.user_hasAuth (um : s.um = true) {a : Auth} (h : s.hasAuth a = true) : a = .um ∨ ∃ n, a = .channel n ∧ ¬ s.Closed n := by
  cases a with
  | um => exact .inl rfl
  | sv => simp [State.hasAuth, um] at h
  | hv => cases on : s.hve <;> simp [State.hasAuth, State.isHv, um, on] at h
  | channel n =>
    refine .inr ⟨n, rfl, ?_⟩
    have opened : (s.mode = .guest → s.cnt.pmgmctrl.getLsbD n = true) ∧ s.cnt.pmumctrl.getLsbD n = true := by
      simpa [State.hasAuth, um, imp_iff_not_or] using h
    rintro (closed | ⟨guest, closed⟩)
    · rw [opened.2] at closed
      cases closed
    · rw [opened.1 guest] at closed
      cases closed

/-- 11_sysregs.md R158: a write to an open channel keeps the closed ones. -/
theorem State.UserKeeps.channel {n : Fin 8} (opened : ¬ s.Closed n) {c : Counters}
    (rest : c = { s.cnt with pmctrl := c.pmctrl, pmcount := c.pmcount, pmsubcnd := c.pmsubcnd })
    (same : ∀ k, k ≠ n → c.SameChannel s.cnt k) : s.UserKeeps { s with cnt := c } :=
  ⟨rfl, rfl, rfl, rest, fun k closed => same k fun e => opened (e ▸ closed), fun _ _ => rfl, rfl, fun _ _ _ => rfl⟩

theorem State.UserKeeps.ldsrWrite (um : s.um = true) {r : SReg} (h : s.hasAuth (r.auth s.hve true) = true) (v : Word) :
    s.UserKeeps (s.ldsrWrite r v) := by
  have auth := State.user_hasAuth um h
  by_cases psw : r = .orig .psw
  · subst psw
    rw [State.ldsrWrite, if_pos ⟨rfl, um⟩]
    exact .setPsw _ fun j h5 _ => by rw [putMasked_getLsbD, lowFive_getLsbD h5]; rfl
  rw [State.ldsrWrite, if_neg fun e => psw e.1]
  cases r
  case orig x =>
    cases x
    case psw => exact (psw rfl).elim
    case peid =>
      have : s.writeSr (.orig .peid) v = s := by simp only [State.writeSr]; cases s.mode <;> rfl
      rw [this]
      exact .refl s
    all_goals simp [SReg.auth] at auth
  case bmid | fxinfo => exact .refl s
  case ctpc | ctpsw | ctbp | fpst | fpcc | fpcfg | fxst | fxcfg => exact .system_only rfl rfl rfl rfl rfl rfl
  case pmctrl n | pmcount n | pmsubcnd n =>
    obtain ⟨k, e, opened⟩ := auth.resolve_left (by simp [SReg.auth])
    cases e
    refine .channel opened rfl fun k hk => ?_
    have : (n : Nat) ≠ k := fun e => hk (Fin.ext e.symm)
    simp [Counters.SameChannel, Vector.getElem_set_ne _ _ this]
  all_goals
    simp only [SReg.auth] at auth
    cases on : s.hve <;> simp [on] at auth

theorem State.Does.userKeeps (um : s.um = true) (h : s.Does t) : s.UserKeeps t := by
  induction h with
  | start => exact .refl s
  | runs _ r ih => exact ih.trans r.userKeeps
  | flags w _ k ih => exact ih.trans (.setPsw w fun j h5 _ => getLsbD_outside k (lowFive_getLsbD h5))
  | interruptMask b _ allowed ih =>
    refine ih.trans (.setPsw _ fun j h5 hid => ?_)
    have : j ≠ 5 := fun e => by simp_all [ih.mctl]
    rw [putBit_getLsbD _ _ _ _ (by omega), if_neg this]
  | ldsr _ _ r v _ access ih =>
    exact ih.trans (.ldsrWrite (by rw [ih.um, um]) (State.srAccess_hasAuth access) v)
  | privileged sv => rw [um] at sv; cases sv

theorem State.UserKeeps.get (h : s.UserKeeps t) (m : Mode) {r : CtxReg} (hr : r ≠ .psw) : (t.ctx m).get r = (s.ctx m).get r := by
  by_cases hm : m = s.mode
  · have cur := h.cur
    rw [State.cur, State.cur, h.mode, ← hm] at cur
    rw [cur]
    cases r
    case psw => exact (hr rfl).elim
    all_goals rfl
  · rw [h.other m hm]

/-- The registers that neither user mode nor the entry of an exception reaches read as before. -/
theorem State.readSr_protected (system : t.sys = { s.sys with
      ctpc := t.sys.ctpc, ctpsw := t.sys.ctpsw, ctbp := t.sys.ctbp, fpsr := t.sys.fpsr, fpepc := t.sys.fpepc, fxsr := t.sys.fxsr
      fxxc := t.sys.fxxc, fxxp := t.sys.fxxp, pswh := t.sys.pswh, eipswh := t.sys.eipswh, fepswh := t.sys.fepswh })
    (counters : t.cnt = { s.cnt with pmctrl := t.cnt.pmctrl, pmcount := t.cnt.pmcount, pmsubcnd := t.cnt.pmsubcnd }) {r : SReg}
    (hr : r ∈ [SReg.hvcfg, .gmcfg, .hvsb, .mctl, .sccfg, .scbp, .snzcfg, .ispr, .rbcr0, .rbcr1, .rbnr, .rbip, .dbgen, .icctrl,
      .iccfg, .icerr, .ictagl, .ictagh, .icdatl, .icdath, .tscountl, .tscounth, .tsctrl, .pmumctrl, .pmgmctrl, .lscfg,
      .l1rcfg, .rdbcr]) : t.readSr r = s.readSr r := by
  cases r
  case tscountl | tscounth | tsctrl | pmumctrl | pmgmctrl =>
    simp only [State.readSr]
    rw [counters]
  case hvcfg | gmcfg | hvsb | mctl | sccfg | scbp | snzcfg | ispr | rbcr0 | rbcr1 | rbnr | rbip | dbgen | icctrl | iccfg | icerr |
      ictagl | ictagh | icdatl | icdath | lscfg | l1rcfg | rdbcr =>
    simp only [State.readSr]
    rw [system]
  all_goals simp at hr

/-! ### The entry of an exception in user mode -/

/-- What the entry of an exception keeps, in the mode that handles it. -/
structure State.ExceptionKeeps (s t : State) (hm : Mode) : Prop where
  mode : t.mode = hm
  mpu : t.mpu = s.mpu
  cnt : t.cnt = s.cnt
  prod : t.prod = s.prod
  system : t.sys = { s.sys with
    ctpc := t.sys.ctpc, ctpsw := t.sys.ctpsw, fpsr := t.sys.fpsr, fpepc := t.sys.fpepc, fxsr := t.sys.fxsr, fxxc := t.sys.fxxc
    fxxp := t.sys.fxxp, pswh := t.sys.pswh, eipswh := t.sys.eipswh, fepswh := t.sys.fepswh }
  other : ∀ m, m ≠ hm → t.ctx m = s.ctx m
  kept : ∀ r, r ∉ [CtxReg.psw, .eipc, .eipsw, .eiic, .fepc, .fepsw, .feic, .mea, .mei] → (t.ctx hm).get r = (s.ctx hm).get r
  psw : (t.ctx hm).psw.getLsbD 30 = false ∧ (t.ctx hm).psw.getLsbD 5 = true

/-- The mode after an entry is the one that handles the exception. -/
theorem State.Enters.mode {l : Level} {cause retpc handler : Word} {hm : Mode} {b : Bool} {also : CtxReg → Prop}
    (h : s.Enters t l cause retpc handler hm b also) (hg : hm = .guest → s.mode = .guest) : t.mode = hm := by
  have system := h.system
  cases hm with
  | guest =>
    rw [if_neg (by simp)] at system
    rw [State.mode, State.hve, system]
    exact hg rfl
  | host =>
    by_cases on : s.hve = true
    · rw [if_pos ⟨rfl, on⟩] at system
      rw [State.mode, system]
      cases l <;> simp [SysRegs.enterHost]
    · rw [if_neg (by simp [on])] at system
      have off : s.hve = false := by simpa using on
      have : t.hve = s.hve := by rw [State.hve, system]; rfl
      rw [State.mode, this, off]
      rfl

theorem State.Enters.exceptionKeeps {l : Level} {cause retpc handler : Word} {hm : Mode} {b : Bool} {also : CtxReg → Prop}
    (h : s.Enters t l cause retpc handler hm b also) (hg : hm = .guest → s.mode = .guest) (ha : ∀ r, also r → r = .mea ∨ r = .mei) :
    s.ExceptionKeeps t hm := by
  obtain ⟨mpu, cnt, -, prod, -⟩ := h.rest
  refine ⟨h.mode hg, mpu, cnt, prod, ?_, h.other, fun r hr => ?_, ?_⟩
  · rw [h.system]
    split
    · cases l <;> rfl
    · rfl
  · refine h.kept r (fun e => ?_) (fun e => ?_) fun e => ?_
    · rcases ha r e with rfl | rfl <;> simp at hr
    · subst e
      simp at hr
    · cases l <;> rcases e with rfl | rfl | rfl <;> simp at hr
  · exact ⟨h.psw 30 (by omega), h.psw 5 (by omega)⟩

theorem State.Excepts.exceptionKeeps (h : s.Excepts t) : ∃ hm, s.ExceptionKeeps t hm := by
  obtain ⟨l, cause, offset, retpc, hm, hg, v, rfl | ⟨mea, mei, rfl⟩, rfl⟩ := h
  · exact ⟨hm, (State.takeException_enters ..).exceptionKeeps hg nofun⟩
  · exact ⟨hm, (State.takeException_enters ..).setMea.exceptionKeeps hg fun _ e => e⟩

theorem State.Runs.cur (h : s.Runs t) : t.cur = s.cur := by rw [State.cur, State.cur, h.mode, h.ctx]

/-- The program's registers do not matter, before and after. -/
theorem State.ExceptionKeeps.runs {v : State} {hm : Mode} (h : t.ExceptionKeeps u hm) (before : s.Runs t) (after : u.Runs v) :
    s.ExceptionKeeps v hm := by
  refine ⟨after.mode.trans h.mode, ?_, ?_, ?_, ?_, fun m hne => ?_, fun r hr => ?_, ?_⟩
  · rw [after.state]; rw [h.mpu, before.state]
  · rw [after.state]; rw [h.cnt, before.state]
  · rw [after.state]; rw [h.prod, before.state]
  · rw [after.state]; dsimp only; rw [h.system, before.state]
  · rw [after.ctx, h.other m hne, before.ctx]
  · rw [after.ctx, h.kept r hr, before.ctx]
  · rw [after.ctx]
    exact h.psw

end

end Sys2Proof.Machine

open Sys2Proof.Machine

/-- Settles O58: without an exception user mode keeps `State.UserKeeps`, and an exception comes from a state that only the program's own
registers tell from the one before. -/
theorem userModeKeepsProtectedRegisters : Obligations.UserModeKeepsProtectedRegisters := by
  intro i s t um h
  obtain ⟨t', e, answers⟩ := exec_answers i s
  cases h.symm.trans e
  cases answers with
  | does d =>
    have k := d.userKeeps um
    have ctx : ∀ m, ∀ r ∈ [CtxReg.eiwr, .fewr, .spid, .spidlist, .ebase, .intbp, .svlock, .peid, .intcfg, .plmr, .mpm],
        (t.ctx m).get r = (s.ctx m).get r := fun m r hr => k.get m fun e => by simp [e] at hr
    have cur : ∀ r, r ≠ .psw → t.cur.get r = s.cur.get r := fun r hr => by rw [State.cur, State.cur, k.mode, k.get _ hr]
    have modes : t.sys.pswh = s.sys.pswh ∧ t.sys.eipswh = s.sys.eipswh ∧ t.sys.fepswh = s.sys.fepswh := by
      rw [k.system]
      exact ⟨rfl, rfl, rfl⟩
    have reads := fun r hr => State.readSr_protected (s := s) (t := t) (r := r) (by rw [k.system]) k.counters hr
    obtain ⟨pswh, eipswh, fepswh⟩ := modes
    exact ⟨k.mpu, k.prod, ctx, reads, k.channels, by rw [k.mode]; exact k.other,
      .inl ⟨by rw [k.um, um], k.mode, cur, pswh, eipswh, fepswh, k.psw⟩⟩
  | excepts b x r =>
    have before := b.resolve_right fun ⟨sv, _⟩ => by rw [um] at sv; cases sv
    obtain ⟨hm, entered⟩ := x.exceptionKeeps
    have k := entered.runs before r
    have ctx : ∀ m, ∀ r ∈ [CtxReg.eiwr, .fewr, .spid, .spidlist, .ebase, .intbp, .svlock, .peid, .intcfg, .plmr, .mpm],
        (t.ctx m).get r = (s.ctx m).get r := fun m r hr => by
      by_cases same : m = hm
      · rw [same]
        exact k.kept r fun e => by revert hr e; cases r <;> decide
      · rw [k.other m same]
    have reads := fun r hr => State.readSr_protected (s := s) (t := t) (r := r) (by rw [k.system]) (by rw [k.cnt]) hr
    have psw : t.psw = (t.ctx hm).psw := by rw [State.psw, State.cur, k.mode]
    exact ⟨k.mpu, k.prod, ctx, reads, fun n _ => by rw [k.cnt]; exact ⟨rfl, rfl, rfl⟩, by rw [k.mode]; exact k.other,
      .inr ⟨by rw [State.um, psw, k.psw.1], by rw [psw, k.psw.2]⟩⟩
end

section
/-!
PROOFS. The opcode table read and written (30_encoding.md R300, R301, R318): the pieces of an encoded word keep to their own bits,
so each can be read back; no other row owns the word; the length that the first halfwords give is the row's.
-/

namespace Sys2Proof

/-! ## Sums of numbers that share no bit -/

theorem add_eq_or_of_and_eq_zero (x y : Nat) (apart : x &&& y = 0) : x + y = x ||| y := by
  induction x using Nat.strongRecOn generalizing y with
  | ind x ih =>
    obtain rfl | pos := Nat.eq_zero_or_pos x
    · simp
    have half : x / 2 &&& y / 2 = 0 := by rw [← Nat.and_div_two, apart]
    have upper := ih (x / 2) (by omega) (y / 2) half
    rw [← Nat.or_div_two] at upper
    have lower := @Nat.or_mod_two_eq_one x y
    have both := @Nat.and_mod_two_eq_one x y
    rw [apart] at both
    omega

/-- The value has bits of the mask only. -/
def Within (p : Nat × Nat) : Prop := p.2 &&& p.1 = p.2

/-- Pieces of a word, each with its mask, in bits of their own. -/
def Pieces (ps : List (Nat × Nat)) : Prop :=
  (∀ p ∈ ps, Within p) ∧ (ps.map Prod.fst).Pairwise fun a b => a &&& b = 0

/-- The word of all pieces. -/
def total : List (Nat × Nat) → Nat
  | [] => 0
  | p :: ps => p.2 ||| total ps

theorem Pieces.tail {p : Nat × Nat} {ps : List (Nat × Nat)} (h : Pieces (p :: ps)) : Pieces ps :=
  ⟨fun q hq => h.1 q (.tail _ hq), (List.pairwise_cons.mp h.2).2⟩

theorem Pieces.head_apart {p : Nat × Nat} {ps : List (Nat × Nat)} (h : Pieces (p :: ps)) : ∀ q ∈ ps, p.1 &&& q.1 = 0 :=
  fun q hq => (List.pairwise_cons.mp h.2).1 q.1 (List.mem_map_of_mem hq)

theorem Within.and_eq_zero {p : Nat × Nat} (h : Within p) {m : Nat} (apart : p.1 &&& m = 0) : p.2 &&& m = 0 := by
  rw [← h, Nat.and_assoc, apart, Nat.and_zero]

/-- A mask that shares no bit with those of the pieces sees nothing of their word. -/
theorem total_and_eq_zero {m : Nat} : ∀ {ps : List (Nat × Nat)}, (∀ p ∈ ps, Within p) → (∀ p ∈ ps, p.1 &&& m = 0) →
    total ps &&& m = 0
  | [], _, _ => Nat.zero_and m
  | p :: ps, within, apart => by
    rw [total, Nat.and_or_distrib_right, (within p (.head _)).and_eq_zero (apart p (.head _)), Nat.zero_or]
    exact total_and_eq_zero (fun q hq => within q (.tail _ hq)) fun q hq => apart q (.tail _ hq)

/-- The first piece's mask sees nothing of the others. -/
theorem Pieces.tail_and_head {p : Nat × Nat} {ps : List (Nat × Nat)} (h : Pieces (p :: ps)) : total ps &&& p.1 = 0 :=
  total_and_eq_zero h.tail.1 fun q hq => by rw [Nat.and_comm]; exact h.head_apart q hq

theorem Pieces.sum_eq_total : ∀ {ps : List (Nat × Nat)}, Pieces ps → (ps.map Prod.snd).sum = total ps
  | [], _ => rfl
  | p :: ps, h => by
    rw [List.map_cons, List.sum_cons, h.tail.sum_eq_total, total, add_eq_or_of_and_eq_zero]
    rw [← h.1 p (.head _), Nat.and_assoc, Nat.and_comm p.1, h.tail_and_head, Nat.and_zero]

/-- Under its mask each piece stands in the word. -/
theorem Pieces.total_and {ps : List (Nat × Nat)} (h : Pieces ps) {p : Nat × Nat} (hp : p ∈ ps) : total ps &&& p.1 = p.2 := by
  induction ps with
  | nil => cases hp
  | cons q ps ih =>
    rw [total, Nat.and_or_distrib_right]
    cases hp with
    | head => rw [h.1 p (.head _), h.tail_and_head, Nat.or_zero]
    | tail _ hp => rw [ih h.tail hp, (h.1 q (.head _)).and_eq_zero (h.head_apart p hp), Nat.zero_or]

/-- The word has no bit outside a mask that holds those of all pieces. -/
theorem Pieces.total_within {ps : List (Nat × Nat)} (h : Pieces ps) {m : Nat} (all : ∀ p ∈ ps, p.1 &&& m = p.1) :
    total ps &&& m = total ps := by
  induction ps with
  | nil => exact Nat.zero_and m
  | cons p ps ih =>
    have first : p.2 &&& m = p.2 := by
      rw [← h.1 p (.head _), Nat.and_assoc, all p (.head _)]
    rw [total, Nat.and_or_distrib_right, ih h.tail fun q hq => all q (.tail _ hq), first]

/-! ## Bit ranges -/

/-- The bits of a range, all of them 1. -/
def rangeMask (r : Nat × Nat) : Nat := (2 ^ (r.1 - r.2 + 1) - 1) <<< r.2

theorem and_rangeMask (w hi lo : Nat) : w &&& rangeMask (hi, lo) = fieldBits w hi lo <<< lo := by
  refine Nat.eq_of_testBit_eq fun i => ?_
  simp only [rangeMask, fieldBits, Nat.testBit_and, Nat.testBit_shiftLeft, Nat.testBit_two_pow_sub_one, Nat.testBit_mod_two_pow,
    Nat.testBit_shiftRight]
  by_cases h : lo ≤ i
  · simp [h, Bool.and_comm]
  · simp [h]

theorem fieldBits_eq_iff {w hi lo v : Nat} : w &&& rangeMask (hi, lo) = v <<< lo ↔ fieldBits w hi lo = v := by
  rw [and_rangeMask, Nat.shiftLeft_eq, Nat.shiftLeft_eq]
  exact ⟨fun h => Nat.eq_of_mul_eq_mul_right (Nat.two_pow_pos lo) h, fun h => by rw [h]⟩

/-- Words that agree on the bits of a range have one value there. -/
theorem fieldBits_congr {w v hi lo : Nat} (h : w &&& rangeMask (hi, lo) = v &&& rangeMask (hi, lo)) :
    fieldBits w hi lo = fieldBits v hi lo := fieldBits_eq_iff.mp (h.trans (and_rangeMask v hi lo))

/-- The pieces into which an operand's ranges cut it. -/
def rangePieces (v : Nat) : List (Nat × Nat) → List (Nat × Nat)
  | [] => []
  | (hi, lo) :: rest =>
    (rangeMask (hi, lo), ((v >>> rangesWidth rest) % 2 ^ (hi - lo + 1)) <<< lo) :: rangePieces v rest

theorem sum_rangePieces (v : Nat) : ∀ rs, ((rangePieces v rs).map Prod.snd).sum = putRanges v rs
  | [] => rfl
  | (_, _) :: rest => congrArg (_ + ·) (sum_rangePieces v rest)

theorem map_fst_rangePieces (v : Nat) : ∀ rs, (rangePieces v rs).map Prod.fst = rs.map rangeMask
  | [] => rfl
  | (_, _) :: rest => congrArg (_ :: ·) (map_fst_rangePieces v rest)

theorem rangePieces_within (v : Nat) : ∀ rs, ∀ p ∈ rangePieces v rs, Within p
  | (hi, lo) :: rest, _, .head _ => by
    show _ &&& rangeMask (hi, lo) = _
    rw [and_rangeMask, fieldBits, Nat.shiftLeft_shiftRight, Nat.mod_mod]
  | (_, _) :: rest, p, .tail _ hp => rangePieces_within v rest p hp

/-- An operand is read back from a word in which its pieces stand. -/
theorem takeRanges_of_pieces {w v : Nat} : ∀ {rs}, (∀ p ∈ rangePieces v rs, w &&& p.1 = p.2) →
    takeRanges w rs = v % 2 ^ rangesWidth rs
  | [], _ => by simp [takeRanges, rangesWidth, Nat.mod_one]
  | (hi, lo) :: rest, h => by
    have first := fieldBits_eq_iff.mp (h _ (.head _))
    have later := takeRanges_of_pieces fun p hp => h p (.tail _ hp)
    rw [takeRanges, first, later, rangesWidth, Nat.add_comm, Nat.add_comm (hi - lo + 1), Nat.pow_add (n := hi - lo + 1),
      Nat.shiftRight_eq_div_pow, Nat.mod_mul, Nat.mul_comm]

/-- Words that agree on all its ranges have one operand there. -/
theorem takeRanges_congr {w v m : Nat} (h : w &&& m = v &&& m) : ∀ {rs}, (∀ r ∈ rs, m &&& rangeMask r = rangeMask r) →
    takeRanges w rs = takeRanges v rs
  | [], _ => rfl
  | (hi, lo) :: rest, inside => by
    have here : w &&& rangeMask (hi, lo) = v &&& rangeMask (hi, lo) := by
      rw [← inside _ (.head _), ← Nat.and_assoc, h, Nat.and_assoc]
    rw [takeRanges, takeRanges, fieldBits_congr here, takeRanges_congr h fun r hr => inside r (.tail _ hr)]

end Sys2Proof
end

section
/-!
PROOFS. The rows of the opcode table (30_encoding.md R318): what a row writes it reads back, and no two rows own one word.
-/

namespace Sys2Proof

/-! ## One row -/

/-- The pieces of the word that a row gives for operands: its fixed bits, and those of each operand. -/
def OpRow.pieces (r : OpRow) (ops : List Nat) : List (Nat × Nat) :=
  (r.mask, r.mtch) :: (r.flds.zip ops).flatMap fun p => rangePieces p.2 p.1

/-- Every bit range of the row's operands. -/
def OpRow.ranges (r : OpRow) : List (Nat × Nat) := r.flds.flatten

/-- The row's fixed bits and bit ranges stand apart, inside its bytes. -/
def OpRow.laidOut (r : OpRow) : Bool :=
  (r.mtch &&& r.mask) == r.mtch &&
    decide ((r.mask :: r.ranges.map rangeMask).Pairwise fun a b => a &&& b = 0) &&
    (r.mask :: r.ranges.map rangeMask).all fun m => (m &&& (2 ^ (8 * r.len) - 1)) == m

/-- The operands fit the row's fields. -/
abbrev OpRow.Fits (r : OpRow) (ops : List Nat) : Prop := List.Forall₂ (fun f v => v < 2 ^ rangesWidth f) r.flds ops

/-- Each pattern of another row differs from the word in an operand. -/
def OpRow.Clear (r : OpRow) (ops : List Nat) : Prop :=
  ∀ e ∈ r.excl, ∃ (n : Nat) (f : List (Nat × Nat)) (v : Nat), r.flds[n]? = some f ∧ ops[n]? = some v ∧
    (∀ q ∈ f, e.1 &&& rangeMask q = rangeMask q) ∧ takeRanges e.2 f ≠ v

variable {r : OpRow} {ops : List Nat}

theorem OpRow.word_eq_sum : r.word ops = ((r.pieces ops).map Prod.snd).sum := by
  rw [OpRow.word, OpRow.pieces, List.map_cons, List.sum_cons]
  congr 1
  induction r.flds.zip ops with
  | nil => rfl
  | cons p ps ih => simp [ih, sum_rangePieces]

theorem OpRow.pieces_masks (fits : r.Fits ops) : (r.pieces ops).map Prod.fst = r.mask :: r.ranges.map rangeMask := by
  rw [OpRow.pieces, OpRow.ranges, List.map_cons]
  congr 1
  unfold OpRow.Fits at fits
  generalize r.flds = fs at fits ⊢
  induction fits with
  | nil => rfl
  | cons _ _ ih => simp [ih, map_fst_rangePieces]

theorem OpRow.laidOut_pieces (laid : r.laidOut = true) (fits : r.Fits ops) : Pieces (r.pieces ops) := by
  simp only [OpRow.laidOut, Bool.and_eq_true, decide_eq_true_eq, beq_iff_eq] at laid
  obtain ⟨⟨fixed, apart⟩, _⟩ := laid
  refine ⟨fun p hp => ?_, by rw [OpRow.pieces_masks fits]; exact apart⟩
  obtain rfl | hp := List.mem_cons.mp hp
  · exact fixed
  · obtain ⟨q, _, hp⟩ := List.mem_flatMap.mp hp
    exact rangePieces_within _ _ p hp

/-- The word a row gives holds its pieces. -/
theorem OpRow.word_and (laid : r.laidOut = true) (fits : r.Fits ops) {p : Nat × Nat} (hp : p ∈ r.pieces ops) :
    r.word ops &&& p.1 = p.2 := by
  have h := OpRow.laidOut_pieces laid fits
  rw [OpRow.word_eq_sum, h.sum_eq_total, h.total_and hp]

/-- The word a row gives has the row's fixed bits. -/
theorem OpRow.word_mask (laid : r.laidOut = true) (fits : r.Fits ops) : r.word ops &&& r.mask = r.mtch :=
  OpRow.word_and laid fits (.head _)

/-- The word a row gives fits the row's bytes. -/
theorem OpRow.word_lt (laid : r.laidOut = true) (fits : r.Fits ops) : r.word ops < 2 ^ (8 * r.len) := by
  have h := OpRow.laidOut_pieces laid fits
  have inside : ∀ p ∈ r.pieces ops, p.1 &&& (2 ^ (8 * r.len) - 1) = p.1 := fun p hp => by
    simp only [OpRow.laidOut, Bool.and_eq_true, List.all_eq_true] at laid
    have masks := OpRow.pieces_masks fits ▸ List.mem_map_of_mem (f := Prod.fst) hp
    exact eq_of_beq (laid.2 p.1 masks)
  rw [OpRow.word_eq_sum, h.sum_eq_total, ← h.total_within inside]
  exact Nat.and_lt_two_pow _ (Nat.sub_lt (Nat.two_pow_pos _) Nat.one_pos)

/-- The word a row gives has the operands. -/
theorem OpRow.operands_word (laid : r.laidOut = true) (fits : r.Fits ops) : r.operands (r.word ops) = ops := by
  have read : ∀ p ∈ r.flds.zip ops, takeRanges (r.word ops) p.1 = p.2 % 2 ^ rangesWidth p.1 := fun p hp =>
    takeRanges_of_pieces fun q hq => OpRow.word_and laid fits (.tail _ (List.mem_flatMap.mpr ⟨p, hp, hq⟩))
  rw [OpRow.operands]
  generalize r.word ops = w at read
  unfold OpRow.Fits at fits
  generalize r.flds = fs at fits read ⊢
  induction fits with
  | nil => rfl
  | cons small _ ih =>
    rw [List.map_cons, read _ (.head _), Nat.mod_eq_of_lt small, ih fun p hp => read p (.tail _ hp)]

/-- A word with the row's fixed bits and operands that are clear of the other rows' patterns is the row's. -/
theorem OpRow.owns_of_clear {w : Nat} (fixed : w &&& r.mask = r.mtch) (read : r.operands w = ops) (clear : r.Clear ops) :
    r.owns w = true := by
  simp only [OpRow.owns, fixed, BEq.rfl, Bool.true_and, List.all_eq_true, Bool.not_eq_true', beq_eq_false_iff_ne]
  intro e he same
  obtain ⟨n, f, v, hf, hv, inside, differs⟩ := clear e he
  have value : takeRanges w f = v := by
    rw [← read, OpRow.operands, List.getElem?_map, hf] at hv
    exact Option.some.inj hv
  have covered : e.2 &&& e.1 = w &&& e.1 := by rw [← same, Nat.and_assoc, Nat.and_self]
  exact differs ((takeRanges_congr covered inside).trans value)

/-! ## Rows without a common word -/

/-- The fixed bits of two rows differ, or a pattern that one of them leaves to another row is fixed by both. -/
def OpRow.apart (a b : OpRow) : Bool :=
  (a.mask &&& b.mtch) != (b.mask &&& a.mtch) ||
    (a.excl ++ b.excl).any fun e => ((a.mask ||| b.mask) &&& e.1) == e.1 && ((a.mtch ||| b.mtch) &&& e.1) == e.2

theorem OpRow.owns_iff {w : Nat} : r.owns w = true ↔ w &&& r.mask = r.mtch ∧ ∀ e ∈ r.excl, w &&& e.1 ≠ e.2 := by
  simp [OpRow.owns]

theorem OpRow.apart_owns {a b : OpRow} (apart : a.apart b = true) {w : Nat} (ha : a.owns w = true) : b.owns w = false := by
  refine Bool.eq_false_iff.mpr fun hb => ?_
  obtain ⟨fixedA, exclA⟩ := OpRow.owns_iff.mp ha
  obtain ⟨fixedB, exclB⟩ := OpRow.owns_iff.mp hb
  obtain conflict | ⟨e, he, covered, value⟩ : a.mask &&& b.mtch ≠ b.mask &&& a.mtch ∨ ∃ e ∈ a.excl ++ b.excl,
      (a.mask ||| b.mask) &&& e.1 = e.1 ∧ (a.mtch ||| b.mtch) &&& e.1 = e.2 := by
    simpa only [OpRow.apart, Bool.or_eq_true, bne_iff_ne, List.any_eq_true, Bool.and_eq_true, beq_iff_eq] using apart
  · refine conflict ?_
    rw [← fixedA, ← fixedB]
    ac_rfl
  · have same : w &&& e.1 = e.2 := by
      rw [← covered, ← Nat.and_assoc, Nat.and_or_distrib_left, fixedA, fixedB, value]
    obtain he | he := List.mem_append.mp he
    · exact exclA e he same
    · exact exclB e he same

/-- Where all rows stand apart, a row that owns a word is the one that is found. -/
theorem find?_owns {rows : List OpRow} (apart : rows.Pairwise fun a b => a.apart b = true) {n : Nat} (row : rows[n]? = some r)
    {w : Nat} (owns : r.owns w = true) : rows.find? (·.owns w) = some r := by
  obtain ⟨hn, rfl⟩ := List.getElem?_eq_some_iff.mp row
  refine List.find?_eq_some_iff_getElem.mpr ⟨owns, n, hn, rfl, fun j hj => ?_⟩
  rw [Bool.not_eq_true', Bool.eq_false_iff]
  intro other
  rw [OpRow.apart_owns (List.pairwise_iff_getElem.mp apart j n (by omega) hn hj) other] at owns
  cases owns

end Sys2Proof
end

section
/-!
PROOFS. The whole table: its rows stand apart, and the halfword tests of R301 give each row's length.
-/

namespace Sys2Proof

theorem opRows_apart : (opRows Enc.default).Pairwise fun a b => a.apart b = true := by decide +kernel

theorem opRows_laidOut : ∀ r ∈ opRows Enc.default, r.laidOut = true := by decide +kernel

/-! ## Lengths -/

/-- The tests of R301 as rows of bits, in their order. -/
def lengthRows : List OpRow :=
  [⟨6, 0xFFE0, 0x2E0, [], [], fun _ => none⟩, ⟨6, 0xFFE0, 0x620, [], [], fun _ => none⟩,
    ⟨6, 0x1FFE0, 0x6E0, [], [], fun _ => none⟩, ⟨4, 0xFFE0, 0x6E0, [], [], fun _ => none⟩,
    ⟨4, 0x1FFFC0, 0x10780, [], [], fun _ => none⟩, ⟨4, 0x1FFFC0, 0x30780, [], [], fun _ => none⟩,
    ⟨8, 0x1FFFC0, 0x1B0780, [], [], fun _ => none⟩, ⟨6, 0x1FFC0, 0x10780, [], [], fun _ => none⟩,
    ⟨4, 0x600, 0x600, [], [], fun _ => none⟩, ⟨2, 0, 0, [], [], fun _ => none⟩]

/-- The first test that a row does not rule out is one that the row's fixed bits meet, and it gives the row's length. -/
def OpRow.lengthAgrees (r : OpRow) : Bool :=
  match lengthRows.find? fun l => !l.apart r with
  | some l => l.len == r.len && l.excl.isEmpty && (r.mask &&& l.mask) == l.mask && (r.mtch &&& l.mask) == l.mtch
  | none => false

theorem opRows_lengthAgrees : ∀ r ∈ opRows Enc.default, r.lengthAgrees = true := by decide +kernel

theorem opRows_len : ∀ r ∈ opRows Enc.default, 2 ≤ r.len := by decide +kernel

theorem and_rangeMask_beq (w hi lo v : Nat) : ((w &&& rangeMask (hi, lo)) == v <<< lo) = (fieldBits w hi lo == v) := by
  rw [Bool.eq_iff_iff, beq_iff_eq, beq_iff_eq, fieldBits_eq_iff]

/-- The length that the first test met by a word gives. -/
def firstLength (w : Nat) : List OpRow → Nat
  | [] => 2
  | l :: ls => if l.owns w then l.len else firstLength w ls

/-- The length of an instruction, by the tests as rows. -/
theorem instrLength_eq (w : Nat) : instrLength (w % 2 ^ 16) (w / 2 ^ 16 % 2 ^ 16) = firstLength w lengthRows := by
  have e1 := and_rangeMask_beq w 15 5 0x17
  have e2 := and_rangeMask_beq w 15 5 0x31
  have e3 := and_rangeMask_beq w 16 5 0x37
  have e4 := and_rangeMask_beq w 15 5 0x37
  have e5 := and_rangeMask_beq w 20 6 0x41E
  have e6 := and_rangeMask_beq w 20 6 0xC1E
  have e7 := and_rangeMask_beq w 20 6 0x6C1E
  have e8 := and_rangeMask_beq w 16 6 0x41E
  have e9 := and_rangeMask_beq w 10 9 3
  simp only [rangeMask, Nat.reduceSub, Nat.reduceAdd, Nat.reducePow, Nat.reduceShiftLeft] at e1 e2 e3 e4 e5 e6 e7 e8 e9
  simp only [lengthRows, firstLength, OpRow.owns, List.all_nil, Bool.and_true, e1, e2, e3, e4, e5, e6, e7, e8, e9, Nat.and_zero,
    BEq.rfl, if_true, instrLength, fieldBits, Nat.shiftRight_eq_div_pow, Nat.reduceSub, Nat.reduceAdd, Nat.reducePow, bne_iff_ne,
    ne_eq, beq_iff_eq, Bool.and_eq_true]
  clear e1 e2 e3 e4 e5 e6 e7 e8 e9
  have low : w % 65536 / 32 % 64 = w / 32 % 64 := by omega
  have reg : w % 65536 / 2048 % 32 = w / 2048 % 32 := by omega
  have six : w % 65536 / 64 % 32 = w / 32 % 64 / 2 := by omega
  have joined : ∀ v < 64, w / 32 % 2048 = v ↔ w / 2048 % 32 = 0 ∧ w / 32 % 64 = v := by omega
  have even : ∀ v < 64, w / 32 % 4096 = v ↔ w / 2048 % 32 = 0 ∧ w / 32 % 64 = v ∧ w / 65536 % 65536 % 2 = 0 := by omega
  have five : ∀ v < 32, w / 64 % 32768 = 30 + 1024 * v ↔
      w / 2048 % 32 = 0 ∧ w / 32 % 64 / 2 = 30 ∧ w / 65536 % 65536 % 32 = v := by omega
  have one : w / 64 % 2048 = 1054 ↔ w / 2048 % 32 = 0 ∧ w / 32 % 64 / 2 = 30 ∧ w / 65536 % 65536 % 2 = 1 := by omega
  have top : w / 512 % 4 = w / 32 % 64 / 16 := by omega
  simp only [low, reg, six, joined 23 (by decide), joined 49 (by decide), joined 55 (by decide), even 55 (by decide),
    five 1 (by decide), five 3 (by decide), five 27 (by decide), one, top]
  clear low reg six joined even five one top
  generalize w / 32 % 64 = op
  generalize w / 65536 % 65536 = h
  by_cases r : w / 2048 % 32 = 0
  · simp only [r, true_and]
    by_cases o23 : op = 23
    · subst o23
      rfl
    by_cases o49 : op = 49
    · subst o49
      rfl
    by_cases o55 : op = 55
    · subst o55
      by_cases even : h % 2 = 0 <;> simp [even]
    by_cases o30 : op / 2 = 30
    · have upper : op / 16 = 3 := by omega
      simp only [o23, o49, o55, o30, upper, false_and, true_and, if_false, if_true, not_true_eq_false]
      split
      · split
        · simp only [*]
        · split
          · split
            · simp (disch := omega) only [if_pos]
            · simp (disch := omega) only [if_pos, if_neg]
            · next n0 n3 => rw [if_neg fun e => n0 (by omega), if_neg fun e => n3 (by omega)]
          · simp (disch := omega) only [if_neg]
      · simp (disch := omega) only [if_neg]
    · simp only [o23, o49, o55, o30, false_and, if_false, ite_not]
  · simp only [r, false_and, if_false, ite_not]

theorem firstLength_eq {w : Nat} {p : OpRow → Bool} (sound : ∀ l, l.owns w = true → p l = true) {l : OpRow} :
    ∀ {ls}, ls.find? p = some l → l.owns w = true → firstLength w ls = l.len
  | [], found, _ => by cases found
  | k :: ks, found, owns => by
    rw [List.find?_cons] at found
    rw [firstLength]
    split at found
    · cases found
      rw [if_pos owns]
    · next other =>
      rw [if_neg fun here => by rw [sound k here] at other; cases other]
      exact firstLength_eq sound found owns

/-- A word of a row has the row's length, whatever stands above its bytes. -/
theorem OpRow.instrLength_of_owns {r : OpRow} (agrees : r.lengthAgrees = true) {w : Nat} (owns : r.owns w = true) :
    instrLength (w % 2 ^ 16) (w / 2 ^ 16 % 2 ^ 16) = r.len := by
  rw [instrLength_eq]
  unfold OpRow.lengthAgrees at agrees
  split at agrees
  · next l found =>
    simp only [Bool.and_eq_true, beq_iff_eq, List.isEmpty_iff] at agrees
    obtain ⟨⟨⟨len, none⟩, mask⟩, mtch⟩ := agrees
    have met : l.owns w = true := OpRow.owns_iff.mpr
      ⟨by rw [← mask, ← Nat.and_assoc, (OpRow.owns_iff.mp owns).1, mtch], fun e he => by rw [none] at he; cases he⟩
    rw [firstLength_eq (fun k here => ?_) found met, len]
    rw [Bool.not_eq_true', Bool.eq_false_iff]
    intro apart
    rw [OpRow.apart_owns apart here] at owns
    cases owns
  · cases agrees

/-- An instruction of two bytes is known from its first halfword. -/
theorem needsSecondHalf_length {hw1 hw2 : Nat} (h : needsSecondHalf hw1 = true) : 4 ≤ instrLength hw1 hw2 := by
  simp only [needsSecondHalf, Bool.or_eq_true, beq_iff_eq, Bool.and_eq_true] at h
  simp only [instrLength, bne_iff_ne, ne_eq, Bool.and_eq_true, beq_iff_eq]
  obtain upper | ⟨reg, op⟩ := h
  · rw [if_neg (not_not_intro upper)]
    repeat' split
    all_goals decide
  · simp [reg, op]

/-! ## Bytes -/

theorem natOfBytes_append (as bs : List Byte) : natOfBytes (as ++ bs) = natOfBytes as + 2 ^ (8 * as.length) * natOfBytes bs := by
  induction as with
  | nil => simp [natOfBytes]
  | cons a as ih =>
    rw [List.cons_append, natOfBytes, natOfBytes, ih, List.length_cons, Nat.mul_succ, Nat.pow_add]
    ring

theorem natOfBytes_lt (bs : List Byte) : natOfBytes bs < 2 ^ (8 * bs.length) := by
  induction bs with
  | nil => decide
  | cons b bs ih =>
    rw [natOfBytes, List.length_cons, Nat.mul_succ, Nat.pow_add]
    have := b.isLt
    omega

@[simp] theorem length_bytesOfNat (n v : Nat) : (bytesOfNat n v).length = n := by
  induction n generalizing v with
  | zero => rfl
  | succ n ih => rw [bytesOfNat, List.length_cons, ih]

theorem natOfBytes_bytesOfNat {n v : Nat} (h : v < 2 ^ (8 * n)) : natOfBytes (bytesOfNat n v) = v := by
  induction n generalizing v with
  | zero => simp only [Nat.mul_zero, Nat.pow_zero, Nat.lt_one_iff] at h; rw [h]; rfl
  | succ n ih =>
    rw [Nat.mul_succ, Nat.pow_add] at h
    rw [bytesOfNat, natOfBytes, ih (by omega), BitVec.toNat_ofNat]
    exact Nat.mod_add_div v 256

/-- The low bytes of a list are its number's low bits. -/
theorem natOfBytes_take (bs : List Byte) (n : Nat) : natOfBytes (bs.take n) = natOfBytes bs % 2 ^ (8 * n) := by
  obtain h | h := Nat.le_total n bs.length
  · have small := natOfBytes_lt (bs.take n)
    rw [List.length_take, Nat.min_eq_left h] at small
    conv => rhs; rw [← List.take_append_drop n bs, natOfBytes_append, List.length_take, Nat.min_eq_left h, Nat.add_mul_mod_self_left]
    exact (Nat.mod_eq_of_lt small).symm
  · rw [List.take_of_length_le h]
    exact (Nat.mod_eq_of_lt (Nat.lt_of_lt_of_le (natOfBytes_lt bs) (Nat.pow_le_pow_right (by decide) (by omega)))).symm

theorem natOfBytes_drop (bs : List Byte) (n : Nat) : natOfBytes (bs.drop n) = natOfBytes bs / 2 ^ (8 * n) := by
  obtain h | h := Nat.le_total n bs.length
  · have small := natOfBytes_lt (bs.take n)
    rw [List.length_take, Nat.min_eq_left h] at small
    conv => rhs; rw [← List.take_append_drop n bs, natOfBytes_append, List.length_take, Nat.min_eq_left h]
    rw [Nat.add_mul_div_left _ _ (Nat.two_pow_pos _), Nat.div_eq_of_lt small, Nat.zero_add]
  · rw [List.drop_of_length_le h]
    exact (Nat.div_eq_of_lt (Nat.lt_of_lt_of_le (natOfBytes_lt bs) (Nat.pow_le_pow_right (by decide) (by omega)))).symm

/-! ## A row's word is decoded -/

variable {r : OpRow} {ops : List Nat}

theorem OpRow.laidOut_mask_lt (laid : r.laidOut = true) : r.mask < 2 ^ (8 * r.len) := by
  simp only [OpRow.laidOut, Bool.and_eq_true, List.all_eq_true] at laid
  rw [← eq_of_beq (laid.2 r.mask (.head _))]
  exact Nat.and_lt_two_pow _ (Nat.sub_lt (Nat.two_pow_pos _) Nat.one_pos)

theorem OpRow.laidOut_range_lt (laid : r.laidOut = true) {q : Nat × Nat} (hq : q ∈ r.ranges) :
    rangeMask q < 2 ^ (8 * r.len) := by
  simp only [OpRow.laidOut, Bool.and_eq_true, List.all_eq_true] at laid
  rw [← eq_of_beq (laid.2 (rangeMask q) (.tail _ (List.mem_map_of_mem hq)))]
  exact Nat.and_lt_two_pow _ (Nat.sub_lt (Nat.two_pow_pos _) Nat.one_pos)

/-- What stands above a mask's bits is not seen. -/
theorem and_of_lt {w m n : Nat} (small : m < 2 ^ n) : w &&& m = w % 2 ^ n &&& m := by
  rw [← Nat.and_two_pow_sub_one_eq_mod, Nat.and_assoc, Nat.and_comm (2 ^ n - 1), Nat.and_two_pow_sub_one_of_lt_two_pow small]

/-- The row owns the word it gives, whatever stands above its bytes. -/
theorem OpRow.owns_of_mod (laid : r.laidOut = true) (fits : r.Fits ops) (clear : r.Clear ops) {w : Nat}
    (low : w % 2 ^ (8 * r.len) = r.word ops) : r.owns w = true := by
  refine OpRow.owns_of_clear ?_ ?_ clear
  · rw [and_of_lt (OpRow.laidOut_mask_lt laid), low, OpRow.word_mask laid fits]
  · rw [← OpRow.operands_word laid fits]
    refine List.map_congr_left fun f hf => ?_
    have same : ∀ q ∈ f, w &&& rangeMask q = r.word ops &&& rangeMask q := fun q hq => by
      rw [and_of_lt (OpRow.laidOut_range_lt laid (List.mem_flatten.mpr ⟨f, hf, hq⟩)), low]
    clear hf
    induction f with
    | nil => rfl
    | cons q f ih =>
      obtain ⟨hi, lo⟩ := q
      rw [takeRanges, takeRanges, fieldBits_congr (same _ (.head _)), ih fun p hp => same p (.tail _ hp)]

theorem decodeBytes_word {n : Nat} {i : Instr} (row : (opRows Enc.default)[n]? = some r) (fits : r.Fits ops) (clear : r.Clear ops)
    (built : r.build ops = some i) (rest : List Byte) :
    decodeBytes Enc.default (bytesOfNat r.len (r.word ops) ++ rest) = .instr i r.len rest := by
  have mem := List.mem_of_getElem? row
  have laid := opRows_laidOut r mem
  have small := OpRow.word_lt laid fits
  generalize hbs : bytesOfNat r.len (r.word ops) ++ rest = bs
  have length : r.len ≤ bs.length := by rw [← hbs]; simp
  have low : natOfBytes bs % 2 ^ (8 * r.len) = r.word ops := by
    rw [← hbs, natOfBytes_append, natOfBytes_bytesOfNat small, length_bytesOfNat, Nat.add_mul_mod_self_left, Nat.mod_eq_of_lt small]
  have after : bs.drop r.len = rest := by rw [← hbs]; exact List.drop_left' (length_bytesOfNat _ _)
  have first : natOfBytes (bs.take 2) = natOfBytes bs % 2 ^ 16 := natOfBytes_take bs 2
  have second : natOfBytes ((bs.drop 2).take 2) = natOfBytes bs / 2 ^ 16 % 2 ^ 16 := by rw [natOfBytes_take, natOfBytes_drop]
  have len := OpRow.instrLength_of_owns (opRows_lengthAgrees r mem) (OpRow.owns_of_mod laid fits clear low)
  have whole : (bs.length < 2 || (needsSecondHalf (natOfBytes bs % 2 ^ 16) && bs.length < 4) || bs.length < r.len) = false := by
    have two := opRows_len r mem
    have four : needsSecondHalf (natOfBytes bs % 2 ^ 16) = true → 4 ≤ r.len := fun h => len ▸ needsSecondHalf_length h
    simp only [Bool.or_eq_false_iff, decide_eq_false_iff_not, Bool.and_eq_false_imp]
    exact ⟨⟨by omega, fun h => by have := four h; omega⟩, by omega⟩
  have decoded : decodeWord Enc.default (natOfBytes (bs.take r.len)) = some i := by
    have owns := OpRow.owns_of_mod laid fits clear (Nat.mod_eq_of_lt small)
    rw [natOfBytes_take, low, decodeWord, find?_owns opRows_apart row owns]
    show r.build (r.operands (r.word ops)) = some i
    rw [OpRow.operands_word laid fits, built]
  unfold decodeBytes
  dsimp only
  rw [first, second, len, whole, decoded, after]
  rfl

end Sys2Proof
end

section
/-!
PROOFS. Each instruction stands in its row of the table with operands that fit it, so decoding gives it back (30_encoding.md R318).
-/

namespace Sys2Proof

/-- The row builds the instruction from its operands, which fit the row. -/
structure OpRow.Encodes (r : OpRow) (i : Instr) : Prop where
  built : r.build i.parts.2 = some i
  fits : r.Fits i.parts.2

theorem ofNat_toNat_self {n : Nat} (a : BitVec n) : BitVec.ofNat n a.toNat = a := by simp

section
variable {m n p q : Nat} {r : OpRow} {a : BitVec m} {b : BitVec n} {c : BitVec p} {d : BitVec q} {i : Instr}

/-! One rule for each number of operands. -/

theorem OpRow.Encodes.zero (parts : i.parts.2 = []) (flds : r.flds = []) (built : r.build [] = some i) : r.Encodes i :=
  ⟨by rw [parts, built], by rw [parts, OpRow.Fits, flds]; exact .nil⟩

theorem OpRow.Encodes.one {C : BitVec m → Instr} (parts : (C a).parts.2 = [a.toNat]) (flds : r.flds.map rangesWidth = [m])
    (built : r.build [a.toNat] = some (C (.ofNat m a.toNat))) : r.Encodes (C a) := by
  refine ⟨by rw [parts, built, ofNat_toNat_self], ?_⟩
  simp only [List.map_eq_cons_iff, List.map_eq_nil_iff] at flds
  obtain ⟨f, _, hr, rfl, rfl⟩ := flds
  rw [parts, OpRow.Fits, hr]
  exact .cons a.isLt .nil

theorem OpRow.Encodes.two {C : BitVec m → BitVec n → Instr} (parts : (C a b).parts.2 = [a.toNat, b.toNat])
    (flds : r.flds.map rangesWidth = [m, n])
    (built : r.build [a.toNat, b.toNat] = some (C (.ofNat m a.toNat) (.ofNat n b.toNat))) : r.Encodes (C a b) := by
  refine ⟨by rw [parts, built, ofNat_toNat_self, ofNat_toNat_self], ?_⟩
  simp only [List.map_eq_cons_iff, List.map_eq_nil_iff] at flds
  obtain ⟨f, _, hr, rfl, g, _, rfl, rfl, rfl⟩ := flds
  rw [parts, OpRow.Fits, hr]
  exact .cons a.isLt (.cons b.isLt .nil)

theorem OpRow.Encodes.three {C : BitVec m → BitVec n → BitVec p → Instr}
    (parts : (C a b c).parts.2 = [a.toNat, b.toNat, c.toNat]) (flds : r.flds.map rangesWidth = [m, n, p])
    (built : r.build [a.toNat, b.toNat, c.toNat] = some (C (.ofNat m a.toNat) (.ofNat n b.toNat) (.ofNat p c.toNat))) :
    r.Encodes (C a b c) := by
  refine ⟨by rw [parts, built, ofNat_toNat_self, ofNat_toNat_self, ofNat_toNat_self], ?_⟩
  simp only [List.map_eq_cons_iff, List.map_eq_nil_iff] at flds
  obtain ⟨f, _, hr, rfl, g, _, rfl, rfl, k, _, rfl, rfl, rfl⟩ := flds
  rw [parts, OpRow.Fits, hr]
  exact .cons a.isLt (.cons b.isLt (.cons c.isLt .nil))

theorem OpRow.Encodes.four {C : BitVec m → BitVec n → BitVec p → BitVec q → Instr}
    (parts : (C a b c d).parts.2 = [a.toNat, b.toNat, c.toNat, d.toNat]) (flds : r.flds.map rangesWidth = [m, n, p, q])
    (built : r.build [a.toNat, b.toNat, c.toNat, d.toNat] =
      some (C (.ofNat m a.toNat) (.ofNat n b.toNat) (.ofNat p c.toNat) (.ofNat q d.toNat))) : r.Encodes (C a b c d) := by
  refine ⟨by rw [parts, built, ofNat_toNat_self, ofNat_toNat_self, ofNat_toNat_self, ofNat_toNat_self], ?_⟩
  simp only [List.map_eq_cons_iff, List.map_eq_nil_iff] at flds
  obtain ⟨f, _, hr, rfl, g, _, rfl, rfl, k, _, rfl, rfl, l, _, rfl, rfl, rfl⟩ := flds
  rw [parts, OpRow.Fits, hr]
  exact .cons a.isLt (.cons b.isLt (.cons c.isLt (.cons d.isLt .nil)))
end

/-! ## Every instruction in its row -/

/-- The instructions whose operands are prohibited some value, because the encoding is another instruction's. -/
def Instr.prohibits : Instr → Bool
  | .movF1 .. | .movF2 .. | .movea .. | .movhi .. | .adf .. | .sbf .. | .divhF1 .. | .sataddF1 .. | .sataddF2 .. | .satsubF1 ..
  | .satsubi .. | .satsubr .. | .mulhF1 .. | .mulhF2 .. | .mulhi .. | .bcondF2 .. | .jarlF1 .. | .jarlF2 .. | .jarlF3 ..
  | .loop .. | .ldBuF1 .. | .ldHuF1 .. | .sldBu .. | .sldHu .. | .switch .. | .disposeF2 .. | .fetrap .. | .cache ..
  | .cmovfD .. | .cmovfS .. => true
  | _ => false

theorem opRows_encodes_0_100 (i : Instr) (lower : 0 ≤ i.parts.1) (upper : i.parts.1 < 100) :
    ∃ r, (opRows Enc.default)[i.parts.1]? = some r ∧ r.Encodes i ∧ (r.excl = [] ∨ i.prohibits = true) := by
  cases i
  all_goals first
    | exact absurd upper (Nat.not_lt.mpr (Nat.le_of_ble_eq_true rfl))
    | refine ⟨_, rfl, .two rfl rfl rfl, ?_⟩
    | refine ⟨_, rfl, .three rfl rfl rfl, ?_⟩
    | refine ⟨_, rfl, .four rfl rfl rfl, ?_⟩
    | refine ⟨_, rfl, .one rfl rfl rfl, ?_⟩
  all_goals first
    | exact .inl rfl
    | exact .inr rfl

theorem opRows_encodes_100_190 (i : Instr) (lower : 100 ≤ i.parts.1) (upper : i.parts.1 < 190) :
    ∃ r, (opRows Enc.default)[i.parts.1]? = some r ∧ r.Encodes i ∧ (r.excl = [] ∨ i.prohibits = true) := by
  cases i
  all_goals first
    | exact absurd lower (Nat.not_le.mpr (Nat.le_of_ble_eq_true rfl))
    | exact absurd upper (Nat.not_lt.mpr (Nat.le_of_ble_eq_true rfl))
    | refine ⟨_, rfl, .two rfl rfl rfl, ?_⟩
    | refine ⟨_, rfl, .three rfl rfl rfl, ?_⟩
    | refine ⟨_, rfl, .four rfl rfl rfl, ?_⟩
    | refine ⟨_, rfl, .one rfl rfl rfl, ?_⟩
    | refine ⟨_, rfl, .zero rfl rfl rfl, ?_⟩
  all_goals first
    | exact .inl rfl
    | exact .inr rfl

theorem opRows_encodes_190_260 (i : Instr) (lower : 190 ≤ i.parts.1) (upper : i.parts.1 < 260) :
    ∃ r, (opRows Enc.default)[i.parts.1]? = some r ∧ r.Encodes i ∧ (r.excl = [] ∨ i.prohibits = true) := by
  cases i
  all_goals first
    | exact absurd lower (Nat.not_le.mpr (Nat.le_of_ble_eq_true rfl))
    | exact absurd upper (Nat.not_lt.mpr (Nat.le_of_ble_eq_true rfl))
    | refine ⟨_, rfl, .two rfl rfl rfl, ?_⟩
    | refine ⟨_, rfl, .three rfl rfl rfl, ?_⟩
    | refine ⟨_, rfl, .four rfl rfl rfl, ?_⟩
    | refine ⟨_, rfl, .one rfl rfl rfl, ?_⟩
  all_goals first
    | exact .inl rfl
    | exact .inr rfl

theorem opRows_encodes_260_324 (i : Instr) (lower : 260 ≤ i.parts.1) (upper : i.parts.1 < 324) :
    ∃ r, (opRows Enc.default)[i.parts.1]? = some r ∧ r.Encodes i ∧ (r.excl = [] ∨ i.prohibits = true) := by
  cases i
  all_goals first
    | exact absurd lower (Nat.not_le.mpr (Nat.le_of_ble_eq_true rfl))
    | exact absurd upper (Nat.not_lt.mpr (Nat.le_of_ble_eq_true rfl))
    | refine ⟨_, rfl, .two rfl rfl rfl, ?_⟩
    | refine ⟨_, rfl, .three rfl rfl rfl, ?_⟩
    | refine ⟨_, rfl, .four rfl rfl rfl, ?_⟩
  all_goals exact .inl rfl

/-- Every instruction that the table has stands in its row. -/
theorem opRows_encodes (i : Instr) (known : i.parts.1 < 324) :
    ∃ r, (opRows Enc.default)[i.parts.1]? = some r ∧ r.Encodes i ∧ (r.excl = [] ∨ i.prohibits = true) := by
  obtain h | h := Nat.lt_or_ge i.parts.1 100
  · exact opRows_encodes_0_100 i (Nat.zero_le _) h
  obtain h' | h' := Nat.lt_or_ge i.parts.1 190
  · exact opRows_encodes_100_190 i h h'
  obtain h'' | h'' := Nat.lt_or_ge i.parts.1 260
  · exact opRows_encodes_190_260 i h' h''
  · exact opRows_encodes_260_324 i h'' known

/-! ## Prohibited operands -/

theorem OpRow.clear_of_excl_nil {r : OpRow} {ops : List Nat} (h : r.excl = []) : r.Clear ops :=
  fun e he => by rw [h] at he; cases he

/-- The word differs from a pattern whose bits hold another value of an operand. -/
theorem OpRow.differs {r : OpRow} {ops : List Nat} (n : Nat) {m : Nat} {a k : BitVec m} {e : Nat × Nat} {f : List (Nat × Nat)}
    (fld : r.flds[n]? = some f) (op : ops[n]? = some a.toNat) (other : (!(a == k)) = true)
    (inside : (f.all fun q => (e.1 &&& rangeMask q) == rangeMask q) = true) (value : takeRanges e.2 f = k.toNat) :
    ∃ (n : Nat) (f : List (Nat × Nat)) (v : Nat), r.flds[n]? = some f ∧ ops[n]? = some v ∧
      (∀ q ∈ f, e.1 &&& rangeMask q = rangeMask q) ∧ takeRanges e.2 f ≠ v := by
  refine ⟨n, f, a.toNat, fld, op, fun q hq => eq_of_beq (List.all_eq_true.mp inside q hq), fun same => ?_⟩
  rw [BitVec.eq_of_toNat_eq (same.symm.trans value), BEq.rfl] at other
  cases other

/-- A row with one pattern is clear of it if the operand in its bits is another value. -/
theorem OpRow.Clear.single {r : OpRow} {ops : List Nat} (n : Nat) {m : Nat} {a k : BitVec m} {e : Nat × Nat} {f : List (Nat × Nat)}
    (excl : r.excl = [e]) (fld : r.flds[n]? = some f) (op : ops[n]? = some a.toNat) (other : (!(a == k)) = true)
    (inside : (f.all fun q => (e.1 &&& rangeMask q) == rangeMask q) = true) (value : takeRanges e.2 f = k.toNat) :
    r.Clear ops := by
  intro e' he
  rw [excl, List.mem_singleton] at he
  rw [he]
  exact OpRow.differs n fld op other inside value

theorem excluded_clear (i : Instr) (h : i.prohibits = true) (wf : i.wellFormed = true) :
    ∃ r, (opRows Enc.default)[i.parts.1]? = some r ∧ r.Clear i.parts.2 := by
  cases i
  case divhF1 reg1 reg2 =>
    obtain ⟨second, first⟩ : (!(reg2 == 0)) = true ∧ (!(reg1 == 0)) = true := Bool.and_eq_true_iff.mp wf
    refine ⟨_, rfl, fun e he => ?_⟩
    cases he with
    | head => exact OpRow.differs 1 rfl rfl second rfl rfl
    | tail _ he =>
      obtain rfl := List.mem_singleton.mp he
      exact OpRow.differs 0 rfl rfl first rfl rfl
  case cache cacheop reg1 =>
    refine ⟨_, rfl, fun e he => ?_⟩
    obtain rfl := List.mem_singleton.mp he
    have pair : (!(cacheop == 126)) = true ∨ (!(reg1 == 31)) = true := by
      simpa only [Instr.wellFormed, Bool.not_and, Bool.or_eq_true] using wf
    obtain op | reg := pair
    · exact OpRow.differs 0 rfl rfl op rfl rfl
    · exact OpRow.differs 1 rfl rfl reg rfl rfl
  case adf | sbf | bcondF2 | switch | fetrap => exact ⟨_, rfl, .single 0 rfl rfl rfl wf rfl rfl⟩
  case movF1 | movF2 | sataddF1 | sataddF2 | satsubF1 | satsubr | mulhF1 | mulhF2 | jarlF1 | jarlF2 | jarlF3 | loop | sldBu | sldHu =>
    exact ⟨_, rfl, .single 1 rfl rfl rfl wf rfl rfl⟩
  case movea | movhi | satsubi | mulhi | ldBuF1 | ldHuF1 | disposeF2 => exact ⟨_, rfl, .single 2 rfl rfl rfl wf rfl rfl⟩
  case cmovfD | cmovfS => exact ⟨_, rfl, .single 3 rfl rfl rfl wf rfl rfl⟩
  all_goals exact nomatch h

/-- A well-formed instruction is clear of the patterns that its row leaves to others. -/
theorem opRows_clear {i : Instr} (known : i.parts.1 < 324) (wf : i.wellFormed = true) :
    ∃ r, (opRows Enc.default)[i.parts.1]? = some r ∧ r.Encodes i ∧ r.Clear i.parts.2 := by
  obtain ⟨r, row, encodes, excl | prohibits⟩ := opRows_encodes i known
  · exact ⟨r, row, encodes, OpRow.clear_of_excl_nil excl⟩
  · obtain ⟨r', row', clear⟩ := excluded_clear i prohibits wf
    obtain rfl : r = r' := Option.some.inj (row.symm.trans row')
    exact ⟨r, row, encodes, clear⟩

/-! ## The lost encodings -/

/-- The three instructions whose encodings the sources have lost (R324). -/
def Instr.lost : Instr → Bool
  | .hvtrap _ | .ldmGsr _ | .stmGsr _ => true
  | _ => false

theorem Instr.known_of_lost_eq_false {i : Instr} (h : i.lost = false) : i.parts.1 < 324 := by
  cases i
  case hvtrap | ldmGsr | stmGsr => cases h
  all_goals exact Nat.le_of_ble_eq_true rfl

theorem Instr.lost_eq_false_iff {i : Instr} :
    i.lost = false ↔ (∀ v, i ≠ .hvtrap v) ∧ (∀ r, i ≠ .ldmGsr r) ∧ ∀ r, i ≠ .stmGsr r := by
  unfold Instr.lost
  split <;> simp_all

theorem encodeBytes_of_lost {i : Instr} (h : i.lost = true) : encodeBytes Enc.default i = none := by
  unfold Instr.lost at h
  split at h
  · rfl
  · rfl
  · rfl
  · cases h

theorem encodeBytes_of_row {i : Instr} (h : i.lost = false) {r : OpRow} (row : (opRows Enc.default)[i.parts.1]? = some r) :
    encodeBytes Enc.default i = some (bytesOfNat r.len (r.word i.parts.2)) := by
  obtain ⟨trap, load, store⟩ := Instr.lost_eq_false_iff.mp h
  unfold encodeBytes encodeWord
  split
  · exact absurd rfl (trap _)
  · exact absurd rfl (load _)
  · exact absurd rfl (store _)
  · rw [row]
    rfl

theorem encodeBytes_isSome_iff (i : Instr) : (encodeBytes Enc.default i).isSome = true ↔ i.lost = false := by
  cases h : i.lost with
  | true => rw [encodeBytes_of_lost h]; decide
  | false =>
    obtain ⟨r, row, _⟩ := opRows_encodes i (Instr.known_of_lost_eq_false h)
    rw [encodeBytes_of_row h row]
    exact ⟨fun _ => rfl, fun _ => rfl⟩

end Sys2Proof
open Sys2Proof

/-- Settles O59: an instruction stands in its row of the table with operands that fit it; the word keeps each operand in its own bits,
no other row owns it, and the halfword tests give the row's length. -/
theorem decodeReadsWhatEncodeWrites : Obligations.DecodeReadsWhatEncodeWrites := by
  refine ⟨fun i bytes rest wf encoded => ?_, fun i _ => (encodeBytes_isSome_iff i).trans Instr.lost_eq_false_iff⟩
  have found : i.lost = false := (encodeBytes_isSome_iff i).mp (by rw [encoded]; rfl)
  obtain ⟨r, row, ⟨built, fits⟩, clear⟩ := opRows_clear (Instr.known_of_lost_eq_false found) wf
  obtain rfl := Option.some.inj (encoded.symm.trans (encodeBytes_of_row found row))
  rw [length_bytesOfNat]
  exact decodeBytes_word row fits clear built rest
end

section
/-!
PROOFS. Sample words (30_encoding.md).
-/

/-- Settles O60: the decoder evaluated on the six words. -/
theorem sampleWordsDecode : Obligations.SampleWordsDecode := by
  refine ⟨?_, ?_, ?_, ?_, ?_, ?_⟩ <;> decide +kernel
end

section
/-!
PROOFS. Sums, differences, saturated and clipped results (40_arith_logic.md, 41_data_bit_branch.md).
-/

namespace Sys2Proof.Machine

/-! ## Exact results -/

theorem outOfRange_iff (x : Int) : outOfRange x = true ↔ overflows x := by
  rw [outOfRange, Bool.or_eq_true, decide_eq_true_eq, decide_eq_true_eq, overflows]

theorem zeroFlag_iff (r : Word) : zeroFlag r = true ↔ r = 0 := beq_iff_eq

/-- R350: the sum of the model is the exact sum modulo 2^32. -/
theorem addF_result (a b : Word) (c : Bool) : (addF a b c).1 = BitVec.ofNat 32 (a.toNat + b.toNat + c.toNat) := by
  cases c <;> simp [addF, BitVec.ofNat_add]

/-- R351: the difference of the model is the exact difference modulo 2^32. -/
theorem subF_result (a b : Word) (c : Bool) : (subF a b c).1 = BitVec.ofInt 32 ((a.toNat : Int) - b.toNat - c.toNat) := by
  apply BitVec.eq_of_toNat_eq
  cases c <;> simp [subF, BitVec.toNat_ofInt, BitVec.toNat_sub] <;> omega

section
variable {i : Instr} {s : State} {dst : Reg} {len : Nat} {a b : Word}

/-- R350: `State.arith` of a sum. -/
theorem GivesSum.of_arith (c : Bool) (h : exec i s = s.arith dst (addF a b c) len) : GivesSum i s len dst a b c.toNat := by
  unfold GivesSum
  rw [← addF_result]
  exact GivesFlags.of_arith h decide_eq_true_iff (outOfRange_iff _) (signFlag_eq_true_iff _) (zeroFlag_iff _)

/-- R351: `State.arith` of a difference. -/
theorem GivesDifference.of_arith (c : Bool) (h : exec i s = s.arith dst (subF a b c) len) :
    GivesDifference i s len dst a b c.toNat := by
  unfold GivesDifference
  rw [← subF_result]
  exact GivesFlags.of_arith h decide_eq_true_iff (outOfRange_iff _) (signFlag_eq_true_iff _) (zeroFlag_iff _)

/-! ## Saturation -/

/-- R353: the saturated word of the model is that of the rule. -/
theorem satWord_eq_saturate (x : Int) : satWord x = saturate x := by
  unfold satWord saturate
  split
  · next high =>
    have clamped : max (-2 ^ 31) (min x (2 ^ 31 - 1)) = (2 ^ 31 - 1 : Int) := by omega
    rw [clamped]
    rfl
  · split
    · next low =>
      have clamped : max (-2 ^ 31) (min x (2 ^ 31 - 1)) = (-2 ^ 31 : Int) := by omega
      rw [clamped]
      rfl
    · next high low =>
      have kept : max (-2 ^ 31) (min x (2 ^ 31 - 1)) = x := by omega
      rw [kept]

/-- R371, R372: a saturated result with the flags of its exact operation. -/
theorem GivesSaturated.of_saturated {f : Flags} {x : Int} {cy : Prop} (h : exec i s = s.saturated dst f (satWord x) len)
    (hcy : f.cy = true ↔ cy) (hov : f.ov = outOfRange x) : GivesSaturated i s len dst x cy := by
  rw [satWord_eq_saturate] at h
  refine State.saturated_completes h fun t holds tcy tov tsf tzf tsat => ⟨holds, ⟨?_, ?_, ?_, ?_⟩, ?_⟩
  · rw [tcy, hcy]
  · rw [tov, hov, outOfRange_iff]
  · rw [tsf, signFlag_eq_true_iff]
  · rw [tzf, zeroFlag_iff]
  · rw [tsat, hov, Bool.or_eq_true, outOfRange_iff]

theorem GivesSaturated.of_satAdd (h : exec i s = s.satAdd dst a b len) :
    GivesSaturated i s len dst (a.toInt + b.toInt) (2 ^ 32 ≤ a.toNat + b.toNat) :=
  .of_saturated h decide_eq_true_iff (congrArg outOfRange (Int.add_zero _))

theorem GivesSaturated.of_satSub (h : exec i s = s.satSub dst a b len) :
    GivesSaturated i s len dst (a.toInt - b.toInt) (a.toNat < b.toNat) :=
  .of_saturated h decide_eq_true_iff (congrArg outOfRange (Int.sub_zero _))

/-! ## Clipping -/

/-- R408, R410: clipping a signed word is a saturation. -/
theorem State.clipSigned_eq (lo hi : Int) (order : lo ≤ hi) (reg1 reg2 : Reg) :
    s.clipSigned lo hi reg1 reg2 =
      s.saturated reg2 ⟨false, decide (hi < (s.reg reg1).toInt) || decide ((s.reg reg1).toInt < lo), false, false⟩
        (BitVec.ofInt 32 (max lo (min (s.reg reg1).toInt hi))) 4 := by
  have value : (if hi < (s.reg reg1).toInt then BitVec.ofInt 32 hi
      else if (s.reg reg1).toInt < lo then BitVec.ofInt 32 lo else s.reg reg1) =
      BitVec.ofInt 32 (max lo (min (s.reg reg1).toInt hi)) := by
    split
    · rw [Int.min_eq_right (by omega), Int.max_eq_right order]
    · rw [Int.min_eq_left (by omega)]
      split
      · rw [Int.max_eq_left (by omega)]
      · rw [Int.max_eq_right (by omega), BitVec.ofInt_toInt]
  unfold State.clipSigned
  dsimp only
  rw [value]
  rfl

/-- R409, R411: clipping an unsigned word is a saturation: its result is not negative. -/
theorem State.clipUnsigned_eq (hi : Nat) (small : hi < 2 ^ 31) (reg1 reg2 : Reg) :
    s.clipUnsigned hi reg1 reg2 =
      s.saturated reg2 ⟨false, decide (hi < (s.reg reg1).toNat), false, false⟩
        (BitVec.ofInt 32 (max 0 (min ((s.reg reg1).toNat : Int) hi))) 4 := by
  have clipped : max 0 (min ((s.reg reg1).toNat : Int) hi) = ((min (s.reg reg1).toNat hi : Nat) : Int) := by omega
  have value : (if decide (hi < (s.reg reg1).toNat) = true then BitVec.ofNat 32 hi else s.reg reg1) =
      BitVec.ofInt 32 (max 0 (min ((s.reg reg1).toNat : Int) hi)) := by
    rw [clipped, BitVec.ofInt_natCast]
    by_cases above : hi < (s.reg reg1).toNat
    · rw [if_pos (decide_eq_true above), Nat.min_eq_right (by omega)]
    · rw [if_neg (by rwa [decide_eq_true_eq]), Nat.min_eq_left (by omega), BitVec.ofNat_toNat, BitVec.setWidth_eq]
  have positive : signFlag (BitVec.ofInt 32 (max 0 (min ((s.reg reg1).toNat : Int) hi))) = false := by
    rw [clipped, BitVec.ofInt_natCast, signFlag, BitVec.msb_eq_false_iff_two_mul_lt, BitVec.toNat_ofNat]
    omega
  unfold State.clipUnsigned State.saturated satFlags
  dsimp only
  rw [value, positive]

/-- R408 to R411: a clip completes as the rule says. -/
theorem clip_completes {reg2 : Reg} {ov : Bool} {x lo hi : Int} (hov : ov = true ↔ x < lo ∨ hi < x)
    (h : exec i s = s.saturated reg2 ⟨false, ov, false, false⟩ (BitVec.ofInt 32 (max lo (min x hi))) 4) :
    Completes i s 4 (only reg2) noByte 0x1F fun t =>
      t.Holds reg2 (BitVec.ofInt 32 (max lo (min x hi))) ∧
        t.FlagsAre False (x < lo ∨ hi < x) ((BitVec.ofInt 32 (max lo (min x hi))).toInt < 0)
          (BitVec.ofInt 32 (max lo (min x hi)) = 0) ∧
        (t.sat = true ↔ s.sat = true ∨ x < lo ∨ hi < x) := by
  refine State.saturated_completes h fun t holds tcy tov tsf tzf tsat => ⟨holds, ⟨?_, ?_, ?_, ?_⟩, ?_⟩
  · rw [tcy]
    exact Bool.false_eq_true.to_iff
  · rw [tov, hov]
  · rw [tsf, signFlag_eq_true_iff]
  · rw [tzf, zeroFlag_iff]
  · rw [tsat, Bool.or_eq_true, hov]

theorem clippedSigned_iff (a lo hi : Int) : (decide (hi < a) || decide (a < lo)) = true ↔ a < lo ∨ hi < a := by
  rw [Bool.or_eq_true, decide_eq_true_eq, decide_eq_true_eq, or_comm]

theorem clippedUnsigned_iff (a hi : Nat) : decide (hi < a) = true ↔ (a : Int) < 0 ∨ (hi : Int) < a := by
  rw [decide_eq_true_eq]
  omega

end

end Sys2Proof.Machine
open Sys2Proof.Machine

/-- Settles O1: each of these instructions is `State.arith` of the sum or the difference of its operands. -/
theorem sumsAndDifferencesGiveResultAndFlags : Obligations.SumsAndDifferencesGiveResultAndFlags := by
  constructor
  · intro s reg1 reg2 reg3 imm5 imm16 cccc
    exact ⟨.of_arith false rfl, .of_arith false rfl, .of_arith false rfl, .of_arith (s.cond cccc) rfl⟩
  · intro s reg1 reg2 reg3 imm5 cccc
    exact ⟨.of_arith false rfl, .of_arith false rfl, .of_arith false rfl, .of_arith false rfl, .of_arith (s.cond cccc) rfl⟩

/-- Settles O4: each saturated instruction is `State.saturated` of its exact result, and so is a clip. -/
theorem saturationClampsAndIsSticky : Obligations.SaturationClampsAndIsSticky := by
  constructor
  · intro s reg1 reg2 reg3 imm5 imm16 sum difference
    exact ⟨.of_satAdd rfl, .of_satAdd rfl, .of_satAdd rfl, .of_satSub rfl, .of_satSub rfl, .of_satSub rfl, .of_satSub rfl⟩
  · intro s reg1 reg2 clips
    exact ⟨clip_completes (clippedSigned_iff _ _ _) (State.clipSigned_eq (-128) 127 (by decide) reg1 reg2),
      clip_completes (clippedUnsigned_iff _ _) (State.clipUnsigned_eq 255 (by decide) reg1 reg2),
      clip_completes (clippedSigned_iff _ _ _) (State.clipSigned_eq (-32768) 32767 (by decide) reg1 reg2),
      clip_completes (clippedUnsigned_iff _ _) (State.clipUnsigned_eq 65535 (by decide) reg1 reg2)⟩
end

section
/-!
PROOFS. Products and divisions (40_arith_logic.md).
-/

namespace Sys2Proof.Machine

/-! ## Products -/

theorem extract_high (p : DWord) : p.extractLsb' 32 32 = BitVec.ofNat 32 (p.toNat / 2 ^ 32) := by
  rw [BitVec.extractLsb', Nat.shiftRight_eq_div_pow]

theorem extract_low (p : DWord) : p.extractLsb' 0 32 = BitVec.ofNat 32 p.toNat := by
  rw [BitVec.extractLsb', Nat.shiftRight_zero]

/-- R383: the signed product of 64 bits. -/
theorem signExtend_mul {m n : Nat} (a : BitVec m) (b : BitVec n) :
    a.signExtend 64 * b.signExtend 64 = BitVec.ofInt 64 (a.toInt * b.toInt) := (BitVec.ofInt_mul ..).symm

/-- R386: the unsigned product of 64 bits. -/
theorem setWidth_mul {m n : Nat} (a : BitVec m) (b : BitVec n) :
    a.setWidth 64 * b.setWidth 64 = BitVec.ofNat 64 (a.toNat * b.toNat) := by
  rw [BitVec.ofNat_mul, BitVec.ofNat_toNat, BitVec.ofNat_toNat]

section
variable {i : Instr} {s : State}

/-- R383: `State.product`, with the halves of the product as the rule writes them. -/
theorem product_completes_of {lo hi : Reg} {p q : DWord} (h : exec i s = s.product lo hi q) (value : q = p) :
    Completes i s 4 (fun r => r = lo ∨ r = hi) noByte 0 fun t =>
      t.Holds hi (.ofNat 32 (p.toNat / 2 ^ 32)) ∧ (lo ≠ hi → t.Holds lo (.ofNat 32 p.toNat)) := by
  rw [← extract_high, ← extract_low, ← value]
  exact State.product_completes h

/-! ## Divisions -/

/-- R364, R365: what a division of `a` by `b` gives, where `wraps` tells that the quotient is out of range. -/
structure Division.Divides (d : Division) (a b : Int) (wraps : Prop) : Prop where
  quotient : ∀ old, d.quotient.getD old = if b = 0 then old else BitVec.ofInt 32 (a.tdiv b)
  remainder : ¬ (b = 0 ∨ wraps) → d.remainder = BitVec.ofInt 32 (a - a.tdiv b * b)
  noRemainder : b = 0 ∨ wraps → d.remainder = 0
  ov : d.flags.ov = true ↔ b = 0 ∨ wraps
  sf : d.flags.s = true ↔ b ≠ 0 ∧ (BitVec.ofInt 32 (a.tdiv b)).toInt < 0
  zf : d.flags.z = true ↔ b ≠ 0 ∧ a.tdiv b = 0

theorem Division.Divides.congr {d : Division} {a b : Int} {p q : Prop} (h : d.Divides a b p) (same : p ↔ q) :
    d.Divides a b q := by
  rwa [propext same] at h

/-- A quotient of words is in range, but for one. -/
theorem tdiv_range {a b : Int} (low : -2 ^ 31 ≤ a) (high : a < 2 ^ 31) (nonzero : b ≠ 0) (fits : ¬ (a = -2 ^ 31 ∧ b = -1)) :
    -2 ^ 31 ≤ a.tdiv b ∧ a.tdiv b < 2 ^ 31 := by
  have magnitude : (a.tdiv b).natAbs = a.natAbs / b.natAbs := Int.natAbs_tdiv a b
  have bound : a.natAbs / b.natAbs ≤ a.natAbs := Nat.div_le_self _ _
  by_cases unit : b = -1
  · subst unit
    rw [Int.tdiv_neg, Int.tdiv_one]
    omega
  · by_cases one : b = 1
    · subst one
      rw [Int.tdiv_one]
      omega
    · have half : a.natAbs / b.natAbs ≤ a.natAbs / 2 := Nat.div_le_div_left (by omega) (by decide)
      omega

theorem toInt_ofInt_of_range {x : Int} (low : -2 ^ 31 ≤ x) (high : x < 2 ^ 31) : (BitVec.ofInt 32 x).toInt = x := by
  rw [BitVec.toInt_ofInt, Int.bmod_eq_of_le (by omega) (by omega)]

theorem divideSigned_divides {a b : Int} (low : -2 ^ 31 ≤ a) (high : a < 2 ^ 31) :
    (divideSigned a b).Divides a b (a = -2 ^ 31 ∧ b = -1) := by
  unfold divideSigned
  by_cases zero : b = 0
  · rw [if_pos zero]
    exact ⟨fun _ => (if_pos zero).symm, fun other => absurd (.inl zero) other, fun _ => rfl, by simp [zero], by simp [zero],
      by simp [zero]⟩
  · rw [if_neg zero]
    by_cases wraps : a = -2 ^ 31 ∧ b = -1
    · rw [if_pos wraps]
      obtain ⟨rfl, rfl⟩ := wraps
      exact ⟨fun _ => rfl, fun other => absurd (.inr ⟨rfl, rfl⟩) other, fun _ => rfl, by decide, by decide, by decide⟩
    · rw [if_neg wraps]
      obtain ⟨above, below⟩ := tdiv_range low high zero wraps
      refine ⟨fun _ => by rw [if_neg zero]; rfl, fun _ => rfl, fun other => absurd other (not_or_intro zero wraps), ?_, ?_, ?_⟩
      · exact iff_of_false Bool.false_ne_true (not_or_intro zero wraps)
      · rw [toInt_ofInt_of_range above below]
        simp [zero]
      · simp [zero]

theorem divideUnsigned_divides {a b : Nat} (small : a < 2 ^ 32) : (divideUnsigned a b).Divides a b False := by
  unfold divideUnsigned
  by_cases zero : b = 0
  · rw [if_pos zero]
    have zero' : (b : Int) = 0 := by omega
    exact ⟨fun _ => (if_pos zero').symm, fun other => absurd (.inl zero') other, fun _ => rfl, by simp [zero], by simp [zero],
      by simp [zero]⟩
  · rw [if_neg zero]
    have zero' : (b : Int) ≠ 0 := by omega
    have quotient : ((a : Int).tdiv b) = ((a / b : Nat) : Int) := (Int.ofNat_tdiv a b).symm
    have remainder : (a : Int) - ((a / b : Nat) : Int) * b = ((a % b : Nat) : Int) := by
      have := Nat.div_add_mod' a b
      omega
    refine ⟨fun _ => ?_, fun _ => ?_, fun other => absurd other (not_or_intro zero' id),
      iff_of_false Bool.false_ne_true (not_or_intro zero' id), ?_, ?_⟩
    · rw [if_neg zero', quotient, BitVec.ofInt_natCast]
      rfl
    · rw [quotient, remainder, BitVec.ofInt_natCast]
    · rw [quotient, BitVec.ofInt_natCast]
      exact (signFlag_eq_true_iff _).trans (and_iff_right zero').symm
    · rw [quotient]
      refine (zeroFlag_iff _).trans ?_
      rw [← BitVec.toNat_inj, BitVec.toNat_ofNat, Nat.mod_eq_of_lt (Nat.lt_of_le_of_lt (Nat.div_le_self a b) small)]
      exact Int.natCast_eq_zero.symm.trans (and_iff_right zero').symm

/-- R364: `State.divide2` gives its remainder and its quotient, with the flags of the rule. -/
theorem divide2_completes_of {q r : Reg} {d : Division} {a b : Int} {wraps : Prop} [Decidable wraps]
    (h : exec i s = s.divide2 q r d) (divides : d.Divides a b wraps) :
    Completes i s 4 (fun k => k = q ∨ k = r) noByte 0x7 fun t =>
      t.Holds r (if b = 0 ∨ wraps then 0 else .ofInt 32 (a - a.tdiv b * b)) ∧
        (q ≠ r →
          t.Holds q (if b = 0 then s.reg q else .ofInt 32 (a.tdiv b)) ∧ (t.ov = true ↔ b = 0 ∨ wraps) ∧
            (t.sf = true ↔ b ≠ 0 ∧ (BitVec.ofInt 32 (a.tdiv b)).toInt < 0) ∧ (t.zf = true ↔ b ≠ 0 ∧ a.tdiv b = 0)) := by
  have value : d.remainder = if b = 0 ∨ wraps then 0 else .ofInt 32 (a - a.tdiv b * b) := by
    split
    · next out => exact divides.noRemainder out
    · next fits => exact divides.remainder fits
  obtain ⟨t, run, next, frame, units, holds, apart⟩ := State.divide2_completes h
  refine ⟨t, run, next, frame, units, value ▸ holds, fun distinct => ?_⟩
  obtain ⟨quotient, ov, sf, zf⟩ := apart distinct
  rw [ov, sf, zf, ← divides.quotient]
  exact ⟨quotient, divides.ov, divides.sf, divides.zf⟩

/-- The end of a division without a remainder, from the state `u` that holds the quotient. -/
theorem divide1_tail {u : State} {q : Reg} {f : Flags} {v : Word} {len : Nat} (frame : s.Frame u (only q) noByte 7)
    (units : s.SameUnits u) (pc : u.pc = s.pc) (holds : u.Holds q v) (h : exec i s = .next ((u.setFlagsNoCy f).advance len)) :
    Completes i s len (only q) noByte 0x7 fun t => t.Holds q v ∧ t.ov = f.ov ∧ t.sf = f.s ∧ t.zf = f.z := by
  refine ⟨_, h, by simp [State.NextAfter, pc], (frame.trans (State.frame_setFlagsNoCy _ _ rfl)).trans (State.frame_advance _ _),
    units.trans ⟨by simp, by simp, by simp, by simp⟩, State.holds_congr holds (by simp), ?_⟩
  obtain ⟨-, ov, sf, zf, -⟩ := State.setFlagsNoCy_flags u f
  exact ⟨by simpa [State.ov] using ov, by simpa [State.sf] using sf, by simpa [State.zf] using zf⟩

/-- R366: `State.divide1` gives its quotient, with the flags of the rule. -/
theorem divide1_completes {q : Reg} {d : Division} {a b : Int} {wraps : Prop} {len : Nat} (h : exec i s = s.divide1 q d len)
    (divides : d.Divides a b wraps) :
    Completes i s len (only q) noByte 0x7 fun t =>
      t.Holds q (if b = 0 then s.reg q else .ofInt 32 (a.tdiv b)) ∧ (t.ov = true ↔ b = 0 ∨ wraps) ∧
        (t.sf = true ↔ b ≠ 0 ∧ (BitVec.ofInt 32 (a.tdiv b)).toInt < 0) ∧ (t.zf = true ↔ b ≠ 0 ∧ a.tdiv b = 0) := by
  have completes : Completes i s len (only q) noByte 0x7 fun t =>
      t.Holds q (d.quotient.getD (s.reg q)) ∧ t.ov = d.flags.ov ∧ t.sf = d.flags.s ∧ t.zf = d.flags.z := by
    clear divides
    obtain ⟨_ | v, rem, f⟩ := d
    · exact divide1_tail ((State.Frame.refl s).mono (fun _ h => h.elim) (fun _ h => h) (by simp)) (.refl s) rfl
        (State.holds_self _ _) h
    · exact divide1_tail (State.frame_setReg _ _ _ (only_self _)) (State.units_setReg _ _ _) (by simp) (State.holds_setReg _ _ _) h
  obtain ⟨t, run, next, frame, units, quotient, ov, sf, zf⟩ := completes
  refine ⟨t, run, next, frame, units, divides.quotient _ ▸ quotient, ?_⟩
  rw [ov, sf, zf]
  exact ⟨divides.ov, divides.sf, divides.zf⟩
end

theorem Word.toInt_range (v : Word) : -2 ^ 31 ≤ v.toInt ∧ v.toInt < 2 ^ 31 := ⟨BitVec.le_toInt v, BitVec.toInt_lt⟩

theorem low_eq_setWidth (v : Word) : v.extractLsb' 0 16 = v.setWidth 16 := (BitVec.setWidth_eq_extractLsb' (by decide)).symm

/-- R387: the signed product added to a pair. -/
theorem signed_mac (a b : Word) (c : DWord) :
    a.signExtend 64 * b.signExtend 64 + c = BitVec.ofInt 64 (a.toInt * b.toInt + c.toInt) := by
  rw [BitVec.ofInt_add, BitVec.ofInt_toInt, signExtend_mul]

/-- R388: the unsigned product added to a pair. -/
theorem unsigned_mac (a b : Word) (c : DWord) :
    a.setWidth 64 * b.setWidth 64 + c = BitVec.ofNat 64 (a.toNat * b.toNat + c.toNat) := by
  rw [BitVec.ofNat_add, BitVec.ofNat_toNat, BitVec.setWidth_eq, setWidth_mul]

end Sys2Proof.Machine
open Sys2Proof.Machine

/-- Settles O5: the products are `State.product`, MAC and MACU into a pair; the divisions are `State.divide2` and `State.divide1` of a
quotient truncated toward zero. -/
theorem productsAndDivisionsFillTheirRegisters : Obligations.ProductsAndDivisionsFillTheirRegisters := by
  refine ⟨?products, ?divisions, ?withoutRemainder⟩
  case products =>
    intro s reg1 reg2 reg3 pair3 pair4 imm9 two both
    exact ⟨product_completes_of rfl (signExtend_mul _ _), product_completes_of rfl (signExtend_mul _ _),
      product_completes_of rfl (setWidth_mul _ _), product_completes_of rfl (setWidth_mul _ _),
      product_completes_of rfl (signed_mac _ _ _), product_completes_of rfl (unsigned_mac _ _ _)⟩
  case divisions =>
    intro s reg1 reg2 reg3 divides a b half
    obtain ⟨low, high⟩ := Word.toInt_range a
    have signed (d : Int) : (divideSigned a.toInt d).Divides a.toInt d (true = true ∧ a.toInt = -2 ^ 31 ∧ d = -1) :=
      (divideSigned_divides low high).congr (and_iff_right rfl).symm
    have unsigned (d : Nat) : (divideUnsigned a.toNat d).Divides a.toNat d (false = true ∧ (a.toNat : Int) = -2 ^ 31 ∧ (d : Int) = -1) :=
      (divideUnsigned_divides a.isLt).congr ⟨False.elim, fun h => Bool.false_ne_true h.1⟩
    have narrow := lowSigned_eq_toInt_setWidth b
    refine ⟨divide2_completes_of rfl (signed _), ?_, divide2_completes_of rfl (signed _), divide2_completes_of rfl (unsigned _), ?_,
      divide2_completes_of rfl (unsigned _)⟩
    · exact divide2_completes_of rfl (narrow ▸ signed _)
    · exact divide2_completes_of rfl (low_eq_setWidth b ▸ unsigned _)
  case withoutRemainder =>
    intro s reg1 reg2 a b
    obtain ⟨low, high⟩ := Word.toInt_range (s.reg reg2)
    refine divide1_completes rfl ?_
    rw [lowSigned_eq_toInt_setWidth]
    exact divideSigned_divides low high
end

section
/-!
PROOFS. Bit fields, shifts and bit instructions (41_data_bit_branch.md).
-/

namespace Sys2Proof.Machine

/-! ## Bit fields -/

section
variable {i : Instr} {s : State}

/-- The mask of the bits `hi` to `lo`. -/
theorem fieldMask_getLsbD {hi lo k : Nat} (order : lo ≤ hi) (small : k < 32) :
    (BitVec.ofNat 32 ((2 ^ (hi - lo + 1) - 1) <<< lo)).getLsbD k = decide (lo ≤ k ∧ k ≤ hi) := by
  rw [BitVec.getLsbD_ofNat, Nat.testBit_shiftLeft, Nat.testBit_two_pow_sub_one, Bool.eq_iff_iff]
  simp only [Bool.and_eq_true, decide_eq_true_eq]
  omega

/-- R405: the field of reg2 takes the low bits of reg1. -/
theorem bins_inserts {hi lo : Nat} {reg1 reg2 : Reg} (h : exec i s = s.bins hi lo reg1 reg2) (order : lo ≤ hi) :
    ∃ r : Word,
      (∀ k, k < 32 → r.getLsbD k = if lo ≤ k ∧ k ≤ hi then (s.reg reg1).getLsbD (k - lo) else (s.reg reg2).getLsbD k) ∧
      GivesLogical i s 4 reg2 r := by
  rw [State.bins, if_neg (Nat.not_lt.mpr order)] at h
  refine ⟨_, fun k small => ?_, State.logic_completes h⟩
  rw [putMasked_getLsbD, fieldMask_getLsbD order small]
  by_cases inside : lo ≤ k ∧ k ≤ hi
  · rw [if_pos (decide_eq_true inside), if_pos inside, BitVec.getLsbD_shiftLeft]
    simp [small, Nat.not_lt.mpr inside.1]
  · rw [if_neg (by rwa [decide_eq_true_eq]), if_neg inside]

/-- R405, 93_implementation_defined.md U6: an empty field. -/
theorem bins_free {hi lo : Nat} {reg1 reg2 : Reg} (h : exec i s = s.bins hi lo reg1 reg2) (empty : hi < lo) :
    Completes i s 4 (only reg2) noByte 0x7 fun _ => True := by
  rw [State.bins, if_pos empty] at h
  exact ⟨_, h, by simp [State.NextAfter], (((State.frame_setReg _ _ _ (only_self _)).trans (State.frame_setFlagsNoCy _ _ rfl)).trans
    (State.frame_skipFree _ _)).trans (State.frame_advance _ _), ⟨by simp, by simp, by simp, by simp⟩, trivial⟩

/-! ## Shifts -/

/-- The last bit shifted out. -/
theorem shiftedOut_iff {n : Nat} {b : Bool} : (decide (0 < n) && b) = true ↔ n ≠ 0 ∧ b = true := by
  rw [Bool.and_eq_true, decide_eq_true_eq, Nat.pos_iff_ne_zero]

/-- R415, R416, R419, R420: a result with the flags of a shift. -/
theorem GivesFlags.of_shift {dst : Reg} {len n : Nat} {w r : Word} {b : Bool} (value : w = r)
    (h : exec i s = s.arith dst (w, shiftFlags (decide (0 < n) && b) w) len) :
    GivesFlags i s len dst r (n ≠ 0 ∧ b = true) False (r.toInt < 0) (r = 0) :=
  value ▸ .of_arith h shiftedOut_iff Bool.false_eq_true.to_iff (signFlag_eq_true_iff w) (zeroFlag_iff w)
end

theorem shiftLeft_eq_ofNat (v : Word) (n : Nat) : v <<< n = BitVec.ofNat 32 (v.toNat * 2 ^ n) := by
  rw [← BitVec.toNat_inj, BitVec.toNat_shiftLeft, BitVec.toNat_ofNat, Nat.shiftLeft_eq]

theorem shiftRight_eq_ofNat (v : Word) (n : Nat) : v >>> n = BitVec.ofNat 32 (v.toNat / 2 ^ n) := by
  rw [← BitVec.toNat_inj, BitVec.toNat_ushiftRight, BitVec.toNat_ofNat, Nat.shiftRight_eq_div_pow,
    Nat.mod_eq_of_lt (Nat.lt_of_le_of_lt (Nat.div_le_self _ _) v.isLt)]

theorem sshiftRight_eq_ofInt (v : Word) (n : Nat) : v.sshiftRight n = BitVec.ofInt 32 (v.toInt / 2 ^ n) := by
  rw [BitVec.sshiftRight, Int.shiftRight_eq_div_pow]
  norm_cast

/-- R415: a rotation of the model. -/
theorem rotlF_eq (v : Word) {n : Nat} (small : n < 32) :
    rotlF v n = (v.rotateLeft n, shiftFlags (decide (0 < n) && (v.rotateLeft n).getLsbD 0) (v.rotateLeft n)) := by
  have rotated : v <<< n ||| v >>> (32 - n) = v.rotateLeft n := by
    rw [BitVec.rotateLeft, BitVec.rotateLeftAux, Nat.mod_eq_of_lt small]
  rw [rotlF, rotated]

/-- R416: the amount in a register is modulo 32. -/
theorem shiftAmount_eq (v : Word) : shiftAmount v = v.toNat % 32 := by
  rw [shiftAmount, BitVec.extractLsb'_toNat, Nat.shiftRight_zero]

/-! ## Bit instructions -/

theorem bitNumber_eq (v : Word) : bitNumber v = v.toNat % 8 := by
  rw [bitNumber, BitVec.extractLsb'_toNat, Nat.shiftRight_zero]

/-- A byte with one bit replaced. -/
theorem changedBit_getLsbD (v : Byte) {n k : Nat} (b : Bool) (small : n < 8) (inside : k < 8) :
    (if b then v ||| BitVec.twoPow 8 n else v &&& ~~~ BitVec.twoPow 8 n).getLsbD k = if k = n then b else v.getLsbD k := by
  by_cases same : k = n
  · subst same
    cases b <;> simp [inside]
  · cases b <;> simp [inside, same]

section
variable {i : Instr} {s : State}

theorem setZ_zf (s : State) (z : Bool) : (s.setZ z).zf = z := by
  unfold State.setZ State.zf
  rw [State.setPsw_psw, putBit_getLsbD _ _ _ _ (by decide), if_pos rfl]

/-- R433: a bit is tested, then changed in its byte. -/
theorem modifyBit_completes {a : Word} {n : Nat} {f : Bool → Bool} (wf : s.memWf) (small : n < 8)
    (h : exec i s = s.modifyBit a n f) (may : s.MayAccess a 1 [.read, .write]) :
    Completes i s 4 noReg (storedBytes a 1) 0x1 fun t =>
      (t.zf = true ↔ (s.readByte a).getLsbD n = false) ∧
        ∀ k, k < 8 → (t.readByte a).getLsbD k = if k = n then f ((s.readByte a).getLsbD n) else (s.readByte a).getLsbD k := by
  rw [State.modifyBit, State.access_may may] at h
  have wf' : (s.setZ (!(s.readByte a).getLsbD n)).memWf := by rwa [State.memWf, State.setZ_mem]
  refine ⟨_, h, by simp [State.NextAfter], ((State.frame_setZ _ _ rfl).trans (State.frame_writeByte wf' _ _)).trans
    (State.frame_advance _ _), ⟨by simp, by simp, by simp, by simp⟩, ?_, fun k hk => ?_⟩
  · have z := setZ_zf s (!(s.readByte a).getLsbD n)
    simp only [State.zf, State.advance_psw, State.writeByte_psw] at z ⊢
    rw [z, Bool.not_eq_true']
  · rw [State.advance_readByte, State.readByte_writeByte _ wf', if_pos rfl]
    exact changedBit_getLsbD _ _ small hk

/-- R432: a bit is tested. -/
theorem testBit_completes {a : Word} {n : Nat} (h : exec i s = s.testBit a n) (may : s.MayAccess a 1 [.read]) :
    Completes i s 4 noReg noByte 0x1 fun t => (t.zf = true ↔ (s.readByte a).getLsbD n = false) := by
  rw [State.testBit, State.access_may may] at h
  refine ⟨_, h, by simp [State.NextAfter], (State.frame_setZ _ _ rfl).trans (State.frame_advance _ _),
    ⟨by simp, by simp, by simp, by simp⟩, ?_⟩
  have z := setZ_zf s (!(s.readByte a).getLsbD n)
  simp only [State.zf, State.advance_psw] at z ⊢
  rw [z, Bool.not_eq_true']
end

end Sys2Proof.Machine
open Sys2Proof.Machine

/-- Settles O7: BINS is a logical result under the mask of its field; each shift is its arithmetic meaning. -/
theorem bitFieldsAndShiftsMoveBits : Obligations.BitFieldsAndShiftsMoveBits := by
  constructor
  · intro s msb lsb reg1 reg2 inserts
    exact ⟨⟨bins_inserts rfl, bins_free rfl⟩, ⟨bins_inserts rfl, bins_free rfl⟩, ⟨bins_inserts rfl, bins_free rfl⟩⟩
  · intro s reg1 reg2 reg3 imm5 v amount moves left right arithmetic around
    have register : shiftAmount (s.reg reg1) = amount := shiftAmount_eq _
    have small : amount < 32 := Nat.mod_lt _ (by decide)
    refine ⟨?_, .of_shift (shiftLeft_eq_ofNat _ _) rfl, ?_, ?_, .of_shift (shiftRight_eq_ofNat _ _) rfl, ?_,
      ?_, .of_shift (sshiftRight_eq_ofInt _ _) rfl, ?_, ?_, ?_⟩
    case refine_1 | refine_2 => exact .of_shift (shiftLeft_eq_ofNat _ _) (register ▸ rfl)
    case refine_3 | refine_4 => exact .of_shift (shiftRight_eq_ofNat _ _) (register ▸ rfl)
    case refine_5 | refine_6 => exact .of_shift (sshiftRight_eq_ofInt _ _) (register ▸ rfl)
    case refine_7 => exact .of_shift rfl (rotlF_eq v imm5.isLt ▸ rfl)
    case refine_8 => exact .of_shift rfl (rotlF_eq v small ▸ register ▸ rfl)

/-- Settles O9: each bit instruction is `State.modifyBit` or `State.testBit`. -/
theorem bitInstructionsChangeOneBit : Obligations.BitInstructionsChangeOneBit := by
  intro s reg1 reg2 bit3 disp16 wf here there number changes tests
  have register : bitNumber (s.reg reg2) = number := bitNumber_eq _
  have small : number < 8 := Nat.mod_lt _ (by decide)
  refine ⟨modifyBit_completes (f := fun _ => true) wf bit3.isLt rfl, ?_, modifyBit_completes (f := fun _ => false) wf bit3.isLt rfl,
    ?_, modifyBit_completes wf bit3.isLt rfl, ?_, testBit_completes rfl, ?_⟩
  case refine_1 => exact modifyBit_completes (f := fun _ => true) wf small (register ▸ rfl)
  case refine_2 => exact modifyBit_completes (f := fun _ => false) wf small (register ▸ rfl)
  case refine_3 => exact modifyBit_completes wf small (register ▸ rfl)
  case refine_4 => exact testBit_completes (register ▸ rfl)
end

section
/-!
PROOFS. Branches, jumps, table calls and the loop (41_data_bit_branch.md, 43_special_stack_atomic.md).
-/

namespace Sys2Proof.Machine

/-! ## Displacements -/

theorem dispLow_getLsbD {n : Nat} (d : BitVec n) (j k : Nat) : (dispLow d j).getLsbD k = (decide (j ≤ k) && d.getLsbD (k - j)) := by
  rw [dispLow, BitVec.getLsbD_append]
  by_cases low : k < j
  · simp [low, Nat.not_le.mpr low]
  · simp [low, Nat.not_lt.mp low]

theorem zextW_dispLow {n : Nat} (d : BitVec n) (j : Nat) : zextW (dispLow d j) = d.setWidth 32 <<< j := by
  refine BitVec.eq_of_getLsbD_eq fun k small => ?_
  rw [zextW, BitVec.getLsbD_setWidth, dispLow_getLsbD, BitVec.getLsbD_shiftLeft, BitVec.getLsbD_setWidth]
  by_cases low : k < j
  · simp [low, Nat.not_le.mpr low]
  · simp [low, small, Nat.not_lt.mp low, Nat.lt_of_le_of_lt (Nat.sub_le k j) small]

theorem sextW_dispLow {n : Nat} (d : BitVec (n + 1)) (j : Nat) : sextW (dispLow d j) = d.signExtend 32 <<< j := by
  refine BitVec.eq_of_getLsbD_eq fun k small => ?_
  have sign : (dispLow d j).msb = d.msb := by
    have top : n + 1 + j - 1 - j = n + 1 - 1 := by omega
    have above : j ≤ n + 1 + j - 1 := by omega
    rw [BitVec.msb_eq_getLsbD_last, BitVec.msb_eq_getLsbD_last, dispLow_getLsbD, top, decide_eq_true above, Bool.true_and]
  rw [sextW, BitVec.getLsbD_signExtend, dispLow_getLsbD, BitVec.getLsbD_shiftLeft, BitVec.getLsbD_signExtend, sign]
  by_cases low : k < j
  · have inside : k < n + 1 + j := by omega
    simp [low, inside, Nat.not_le.mpr low]
  · have same : k < n + 1 + j ↔ k - j < n + 1 := by omega
    have small' : k - j < 32 := by omega
    simp [low, small, small', same, Nat.not_lt.mp low]

theorem dispLow_full (d : BitVec 31) : dispLow d 1 = d.setWidth 32 <<< 1 := by
  rw [← zextW_dispLow, zextW, BitVec.setWidth_eq]

section
variable {i : Instr} {s : State}

/-! ## Jumps -/

theorem BranchesTo.jump {a b : Word} (h : exec i s = .next (s.jump a)) (target : a = b) : BranchesTo i s b noReg 0 fun _ => True :=
  ⟨_, h, by rw [State.jump_pc, target], State.frame_jump _ _, ⟨by simp, by simp, by simp, by simp⟩, trivial⟩

theorem BranchesTo.next {n : Nat} (h : exec i s = .next (s.advance n)) :
    BranchesTo i s (s.pc + BitVec.ofNat 32 n) noReg 0 fun _ => True :=
  ⟨_, h, State.advance_pc s n, State.frame_advance _ _, ⟨by simp, by simp, by simp, by simp⟩, trivial⟩

/-- R400: the branch is taken where the condition holds. -/
theorem BranchesTo.conditional {c : Bool} {a b : Word} {n : Nat} (h : exec i s = if c then .next (s.jump a) else .next (s.advance n))
    (target : a = b) : BranchesTo i s (if c then b else s.pc + BitVec.ofNat 32 n) noReg 0 fun _ => True := by
  cases c
  · exact BranchesTo.next h
  · exact BranchesTo.jump h target

/-- R401: the return address goes to a register. -/
theorem BranchesTo.link {r : Reg} {a b v : Word} (h : exec i s = .next ((s.setReg r v).jump a)) (target : a = b) :
    BranchesTo i s b (only r) 0 fun t => t.Holds r v :=
  ⟨_, h, by rw [State.jump_pc, target], (State.frame_setReg _ _ _ (only_self _)).trans (State.frame_jump _ _),
    ⟨by simp, by simp, by simp, by simp⟩, State.holds_congr (State.holds_setReg s r v) (by simp)⟩

/-! ## LOOP -/

/-- R404: the sum of a word and -1, with its flags. -/
theorem addF_minusOne (x : Word) : addF x 0xFFFFFFFF false =
    (x - 1, ⟨decide (x ≠ 0), decide (x.toInt = -2 ^ 31), signFlag (x - 1), decide (x = 1)⟩) := by
  have value : x + 0xFFFFFFFF + (BitVec.ofBool false).setWidth 32 = x - 1 := by
    have none : (BitVec.ofBool false).setWidth 32 = (0 : Word) := rfl
    rw [none]
    bv_omega
  have carry : 2 ^ 32 ≤ x.toNat + (0xFFFFFFFF : Word).toNat + false.toNat ↔ x ≠ 0 := by
    rw [ne_eq, ← BitVec.toNat_inj]
    simp only [Bool.toNat_false, BitVec.ofNat_eq_ofNat, BitVec.toNat_ofNat]
    omega
  have minusOne : (0xFFFFFFFF : Word).toInt = -1 := by decide
  have overflow : outOfRange (x.toInt + (0xFFFFFFFF : Word).toInt + false.toNat) = decide (x.toInt = -2 ^ 31) := by
    obtain ⟨low, high⟩ := Word.toInt_range x
    rw [Bool.eq_iff_iff, outOfRange_iff, overflows, minusOne, decide_eq_true_eq, Bool.toNat_false]
    omega
  have zero : zeroFlag (x - 1) = decide (x = 1) := by
    rw [Bool.eq_iff_iff, zeroFlag_iff, decide_eq_true_eq, sub_eq_zero]
  unfold addF
  dsimp only
  rw [value, overflow, zero, decide_eq_decide.mpr carry]

/-- R404: one register and the four flags, then a jump. -/
theorem flags_jump_branches {r : Reg} {v : Word} {f : Flags} {a b : Word} {t : State} {P : State → Prop}
    (h : exec i s = .next t) (jumps : t = ((s.setReg r v).setFlags f).jump a) (target : a = b)
    (hp : ∀ t : State, t.Holds r v → t.cy = f.cy → t.ov = f.ov → t.sf = f.s → t.zf = f.z → P t) :
    BranchesTo i s b (only r) 0xF P := by
  subst jumps target
  refine ⟨_, h, by simp, ((State.frame_setReg _ _ _ (only_self _)).trans (State.frame_setFlags _ _ rfl)).trans (State.frame_jump _ _),
    ⟨by simp, by simp, by simp, by simp⟩, ?_⟩
  obtain ⟨cy, ov, sf, zf, -⟩ := State.setFlags_flags (s.setReg r v) f
  exact hp _ (State.holds_congr (State.holds_setReg s r v) (by simp)) (by simpa [State.cy] using cy) (by simpa [State.ov] using ov)
    (by simpa [State.sf] using sf) (by simpa [State.zf] using zf)

theorem loop_branches (disp : BitVec 15) (reg1 : Reg) :
    BranchesTo (.loop disp reg1) s (if s.reg reg1 = 1 then s.pc + 4 else s.pc - (disp.setWidth 32 <<< 1)) (only reg1) 0xF fun t =>
      t.Holds reg1 (s.reg reg1 - 1) ∧
        t.FlagsAre (s.reg reg1 ≠ 0) ((s.reg reg1).toInt = -2 ^ 31) ((s.reg reg1 - 1).toInt < 0) (s.reg reg1 = 1) := by
  have ends : s.reg reg1 - 1 = 0 ↔ s.reg reg1 = 1 := sub_eq_zero
  have run : exec (.loop disp reg1) s = .next (((s.setReg reg1 (s.reg reg1 - 1)).setFlags
      ⟨decide (s.reg reg1 ≠ 0), decide ((s.reg reg1).toInt = -2 ^ 31), signFlag (s.reg reg1 - 1), decide (s.reg reg1 = 1)⟩).jump
        (if s.reg reg1 = 1 then s.pc + 4 else s.pc - (disp.setWidth 32 <<< 1))) := by
    show execLoop disp reg1 s = _
    unfold execLoop
    rw [addF_minusOne, zextW_dispLow]
    by_cases last : s.reg reg1 = 1
    · rw [if_pos (ends.mpr last), if_pos last, State.advance]
      simp [State.jump]
    · rw [if_neg fun h => last (ends.mp h), if_neg last]
  refine flags_jump_branches run rfl rfl fun t holds cy ov sf zf => ⟨holds, ?_⟩
  rw [State.FlagsAre, cy, ov, sf, zf, decide_eq_true_eq, decide_eq_true_eq, decide_eq_true_eq, signFlag_eq_true_iff]
  exact ⟨.rfl, .rfl, .rfl, .rfl⟩

/-! ## Tables -/

theorem callt_branches {imm6 : BitVec 6} (permits : s.Permits (s.sys.ctbp + zextW (dispLow imm6 1)) 2 [.read] s.um) :
    ∃ t, exec (.callt imm6) s = .next t ∧
      t.pc = evenPc (s.sys.ctbp + (s.readHalf (s.sys.ctbp + zextW (dispLow imm6 1))).setWidth 32) ∧ s.Frame t noReg noByte 0 ∧
      t.wr = s.wr ∧ t.link = s.link ∧ t.halt = s.halt ∧ t.sys = { s.sys with ctpc := s.pc + 2, ctpsw := t.sys.ctpsw } ∧
      ∀ i, i < 32 → t.sys.ctpsw.getLsbD i = if i < 5 then s.psw.getLsbD i else s.sys.ctpsw.getLsbD i := by
  have run := State.access_ok (k := .next (State.jump { s with
    sys := { s.sys with ctpc := s.pc + 2, ctpsw := putMasked s.sys.ctpsw 0x1F s.psw } }
      (s.sys.ctbp + zextW (s.readHalf (s.sys.ctbp + zextW (dispLow imm6 1))))))
    (x := tableHalf (s.sys.ctbp + zextW (dispLow imm6 1)) true 17) (.inl rfl) permits
  refine ⟨_, run, rfl, ⟨fun _ _ => rfl, fun _ _ => rfl, rfl, rfl, fun m r _ => by cases m <;> rfl, rfl, rfl, rfl, rfl, rfl, rfl, rfl⟩,
    rfl, rfl, rfl, rfl, fun i small => ?_⟩
  have low : (0x1F : Word).getLsbD i = decide (i < 5) := by
    revert i
    decide
  show (putMasked s.sys.ctpsw 0x1F s.psw).getLsbD i = _
  rw [putMasked_getLsbD, low]
  simp only [decide_eq_true_eq]

theorem ctret_branches :
    BranchesTo .ctret s s.sys.ctpc noReg 0x1F fun t => ∀ i, i < 5 → t.psw.getLsbD i = s.sys.ctpsw.getLsbD i := by
  refine ⟨_, rfl, rfl, (State.frame_setPsw _ _ (putMasked_outside ..)).trans (State.frame_jump _ _),
    ⟨by simp, by simp, by simp, by simp⟩, fun i small => ?_⟩
  have low : (0x1F : Word).getLsbD i = true := by
    revert i
    decide
  rw [State.jump_psw, State.setPsw_psw, putMasked_getLsbD, low, if_pos rfl]

theorem switch_branches {reg1 : Reg} (permits : s.Permits (s.pc + 2 + (s.reg reg1 <<< 1)) 2 [.read] s.um) :
    BranchesTo (.switch reg1) s (s.pc + 2 + ((s.readHalf (s.pc + 2 + (s.reg reg1 <<< 1))).signExtend 32 <<< 1)) noReg 0
      fun _ => True :=
  .jump (State.access_ok (x := tableHalf (s.pc + 2 + (s.reg reg1 <<< 1)) false 16) (.inl rfl) permits) rfl

end

end Sys2Proof.Machine
open Sys2Proof.Machine

/-- Settles O10: each branch is a jump, after a register, the flags or the table registers are written. -/
theorem branchesReachTheirTargets : Obligations.BranchesReachTheirTargets := by
  refine ⟨?branches, fun s reg1 disp16 => loop_branches disp16 reg1, ?tables⟩
  case branches =>
    intro s cccc d8 d16 d21 d31 reg1 reg2 reg3 goes links
    exact ⟨.conditional rfl (by rw [sextW_dispLow]), .conditional rfl (by rw [sextW_dispLow]), .jump rfl rfl,
      .jump rfl (by rw [dispLow_full]), .jump rfl (by rw [sextW_dispLow]), .jump rfl (by rw [dispLow_full]),
      .link rfl (by rw [sextW_dispLow]), .link rfl (by rw [dispLow_full]), .link rfl rfl⟩
  case tables =>
    intro s imm6 reg1 entry slot
    exact ⟨callt_branches, ctret_branches, switch_branches⟩
end

section
/-!
PROOFS. Loads and stores (42_load_store.md).
-/

namespace Sys2Proof.Machine

section
variable {i : Instr} {s : State} {z : Size} {u : Bool} {reg1 r : Reg}

/-! ## The forms -/

theorem load16_writes {d : BitVec 16} {a : Word} (h : exec i s = s.load16 z u reg1 d r) (adr : s.reg reg1 + sextW d = a)
    (may : s.MayAccess a z.bytes [.read]) : Writes i s 4 r (s.Loaded a z u) := by
  subst adr
  unfold State.load16 at h
  have completes := State.loadTo_completes h may
  exact completes

theorem load23_writes {d : BitVec 23} {a : Word} (h : exec i s = s.load23 z u reg1 d r) (adr : s.reg reg1 + sextW d = a)
    (may : s.MayAccess a z.bytes [.read]) : Writes i s 6 r (s.Loaded a z u) := by
  subst adr
  unfold State.load23 at h
  have completes := State.loadTo_completes h may
  exact completes

theorem loadEp_writes {d : BitVec 8} {a : Word} (h : exec i s = s.loadEp z u d r) (adr : s.reg ep + zextW d = a)
    (may : s.MayAccess a z.bytes [.read]) : Writes i s 2 r (s.Loaded a z u) := by
  subst adr
  unfold State.loadEp at h
  have completes := State.loadTo_completes h may
  exact completes

/-- R450: what a store leaves, with its bytes one by one. -/
theorem store_completes {x : Access} {len : Nat} (wf : s.memWf) (h : exec i s = s.storeFrom x z r none len)
    (may : s.MayAccess x.adr x.size x.kinds) :
    Completes i s len noReg (storedBytes x.adr z.bytes) 0 fun t => t.Stands x.adr z (s.reg r) ∧
      ∀ k, k < z.bytes → t.readByte (x.adr + BitVec.ofNat 32 k) = (s.reg r).extractLsb' (8 * k) 8 := by
  obtain ⟨t, run, next, frame, units, stands⟩ := State.storeFrom_completes wf h may
  exact ⟨t, run, next, frame, units, stands, fun k small => stands.byte small⟩

theorem store16_completes {d : BitVec 16} {a : Word} (wf : s.memWf) (h : exec i s = s.store16 z reg1 d r)
    (adr : s.reg reg1 + sextW d = a) (may : s.MayAccess a z.bytes [.write]) :
    Completes i s 4 noReg (storedBytes a z.bytes) 0 fun t => t.Stands a z (s.reg r) ∧
      ∀ k, k < z.bytes → t.readByte (a + BitVec.ofNat 32 k) = (s.reg r).extractLsb' (8 * k) 8 := by
  subst adr
  unfold State.store16 at h
  have completes := store_completes wf h may
  exact completes

theorem store23_completes {d : BitVec 23} {a : Word} (wf : s.memWf) (h : exec i s = s.store23 z reg1 d r)
    (adr : s.reg reg1 + sextW d = a) (may : s.MayAccess a z.bytes [.write]) :
    Completes i s 6 noReg (storedBytes a z.bytes) 0 fun t => t.Stands a z (s.reg r) ∧
      ∀ k, k < z.bytes → t.readByte (a + BitVec.ofNat 32 k) = (s.reg r).extractLsb' (8 * k) 8 := by
  subst adr
  unfold State.store23 at h
  have completes := store_completes wf h may
  exact completes

theorem storeEp_completes {d : BitVec 8} {a : Word} (wf : s.memWf) (h : exec i s = s.storeEp z d r)
    (adr : s.reg ep + zextW d = a) (may : s.MayAccess a z.bytes [.write]) :
    Completes i s 2 noReg (storedBytes a z.bytes) 0 fun t => t.Stands a z (s.reg r) ∧
      ∀ k, k < z.bytes → t.readByte (a + BitVec.ofNat 32 k) = (s.reg r).extractLsb' (8 * k) 8 := by
  subst adr
  unfold State.storeEp at h
  have completes := store_completes wf h may
  exact completes

/-! ## Steps of the base -/

theorem loadInc_completes (h : exec i s = s.loadInc z u reg1 r) (may : s.MayAccess (s.reg reg1) z.bytes [.read]) :
    Completes i s 4 (fun k => k = reg1 ∨ k = r) noByte 0 fun t =>
      t.Holds reg1 (s.reg reg1 + BitVec.ofNat 32 z.bytes) ∧ (reg1 ≠ r → t.Holds r (s.Loaded (s.reg reg1) z u)) := by
  unfold State.loadInc at h
  have completes := State.loadTo_update_completes h may
  exact completes

theorem loadDec_completes (h : exec i s = s.loadDec z u reg1 r) (may : s.MayAccess (s.reg reg1) z.bytes [.read]) :
    Completes i s 4 (fun k => k = reg1 ∨ k = r) noByte 0 fun t =>
      t.Holds reg1 (s.reg reg1 - BitVec.ofNat 32 z.bytes) ∧ (reg1 ≠ r → t.Holds r (s.Loaded (s.reg reg1) z u)) := by
  unfold State.loadDec at h
  have completes := State.loadTo_update_completes h may
  exact completes

theorem storeInc_completes (wf : s.memWf) (h : exec i s = s.storeInc z reg1 r) (may : s.MayAccess (s.reg reg1) z.bytes [.write]) :
    Completes i s 4 (only reg1) (storedBytes (s.reg reg1) z.bytes) 0 fun t =>
      t.Holds reg1 (s.reg reg1 + BitVec.ofNat 32 z.bytes) ∧ t.Stands (s.reg reg1) z (s.reg r) := by
  unfold State.storeInc at h
  have completes := State.storeFrom_update_completes wf h may
  exact completes

theorem storeDec_completes (wf : s.memWf) (h : exec i s = s.storeDec z reg1 r) (may : s.MayAccess (s.reg reg1) z.bytes [.write]) :
    Completes i s 4 (only reg1) (storedBytes (s.reg reg1) z.bytes) 0 fun t =>
      t.Holds reg1 (s.reg reg1 - BitVec.ofNat 32 z.bytes) ∧ t.Stands (s.reg reg1) z (s.reg r) := by
  unfold State.storeDec at h
  have completes := State.storeFrom_update_completes wf h may
  exact completes

end

/-- A zero-extended field of at most eight bits. -/
theorem zextW_setWidth {n : Nat} (d : BitVec n) (small : n ≤ 8) : zextW (d.setWidth 8) = zextW d := by
  refine BitVec.eq_of_toNat_eq ?_
  have bound : d.toNat < 2 ^ 8 := Nat.lt_of_lt_of_le d.isLt (Nat.pow_le_pow_right (by decide) small)
  rw [zextW, zextW, BitVec.toNat_setWidth, BitVec.toNat_setWidth, BitVec.toNat_setWidth, Nat.mod_eq_of_lt bound]

/-! ## Double words -/

/-- R453, R463: bit 0 of the register number is ignored. -/
theorem pair_registers : ∀ r : Reg, r &&& 0x1E = RegPair.even (pairOf r) ∧ r ||| 1 = RegPair.odd (pairOf r) := by decide

theorem pair_apart (p : RegPair) : RegPair.even p ≠ RegPair.odd p := by
  revert p
  decide

theorem append_word_inj {a b c d : Word} (h : a ++ b = c ++ d) : a = c ∧ b = d := by
  constructor
  · have upper := congrArg (BitVec.extractLsb' 32 32) h
    rwa [BitVec.extractLsb'_append_eq_left, BitVec.extractLsb'_append_eq_left] at upper
  · have lower := congrArg (BitVec.extractLsb' 0 32) h
    rwa [BitVec.extractLsb'_append_eq_right, BitVec.extractLsb'_append_eq_right] at lower

section
variable {s : State}

theorem ldDw_completes (d22 : BitVec 22) (reg1 reg3 : Reg)
    (may : s.MayAccess (s.reg reg1 + sextW (dispLow d22 1)) 8 [.read]) :
    Completes (.ldDw d22 reg1 reg3) s 6 (fun k => k = RegPair.even (pairOf reg3) ∨ k = RegPair.odd (pairOf reg3)) noByte 0 fun t =>
      t.Holds (RegPair.even (pairOf reg3)) (s.readWord (s.reg reg1 + sextW (dispLow d22 1))) ∧
        t.Holds (RegPair.odd (pairOf reg3)) (s.readWord (s.reg reg1 + sextW (dispLow d22 1) + 4)) := by
  generalize adr : s.reg reg1 + sextW (dispLow d22 1) = a at may
  have run : exec (.ldDw d22 reg1 reg3) s = .next ((s.setRegPair (pairOf reg3) (s.readDWord a)).advance 6) := by
    subst adr
    exact State.access_may (x := dwordAccess (s.reg reg1 + sextW (dispLow d22 1)) reg3 false) may
  have low : (s.readDWord a).extractLsb' 0 32 = s.readWord a := BitVec.extractLsb'_append_eq_right
  have high : (s.readDWord a).extractLsb' 32 32 = s.readWord (a + 4) := BitVec.extractLsb'_append_eq_left
  rw [State.setRegPair, low, high] at run
  refine ⟨_, run, by simp [State.NextAfter], ((State.frame_setReg _ _ _ (.inl rfl)).trans (State.frame_setReg _ _ _ (.inr rfl))).trans
    (State.frame_advance _ _), ⟨by simp, by simp, by simp, by simp⟩, ?_, ?_⟩
  · exact State.holds_congr (State.holds_setReg_ne (w := s.readWord (a + 4)) _ (State.holds_setReg s _ _) (pair_apart _)) (by simp)
  · exact State.holds_congr (State.holds_setReg (s.setReg (RegPair.even (pairOf reg3)) (s.readWord a)) _ _) (by simp)

theorem stDw_completes (wf : s.memWf) (d22 : BitVec 22) (reg1 reg3 : Reg)
    (may : s.MayAccess (s.reg reg1 + sextW (dispLow d22 1)) 8 [.write]) :
    Completes (.stDw d22 reg1 reg3) s 6 noReg (storedBytes (s.reg reg1 + sextW (dispLow d22 1)) 8) 0 fun t =>
      t.readWord (s.reg reg1 + sextW (dispLow d22 1)) = s.reg (RegPair.even (pairOf reg3)) ∧
        t.readWord (s.reg reg1 + sextW (dispLow d22 1) + 4) = s.reg (RegPair.odd (pairOf reg3)) := by
  generalize adr : s.reg reg1 + sextW (dispLow d22 1) = a at may
  have run : exec (.stDw d22 reg1 reg3) s = .next ((s.writeDWord a (s.regPair (pairOf reg3))).advance 6) := by
    subst adr
    exact State.access_may (x := dwordAccess (s.reg reg1 + sextW (dispLow d22 1)) reg3 true) may
  have stands := append_word_inj (State.readDWord_writeDWord s wf a (s.regPair (pairOf reg3)))
  exact ⟨_, run, by simp [State.NextAfter], (State.frame_writeDWord wf _ _).trans (State.frame_advance _ _),
    ⟨by simp, by simp, by simp, by simp⟩, stands.2, stands.1⟩
end

end Sys2Proof.Machine
open Sys2Proof.Machine

/-- Settles O11: each load is `State.loadTo` at its address. -/
theorem loadsReachTheirRegister : Obligations.LoadsReachTheirRegister := by
  intro s reg1 r d16 d15 d23 d22 d7 d6 d4 loads b e
  refine ⟨load16_writes rfl rfl, load16_writes rfl rfl, load16_writes rfl rfl, load16_writes rfl rfl, load16_writes rfl rfl,
    load23_writes rfl rfl, load23_writes rfl rfl, load23_writes rfl rfl, load23_writes rfl rfl, load23_writes rfl rfl,
    loadEp_writes rfl ?_, loadEp_writes rfl ?_, loadEp_writes rfl rfl, loadEp_writes rfl ?_, loadEp_writes rfl rfl, fun a => ⟨rfl, ?_⟩⟩
  case refine_1 | refine_2 => rw [zextW_setWidth _ (by decide)]
  case refine_3 => rw [zextW_setWidth _ (by decide)]
  case refine_4 => exact State.readWord_bytes s a

/-- Settles O12: each store is `State.storeFrom` at its address. -/
theorem storesChangeOnlyTheirBytes : Obligations.StoresChangeOnlyTheirBytes := by
  intro s reg1 r d16 d15 d23 d22 d7 d6 wf stores b e
  exact ⟨store16_completes wf rfl rfl, store16_completes wf rfl rfl, store16_completes wf rfl rfl, store23_completes wf rfl rfl,
    store23_completes wf rfl rfl, store23_completes wf rfl rfl, storeEp_completes wf rfl (by rw [zextW_setWidth _ (by decide)]),
    storeEp_completes wf rfl rfl, storeEp_completes wf rfl rfl⟩

/-- Settles O13: the forms that step their base are `State.loadTo` and `State.storeFrom` with an update; LD.DW and ST.DW move the pair
of their register. -/
theorem steppingAndDoubleWordAccesses : Obligations.SteppingAndDoubleWordAccesses := by
  constructor
  · intro s reg1 r wf a load store
    exact ⟨loadInc_completes rfl, loadDec_completes rfl, loadInc_completes rfl, loadDec_completes rfl, loadInc_completes rfl,
      loadDec_completes rfl, loadInc_completes rfl, loadDec_completes rfl, loadInc_completes rfl, loadDec_completes rfl,
      storeInc_completes wf rfl, storeDec_completes wf rfl, storeInc_completes wf rfl, storeDec_completes wf rfl,
      storeInc_completes wf rfl, storeDec_completes wf rfl⟩
  · rintro s d22 reg1 reg3 lo hi wf a rfl rfl
    rw [(pair_registers reg3).1, (pair_registers reg3).2]
    exact ⟨ldDw_completes d22 reg1 reg3, stDw_completes wf d22 reg1 reg3⟩
end

section
/-!
PROOFS. One access of an instruction: what stops it, and what is reported of it (20_memory.md R202, R204 to R206, 21_mpu.md R275,
60_exceptions.md R813 to R815).
-/

namespace Sys2Proof.Machine

/-! ## What MEI and the cause hold -/

/-- R822: the columns of MEI as bits. -/
theorem meiWord_eq (len : BitVec 4) (r : Reg) (ds : BitVec 3) (u : Bool) (itype : BitVec 5) (rw : Bool) :
    meiWord len r ds u itype rw = BitVec.ofNat 32
      (len.toNat * 2 ^ 28 + r.toNat * 2 ^ 16 + ds.toNat * 2 ^ 9 + u.toNat * 2 ^ 8 + itype.toNat * 2 + rw.toNat) := by
  have join {m n : Nat} (a : BitVec m) (b : BitVec n) : (a ++ b).toNat = a.toNat * 2 ^ n + b.toNat := by
    rw [BitVec.toNat_append, Nat.shiftLeft_eq, ← Nat.shiftLeft_eq, Nat.shiftLeft_add_eq_or_of_lt b.isLt]
  refine BitVec.eq_of_toNat_eq ?_
  rw [BitVec.toNat_ofNat, Nat.mod_eq_of_lt]
  · simp only [meiWord, join, BitVec.toNat_ofBool, BitVec.toNat_ofNat, Nat.zero_mod]
    ring
  · have := len.isLt
    have := r.isLt
    have := ds.isLt
    have := itype.isLt
    have := Bool.toNat_lt u
    have := Bool.toNat_lt rw
    omega

/-- R822: `meiWord` as a row of the table. -/
theorem meiWord_eq_row {len n itype w : Nat} {r : Reg} {ds : BitVec 3} {u rw : Bool} (hlen : len < 16) (hds : ds.toNat = Nat.log2 n)
    (hitype : itype < 32) (hrw : rw.toNat = w) :
    meiWord (BitVec.ofNat 4 len) r ds u (BitVec.ofNat 5 itype) rw = meiRow len r n u itype w := by
  rw [meiWord_eq, meiRow, hds, hrw, BitVec.toNat_ofNat, BitVec.toNat_ofNat, Nat.mod_eq_of_lt (by omega), Nat.mod_eq_of_lt (by omega)]

section
variable {i : Instr} {s : State}

/-- R275: the directions that a layer denies. -/
theorem deniedBits_eq (m : Mode) (l : Layer) (lo hi : Nat) (ks : List AccessKind) (user : Bool) :
    s.deniedBits m l lo hi ks user =
      (if AccessKind.write ∈ ks ∧ s.layerDenies m l lo hi .write user = true then BitVec.twoPow 32 (if user then 17 else 20) else 0) |||
        (if AccessKind.read ∈ ks ∧ s.layerDenies m l lo hi .read user = true then BitVec.twoPow 32 (if user then 16 else 19) else 0) := by
  cases user <;> simp [State.deniedBits]

/-- The parts of a word joined in another order. -/
theorem or_regroup (ms bl rmw w r layer : Word) : ms ||| bl ||| rmw ||| (w ||| r) ||| layer = layer ||| ms ||| bl ||| rmw ||| w ||| r := by
  ac_rfl

/-- R275: the cause code of an operand MDP. -/
theorem mdpCause_eq {x : Access} {l : Layer} {user : Bool} :
    s.mdpCause x l user = s.MdpWord l x.adr x.size x.kinds user x.block := by
  have layer : causeMdp l = if l = .guest then 0x91 else 0x99 := by cases l <;> rfl
  unfold State.mdpCause State.MdpWord
  rw [deniedBits_eq, layer, or_regroup]
  congr! 5 <;> simp [show BitVec.twoPow 32 24 = 16777216#32 from rfl]

theorem mpuHandler_eq (l : Layer) : s.mpuHandler s.mode l = s.ViolationMode l := by
  unfold State.ViolationMode
  cases m : s.mode with
  | host => simp [State.mpuHandler]
  | guest => cases l <;> simp [State.mpuHandler, ← Bool.not_eq_true, ite_not]

theorem syserrHandler_eq (m : Mode) : s.syserrHandler m = s.SyserrMode m := by
  cases m with
  | host => rfl
  | guest => simp [State.syserrHandler, State.SyserrMode, ← Bool.not_eq_true, ite_not]

/-! ## What stops an access -/

/-- From `u`, the state that it has reached, an instruction raises MDP in the mode that GMCFG selects. -/
theorem RaisesMdp.of_raiseMdp {u : State} {x : Access} {l : Layer} {user : Bool} (h : exec i s = u.raiseMdp x l user)
    (pc : u.pc = s.pc) : RaisesMdp i s u l x.adr x.size x.kinds user x.block x.mei := by
  have handler := mpuHandler_eq (s := u) l
  obtain ⟨t, next, mea, mei, enters⟩ :=
    State.raise_mea_enters u .fe (u.mdpCause x l user) 0x90 x.adr x.mei (u.ViolationMode l)
  rw [State.raiseMdp, handler] at h
  rw [mdpCause_eq, pc] at enters
  exact ⟨t, h.trans next, mea, mei, enters⟩

/-- From `u`, the state that it has reached, an instruction raises the SYSERR of a reserved address. -/
theorem RaisesReserved.of_raiseSyserr {u : State} (h : exec i s = u.raiseSyserr u.prod.causeReserved) (pc : u.pc = s.pc)
    (prod : u.prod = s.prod) : RaisesReserved i s u := by
  rw [State.raiseSyserr, syserrHandler_eq] at h
  obtain ⟨t, next, enters⟩ := State.raise_enters u .fe u.prod.causeReserved 0x10 (u.SyserrMode u.mode)
  rw [pc, prod] at enters
  exact ⟨t, by rw [h, next], enters⟩

/-- A permitted access to a reserved address. -/
theorem State.checked_reserved {x : Access} {user : Bool} {k : Out} (aligned : x.aligned = false ∨ misaligned x.adr x.size = false)
    (permitted : s.mpuViolation s.mode x.adr.toNat (x.adr.toNat + x.size - 1) x.kinds user = none) {ks : List AccessKind}
    (reserved : s.Reaches .reserved (x.adr, x.size, ks)) : s.checked x user k = s.raiseSyserr s.prod.causeReserved := by
  have unaligned : ¬ (x.aligned && misaligned x.adr x.size) = true := by rcases aligned with e | e <;> simp [e]
  rw [State.checked, State.denied, if_neg unaligned, permitted]
  simp only [State.reservedStop, State.touches_iff_reaches.mpr reserved, if_true]

/-- An instruction whose access is checked, then does what `k` says. -/
def Checks (i : Instr) (s : State) (x : Access) (user : Bool) : Prop := ∃ k, exec i s = s.checked x user k

/-- R814 (b): a denied access raises MDP. -/
theorem Checks.denied {x : Access} {user : Bool} (h : Checks i s x user) (aligned : x.aligned = false ∨ misaligned x.adr x.size = false)
    {l : Layer} (denied : s.mpuViolation s.mode x.adr.toNat (x.adr.toNat + x.size - 1) x.kinds user = some l) :
    RaisesMdp i s s l x.adr x.size x.kinds user x.block x.mei := by
  obtain ⟨k, h⟩ := h
  rw [State.checked_mdp aligned denied] at h
  exact .of_raiseMdp h rfl

/-- R813: a misaligned access raises MAE. -/
theorem Checks.misaligned {x : Access} {user : Bool} (h : Checks i s x user) (alignedOnly : x.aligned = true)
    (misaligned : misaligned x.adr x.size = true) :
    ∃ t, exec i s = .next t ∧ (t.ctx s.mode).mea = x.adr ∧ (t.ctx s.mode).mei = x.mei ∧
      s.Enters t .fe s.prod.causeMae s.pc (s.HandlerBase s.mode + 0xC0) s.mode true errorAddress := by
  obtain ⟨k, h⟩ := h
  rw [State.checked_mae alignedOnly misaligned] at h
  obtain ⟨t, next, rest⟩ := State.raise_mea_enters s .fe s.prod.causeMae 0xC0 x.adr x.mei s.mode
  exact ⟨t, h.trans next, rest⟩

/-- R815: an access to a reserved address raises SYSERR. -/
theorem Checks.reserved {x : Access} {user : Bool} (h : Checks i s x user)
    (aligned : x.aligned = false ∨ Machine.misaligned x.adr x.size = false)
    (permitted : s.mpuViolation s.mode x.adr.toNat (x.adr.toNat + x.size - 1) x.kinds user = none) {ks : List AccessKind}
    (reserved : s.Reaches .reserved (x.adr, x.size, ks)) : RaisesReserved i s s := by
  obtain ⟨k, h⟩ := h
  exact .of_raiseSyserr (h.trans (State.checked_reserved aligned permitted reserved)) rfl rfl

end
end Sys2Proof.Machine
end

section
/-!
PROOFS. What the accesses of an instruction do under every memory map (20_memory.md R202, R204).
-/

namespace Sys2Proof.Machine

/-! ## Another memory map -/

/-- The state with another memory map. -/
def State.mapped (s : State) (m : List Region) : State := { s with prod := { s.prod with memmap := m } }

section
variable (s : State) (m : List Region)

@[simp] theorem State.mapped_reg (r : Reg) : (s.mapped m).reg r = s.reg r := rfl

theorem State.setReg_mapped (r : Reg) (v : Word) : (s.mapped m).setReg r v = (s.setReg r v).mapped m := by
  unfold State.setReg
  split <;> rfl

theorem State.setCtx_mapped (md : Mode) (c : Ctx) : (s.mapped m).setCtx md c = (s.setCtx md c).mapped m := by
  cases md <;> rfl

theorem State.setPsw_mapped (w : Word) : (s.mapped m).setPsw w = (s.setPsw w).mapped m := s.setCtx_mapped m _ _
theorem State.setZ_mapped (z : Bool) : (s.mapped m).setZ z = (s.setZ z).mapped m := s.setPsw_mapped m _
theorem State.setFlags_mapped (f : Flags) : (s.mapped m).setFlags f = (s.setFlags f).mapped m := s.setPsw_mapped m _
theorem State.storeValue_mapped (a : Word) (z : Size) (v : Word) :
    (s.mapped m).storeValue a z v = (s.storeValue a z v).mapped m := by
  cases z <;> rfl

theorem State.advance_mapped (n : Nat) : (s.mapped m).advance n = (s.advance n).mapped m := rfl
theorem State.dropLink_mapped : (s.mapped m).dropLink = s.dropLink.mapped m := rfl
theorem State.writeWord_mapped (a : Word) (v : Word) : (s.mapped m).writeWord a v = (s.writeWord a v).mapped m := rfl

theorem State.writeDWord_mapped (a : Word) (v : DWord) : (s.mapped m).writeDWord a v = (s.writeDWord a v).mapped m := by
  rw [State.writeDWord, State.writeWord_mapped, State.writeWord_mapped, ← State.writeDWord]

theorem State.writeQWord_mapped (a : Word) (v : QWord) : (s.mapped m).writeQWord a v = (s.writeQWord a v).mapped m := by
  rw [State.writeQWord, State.writeDWord_mapped, State.writeDWord_mapped, ← State.writeQWord]

theorem State.breakLink_mapped (a : Word) (n : Nat) : (s.mapped m).breakLink a n = (s.breakLink a n).mapped m :=
  (apply_ite (State.mapped · m) _ s.dropLink s).symm

theorem State.takeException_mapped (l : Level) (cause offset retpc : Word) (hm : Mode) (b : Bool) :
    (s.mapped m).takeException l cause offset retpc hm b = (s.takeException l cause offset retpc hm b).mapped m := by
  cases hm <;> rfl

end

/-! ## The accesses of an instruction -/

/-- From `s`, what follows, `F` given the memory map, ends as it does where all memory is ordinary, with the reports of the accesses
`xs` ahead of its own. -/
def State.Performs (s : State) (F : List Region → Out) (xs : List AccessShape) : Prop :=
  ∀ m, (∀ x ∈ xs, ¬ (s.mapped m).Reaches .reserved x) →
    ∃ (t : State) (es : List (List Event)), t.prod = s.prod ∧ F [] = .next (t.mapped []) ∧
      List.Forall₂ ((s.mapped m).Reports t s.mode) xs es ∧ F m = .next { t.mapped m with out := es.flatten ++ t.out }

variable {s : State}

/-- What has no access left. -/
theorem State.Performs.nil {F : List Region → Out} {t : State} (hp : t.prod = s.prod) (h : ∀ m, F m = .next (t.mapped m)) :
    s.Performs F [] :=
  fun m _ => ⟨t, [], hp, h [], .nil, h m⟩

/-- The state `u` makes its accesses as `s` does. -/
structure State.SameAccess (s u : State) : Prop where
  prod : u.prod = s.prod
  mode : u.mode = s.mode
  spid : (u.ctx s.mode).spid = (s.ctx s.mode).spid
  pswh : u.sys.pswh = s.sys.pswh

theorem State.SameAccess.refl (s : State) : s.SameAccess s := ⟨rfl, rfl, rfl, rfl⟩

/-- The check of an access that is aligned, permitted and not reserved. -/
theorem State.checked_performed {x : Access} {user : Bool} {k : Out} (aligned : x.aligned = false ∨ misaligned x.adr x.size = false)
    (permitted : s.mpuViolation s.mode x.adr.toNat (x.adr.toNat + x.size - 1) x.kinds user = none) {ks : List AccessKind}
    (free : ¬ s.Reaches .reserved (x.adr, x.size, ks)) : s.checked x user k = k := by
  have unaligned : ¬ (x.aligned && misaligned x.adr x.size) = true := by rcases aligned with e | e <;> simp [e]
  rw [State.checked, State.denied, if_neg unaligned, permitted]
  simp [State.reservedStop, Bool.eq_false_iff.mpr fun e => free (State.touches_iff_reaches.mp e)]

/-- One access more. -/
theorem State.Performs.cons {u : State} {x : Access} {user : Bool} {F G : List Region → Out} {xs : List AccessShape}
    (same : s.SameAccess u) (aligned : x.aligned = false ∨ misaligned x.adr x.size = false)
    (permitted : u.mpuViolation u.mode x.adr.toNat (x.adr.toNat + x.size - 1) x.kinds user = none)
    (h : ∀ m, F m = (u.mapped m).checked x user ((u.mapped m).noteDevice x.adr x.size x.kinds (G m))) (later : s.Performs G xs) :
    s.Performs F ((x.adr, x.size, x.kinds) :: xs) := by
  intro m free
  have open' (m : List Region) (h : ¬ (u.mapped m).Reaches .reserved (x.adr, x.size, x.kinds)) (k : Out) :
      (u.mapped m).checked x user k = k := State.checked_performed aligned permitted h
  have nowhere : ¬ (u.mapped []).Reaches .reserved (x.adr, x.size, x.kinds) := by simp [State.Reaches, State.mapped]
  obtain ⟨t, es, tp, base, reports, next⟩ := later m fun y hy => free y (.tail _ hy)
  obtain ⟨ev, rep, note⟩ := State.noteDevice_reports (s := u.mapped m) (a := x.adr) (n := x.size) (ks := x.kinds)
    (u := { t.mapped m with out := es.flatten ++ t.out })
  refine ⟨t, ev :: es, tp, ?_, .cons ?_ reports, ?_⟩
  · rw [h, open' _ nowhere, base]
    exact State.noteDevice_ordinary fun r hr => absurd hr (by simp [State.mapped])
  · have mode : (u.mapped m).mode = s.mode := same.mode
    rw [mode] at rep
    exact rep.congr (congrArg (fun p : Product => { p with memmap := m }) same.prod).symm same.spid.symm same.pswh.symm rfl
  · have clear : ¬ (u.mapped m).Reaches .reserved (x.adr, x.size, x.kinds) := fun r => free _ (.head _) r
    rw [h, open' _ clear, next, note, List.flatten_cons, List.append_assoc]

/-- One access that is checked and not made. -/
theorem State.Performs.checkedOnly {x : Access} {user : Bool} {F : List Region → Out} {t : State}
    (aligned : x.aligned = false ∨ misaligned x.adr x.size = false)
    (permitted : s.mpuViolation s.mode x.adr.toNat (x.adr.toNat + x.size - 1) x.kinds user = none) (hp : t.prod = s.prod)
    (h : ∀ m, F m = (s.mapped m).checked x user (.next (t.mapped m))) : s.Performs F [(x.adr, x.size, [])] := by
  intro m free
  have open' (m : List Region) (h : ¬ (s.mapped m).Reaches .reserved (x.adr, x.size, [])) (k : Out) :
      (s.mapped m).checked x user k = k := State.checked_performed aligned permitted h
  refine ⟨t, [[]], hp, ?_, .cons ⟨fun _ => ⟨_, State.tags_accessTag, rfl⟩, fun _ => rfl⟩ .nil, ?_⟩
  · rw [h, open' [] (by simp [State.Reaches, State.mapped])]
  · rw [h, open' m (free _ (.head _))]
    rfl

/-- What `State.Performs` says of an instruction. -/
theorem State.Performs.makes {i : Instr} {xs : List AccessShape} (h : s.Performs (fun m => exec i (s.mapped m)) xs) :
    MakesAccesses i s xs := by
  intro free
  obtain ⟨t, es, tp, base, reports, next⟩ := h s.prod.memmap free
  refine ⟨t.mapped [], es, base, reports.imp fun _ _ r => r.congr rfl rfl rfl rfl, next.trans ?_⟩
  rw [← tp]
  rfl

/-! ## The instructions with one access -/

/-- The instruction checks its one access, performs it, and ends. -/
def MakesOne (i : Instr) (s : State) (x : Access) (user : Bool) : Prop :=
  ∃ t : State, t.prod = s.prod ∧
    ∀ m, exec i (s.mapped m) = (s.mapped m).checked x user ((s.mapped m).noteDevice x.adr x.size x.kinds (.next (t.mapped m)))

section
variable {i : Instr} {x : Access} {user : Bool}

theorem MakesOne.checks (h : MakesOne i s x user) : Checks i s x user := by
  obtain ⟨t, _, h⟩ := h
  exact ⟨_, h s.prod.memmap⟩

/-- R202, R204: a permitted access. -/
theorem MakesOne.makesAccess (h : MakesOne i s x user) (aligned : x.aligned = false ∨ misaligned x.adr x.size = false)
    (permitted : s.mpuViolation s.mode x.adr.toNat (x.adr.toNat + x.size - 1) x.kinds user = none) :
    MakesAccess i s (x.adr, x.size, x.kinds) := by
  refine ⟨h.checks.reserved aligned permitted, ?_⟩
  obtain ⟨t, tp, h⟩ := h
  exact (State.Performs.cons (.refl s) aligned permitted h (.nil tp fun _ => rfl)).makes

theorem MakesOne.loadTo {z : Size} {u : Bool} {dst : Reg} {update : Option (Reg × Word)} {len : Nat}
    (h : ∀ m, exec i (s.mapped m) = (s.mapped m).loadTo x z u dst update len) : MakesOne i s x s.um := by
  cases update with
  | none =>
    refine ⟨(s.setReg dst (s.loadValue x.adr z u)).advance len, by simp, fun m => (h m).trans ?_⟩
    rw [← State.advance_mapped, ← State.setReg_mapped]
    rfl
  | some p =>
    refine ⟨((s.setReg dst (s.loadValue x.adr z u)).setReg p.1 p.2).advance len, by simp, fun m => (h m).trans ?_⟩
    rw [← State.advance_mapped, ← State.setReg_mapped, ← State.setReg_mapped]
    rfl

theorem State.storeValue_prod (a : Word) (z : Size) (v : Word) : (s.storeValue a z v).prod = s.prod := by
  cases z <;> simp [State.storeValue]

theorem MakesOne.storeFrom {z : Size} {src : Reg} {update : Option (Reg × Word)} {len : Nat}
    (h : ∀ m, exec i (s.mapped m) = (s.mapped m).storeFrom x z src update len) : MakesOne i s x s.um := by
  have prod : (s.storeValue x.adr z (s.reg src)).prod = s.prod := State.storeValue_prod ..
  cases update with
  | none =>
    refine ⟨(s.storeValue x.adr z (s.reg src)).advance len, prod, fun m => (h m).trans ?_⟩
    rw [← State.advance_mapped, ← State.storeValue_mapped]
    rfl
  | some p =>
    refine ⟨((s.storeValue x.adr z (s.reg src)).setReg p.1 p.2).advance len, by simpa using prod, fun m => (h m).trans ?_⟩
    rw [← State.advance_mapped, ← State.setReg_mapped, ← State.storeValue_mapped]
    rfl

theorem MakesOne.modifyBit {adr : Word} {bit : Nat} {f : Bool → Bool} (h : ∀ m, exec i (s.mapped m) = (s.mapped m).modifyBit adr bit f) :
    MakesOne i s (bitAccess adr true) s.um := by
  let token := s.readByte adr
  let b := token.getLsbD bit
  refine ⟨((s.setZ (!b)).writeByte adr (if f b then token ||| BitVec.twoPow 8 bit else token &&& ~~~ BitVec.twoPow 8 bit)).advance 4,
    by simp, fun m => (h m).trans ?_⟩
  have z := State.setZ_mapped s m (!b)
  show State.access _ _ (.next ((((s.mapped m).setZ (!b)).writeByte _ _).advance 4)) = _
  rw [z]
  rfl

theorem MakesOne.testBit {adr : Word} {bit : Nat} (h : ∀ m, exec i (s.mapped m) = (s.mapped m).testBit adr bit) :
    MakesOne i s (bitAccess adr false) s.um := by
  refine ⟨(s.setZ (!(s.readByte adr).getLsbD bit)).advance 4, by simp, fun m => (h m).trans ?_⟩
  rw [← State.advance_mapped, ← State.setZ_mapped]
  rfl

theorem MakesOne.loadLinked {z : Size} {reg1 reg3 : Reg} (h : ∀ m, exec i (s.mapped m) = (s.mapped m).loadLinked z reg1 reg3) :
    MakesOne i s (loadAccess (s.reg reg1) z 4 reg3 (z != Size.word) 7) s.um := by
  refine ⟨{ s.setReg reg3 (s.loadValue (s.reg reg1) z (z != Size.word)) with link := ⟨true, s.reg reg1, z.bytes⟩ }.advance 4,
    by simp, fun m => (h m).trans ?_⟩
  have r := State.setReg_mapped s m reg3 (s.loadValue (s.reg reg1) z (z != Size.word))
  show State.access _ _ (.next (State.advance { (s.mapped m).setReg reg3 _ with link := _ } 4)) = _
  have value : (s.mapped m).loadValue (s.reg reg1) z (z != Size.word) = s.loadValue (s.reg reg1) z (z != Size.word) := rfl
  rw [State.mapped_reg, value, r]
  rfl

theorem MakesOne.caxi (reg1 reg2 reg3 : Reg) :
    MakesOne (.caxi reg1 reg2 reg3) s ⟨s.reg reg1, 4, [.read, .write], true, false, meiWord 4 reg3 2 false 8 false⟩ s.um := by
  let adr := s.reg reg1
  let token := s.readWord adr
  let r := subF (s.reg reg2) token false
  let new := if r.1 = 0 then s.reg reg3 else token
  refine ⟨(((s.writeWord adr new).setReg reg3 token).setFlags r.2).advance 4, by simp, fun m => ?_⟩
  have e1 := State.setReg_mapped (s.writeWord adr new) m reg3 token
  have e2 := State.setFlags_mapped ((s.writeWord adr new).setReg reg3 token) m r.2
  rw [← State.advance_mapped, ← e2, ← e1]
  rfl

theorem MakesOne.ldDw (d22 : BitVec 22) (reg1 reg3 : Reg) :
    MakesOne (.ldDw d22 reg1 reg3) s (dwordAccess (s.reg reg1 + sextW (dispLow d22 1)) reg3 false) s.um := by
  refine ⟨(s.setRegPair (pairOf reg3) (s.readDWord (s.reg reg1 + sextW (dispLow d22 1)))).advance 6, by simp [State.setRegPair],
    fun m => ?_⟩
  rw [← State.advance_mapped, State.setRegPair, ← State.setReg_mapped, ← State.setReg_mapped]
  rfl

theorem MakesOne.stDw (d22 : BitVec 22) (reg1 reg3 : Reg) :
    MakesOne (.stDw d22 reg1 reg3) s (dwordAccess (s.reg reg1 + sextW (dispLow d22 1)) reg3 true) s.um :=
  ⟨(s.writeDWord (s.reg reg1 + sextW (dispLow d22 1)) (s.regPair (pairOf reg3))).advance 6,
    by simp, fun m => by rw [← State.advance_mapped, ← State.writeDWord_mapped]; rfl⟩

theorem MakesOne.callt (imm6 : BitVec 6) :
    MakesOne (.callt imm6) s (tableHalf (s.sys.ctbp + zextW (dispLow imm6 1)) true 17) s.um :=
  ⟨State.jump { s with sys := { s.sys with ctpc := s.pc + 2, ctpsw := putMasked s.sys.ctpsw 0x1F s.psw } }
    (s.sys.ctbp + zextW (s.readHalf (s.sys.ctbp + zextW (dispLow imm6 1)))), rfl, fun _ => rfl⟩

theorem MakesOne.switch (reg1 : Reg) : MakesOne (.switch reg1) s (tableHalf (s.pc + 2 + (s.reg reg1 <<< 1)) false 16) s.um :=
  ⟨s.jump (s.pc + 2 + (sextW (s.readHalf (s.pc + 2 + (s.reg reg1 <<< 1))) <<< 1)), rfl, fun _ => rfl⟩

theorem MakesOne.syscall (vector8 : BitVec 8) :
    MakesOne (.syscall vector8) s ⟨s.syscallEntry vector8, 4, [.read], false, false, meiWord 4 0 2 false 18 false⟩ false := by
  let t := s.takeException .ei (0x8000 + zextW vector8) 0 (s.pc + 4) s.mode true
  have prod : t.prod = s.prod := (State.takeException_enters s .ei (0x8000 + zextW vector8) 0 (s.pc + 4) s.mode true).rest.2.2.2.1
  refine ⟨(t.jump (s.sys.scbp + s.readWord (s.syscallEntry vector8))).emit (.pending s.mode),
    prod, fun m => ?_⟩
  have e := State.takeException_mapped s m .ei (0x8000 + zextW vector8) 0 (s.pc + 4) s.mode true
  show State.checked _ _ _ (State.noteDevice _ _ _ _
    (.next (((State.takeException (s.mapped m) .ei _ 0 (s.pc + 4) s.mode true).jump _).emit _))) = _
  rw [e]
  rfl

section
variable (fxu : s.psw.getLsbD 17 = true)
include fxu

theorem MakesOne.vecLoad {r : VReg} {v : QWord} (h : ∀ m, exec i (s.mapped m) = (s.mapped m).vecLoad x r v) : MakesOne i s x s.um := by
  refine ⟨(s.setVreg r v).advance 6, rfl, fun m => (h m).trans ?_⟩
  have usable : (s.mapped m).psw.getLsbD 17 = true := fxu
  rw [State.vecLoad, State.withFxu, if_pos usable]
  rfl

theorem MakesOne.vecStore {f : State → State} (h : ∀ m, exec i (s.mapped m) = (s.mapped m).vecStore x f)
    (prod : (f s).prod = s.prod) (map : ∀ m, f (s.mapped m) = (f s).mapped m) : MakesOne i s x s.um := by
  have linked : ((f s).breakLink x.adr x.size).prod = (f s).prod := by
    unfold State.breakLink
    split <;> rfl
  refine ⟨((f s).breakLink x.adr x.size).advance 6, linked.trans prod, fun m => (h m).trans ?_⟩
  have usable : (s.mapped m).psw.getLsbD 17 = true := fxu
  rw [State.vecStore, State.withFxu, if_pos usable, map, State.breakLink_mapped]
  rfl

theorem MakesOne.ldvW (imm4 : BitVec 4) (v14 : BitVec 14) (reg1 : Reg) (r : VReg) :
    MakesOne (.ldvW imm4 v14 reg1 r) s (vecAccess (s.vecAdr reg1 v14 2) 4 2 r 29 false) s.um :=
  .vecLoad fxu (r := r) (v := ofWords fun k => if imm4.getLsbD k then s.readWord (s.vecAdr reg1 v14 2) else wordElem (s.vreg r) k)
    fun _ => rfl

theorem MakesOne.ldvDw (imm2 : BitVec 2) (v13 : BitVec 13) (reg1 : Reg) (r : VReg) :
    MakesOne (.ldvDw imm2 v13 reg1 r) s (vecAccess (s.vecAdr reg1 v13 3) 8 3 r 29 false) s.um :=
  .vecLoad fxu (r := r) (v := ofWords fun k =>
    if imm2.getLsbD (k / 2) then (s.readDWord (s.vecAdr reg1 v13 3)).extractLsb' (32 * (k % 2)) 32 else wordElem (s.vreg r) k)
    fun _ => rfl

theorem MakesOne.ldvQw (v12 : BitVec 12) (reg1 : Reg) (r : VReg) :
    MakesOne (.ldvQw v12 reg1 r) s (vecAccess (s.vecAdr reg1 v12 4) 16 4 r 29 false) s.um :=
  .vecLoad fxu (r := r) (v := s.readQWord (s.vecAdr reg1 v12 4))
    fun _ => rfl

theorem MakesOne.ldvzH4 (v13 : BitVec 13) (reg1 : Reg) (r : VReg) :
    MakesOne (.ldvzH4 v13 reg1 r) s (vecAccess (s.vecAdr reg1 v13 3) 8 3 r 31 false) s.um :=
  .vecLoad fxu (r := r) (v := ofWords fun k => zextW ((s.readDWord (s.vecAdr reg1 v13 3)).extractLsb' (16 * k) 16))
    fun _ => rfl

theorem MakesOne.stvW (imm2 : BitVec 2) (v14 : BitVec 14) (reg1 : Reg) (r : VReg) :
    MakesOne (.stvW imm2 v14 reg1 r) s (vecAccess (s.vecAdr reg1 v14 2) 4 2 r 29 true) s.um :=
  .vecStore fxu (f := fun t => t.writeWord (s.vecAdr reg1 v14 2) (wordElem (s.vreg r) imm2.toNat)) (fun _ => rfl)
    (by simp) fun m => s.writeWord_mapped m _ _

theorem MakesOne.stvDw (imm1 : BitVec 1) (v13 : BitVec 13) (reg1 : Reg) (r : VReg) :
    MakesOne (.stvDw imm1 v13 reg1 r) s (vecAccess (s.vecAdr reg1 v13 3) 8 3 r 29 true) s.um :=
  .vecStore fxu (f := fun t => t.writeDWord (s.vecAdr reg1 v13 3) ((s.vreg r).extractLsb' (64 * imm1.toNat) 64)) (fun _ => rfl)
    (by simp) fun m => s.writeDWord_mapped m _ _

theorem MakesOne.stvQw (v12 : BitVec 12) (reg1 : Reg) (r : VReg) :
    MakesOne (.stvQw v12 reg1 r) s (vecAccess (s.vecAdr reg1 v12 4) 16 4 r 29 true) s.um :=
  .vecStore fxu (f := fun t => t.writeQWord (s.vecAdr reg1 v12 4) (s.vreg r)) (fun _ => rfl)
    (by simp) fun m => s.writeQWord_mapped m _ _

theorem MakesOne.stvzH4 (v13 : BitVec 13) (reg1 : Reg) (r : VReg) :
    MakesOne (.stvzH4 v13 reg1 r) s (vecAccess (s.vecAdr reg1 v13 3) 8 3 r 31 true) s.um :=
  .vecStore fxu (f := fun t => t.writeDWord (s.vecAdr reg1 v13 3) (lowHalves (s.vreg r))) (fun _ => rfl)
    (by simp) fun m => s.writeDWord_mapped m _ _

end

/-- R518 (b): the link is that of an access. -/
theorem State.linkMatches_iff {a : Word} {n : Nat} : s.linkMatches a n = true ↔ s.link = ⟨true, a, n⟩ := by
  rcases hl : s.link with ⟨b, c, k⟩
  simp only [State.linkMatches, hl, Bool.and_eq_true, beq_iff_eq, Link.mk.injEq, and_assoc]
  exact and_congr_right fun _ => and_comm

/-- R513 to R515, notes/assumptions/54.md: the access of a conditional store is checked in every case, and made with the link only. -/
theorem storeConditional_makes {z : Size} {reg1 reg3 : Reg} (h : ∀ m, exec i (s.mapped m) = (s.mapped m).storeConditional z reg1 reg3) :
    Checks i s (storeAccess (s.reg reg1) z 4 reg3 7) s.um ∧
      (misaligned (s.reg reg1) z.bytes = false →
        s.mpuViolation s.mode (s.reg reg1).toNat ((s.reg reg1).toNat + z.bytes - 1) [.write] s.um = none →
        MakesAccess i s (s.reg reg1, z.bytes, if s.link = ⟨true, s.reg reg1, z.bytes⟩ then [.write] else [])) := by
  let x := storeAccess (s.reg reg1) z 4 reg3 7
  have linked : s.linkMatches x.adr z.bytes = true ↔ s.link = ⟨true, s.reg reg1, z.bytes⟩ := State.linkMatches_iff
  by_cases m : s.link = ⟨true, s.reg reg1, z.bytes⟩
  · have one : MakesOne i s x s.um := by
      refine ⟨(((s.storeValue x.adr z (s.reg reg3)).setReg reg3 1).dropLink).advance 4, ?_, fun p => (h p).trans ?_⟩
      · have prod : (s.storeValue x.adr z (s.reg reg3)).prod = s.prod := State.storeValue_prod ..
        have set : ((s.storeValue x.adr z (s.reg reg3)).setReg reg3 1).prod = (s.storeValue x.adr z (s.reg reg3)).prod := by simp
        exact set.trans prod
      · have go : (s.mapped p).linkMatches x.adr z.bytes = true := linked.mpr m
        have e1 := State.storeValue_mapped s p x.adr z (s.reg reg3)
        have e2 := State.setReg_mapped (s.storeValue x.adr z (s.reg reg3)) p reg3 1
        refine (if_pos go).trans ?_
        rw [← State.advance_mapped, ← State.dropLink_mapped, ← e2, ← e1]
        rfl
    refine ⟨one.checks, fun aligned permitted => ?_⟩
    rw [if_pos m]
    exact one.makesAccess (.inr aligned) permitted
  · have only : ∀ p, exec i (s.mapped p) = (s.mapped p).checked x s.um (.next ((((s.setReg reg3 0).dropLink).advance 4).mapped p)) := by
      intro p
      have stop : ¬ (s.mapped p).linkMatches x.adr z.bytes = true := fun e => m (linked.mp e)
      refine ((h p).trans (if_neg stop)).trans ?_
      rw [← State.advance_mapped, ← State.dropLink_mapped, ← State.setReg_mapped]
      rfl
    have checks : Checks i s x s.um := ⟨_, only s.prod.memmap⟩
    refine ⟨checks, fun aligned permitted => ?_⟩
    rw [if_neg m]
    refine ⟨checks.reserved (.inr aligned) permitted, ?_⟩
    have set : (s.setReg reg3 0).prod = s.prod := by simp
    exact (State.Performs.checkedOnly (t := ((s.setReg reg3 0).dropLink).advance 4) (x := x) (.inr aligned) permitted set only).makes

end
end Sys2Proof.Machine
end

section
/-!
PROOFS. Misaligned and denied accesses (20_memory.md R205, 21_mpu.md R275, 60_exceptions.md R813, R814, R822), and the report of every
access (20_memory.md R202, R204), form by form.
-/

namespace Sys2Proof.Machine

/-- 60_exceptions.md R813, R814 (b): the access of `n` bytes at `a` raises MAE where it is misaligned, and MDP where the MPU denies it. -/
def Stops (i : Instr) (s : State) (ks : List AccessKind) (a : Word) (n : Nat) (mei : Word) : Prop :=
  (¬ a.toNat % (if n = 8 then 4 else n) = 0 → ∃ t, exec i s = .next t ∧ (t.ctx s.mode).mea = a ∧ (t.ctx s.mode).mei = mei ∧
    s.Enters t .fe s.prod.causeMae s.pc (s.HandlerBase s.mode + 0xC0) s.mode true errorAddress) ∧
  (a.toNat % (if n = 8 then 4 else n) = 0 → ∀ l, s.mpuViolation s.mode a.toNat (a.toNat + n - 1) ks s.um = some l →
    RaisesMdp i s s l a n ks s.um false mei)

/-- The shape of an access whose alignment is checked: address, size, directions, and what MEI takes. -/
structure Access.Single (x : Access) (a : Word) (n : Nat) (ks : List AccessKind) (mei : Word) : Prop where
  adr : x.adr = a
  size : x.size = n
  kinds : x.kinds = ks
  aligned : x.aligned = true
  block : x.block = false
  mei : x.mei = mei

section
variable {s : State} {i : Instr} {x : Access} {a : Word} {n : Nat} {ks : List AccessKind} {mei : Word}

theorem misaligned_iff : misaligned a n = true ↔ ¬ a.toNat % (if n = 8 then 4 else n) = 0 := by
  simp [misaligned]

theorem Checks.stops (h : Checks i s x s.um) (shape : x.Single a n ks mei) : Stops i s ks a n mei := by
  obtain ⟨rfl, rfl, rfl, aligned, block, rfl⟩ := shape
  refine ⟨fun off => h.misaligned aligned (misaligned_iff.mpr off), fun on l denied => ?_⟩
  have straight : Machine.misaligned x.adr x.size = false := Bool.eq_false_iff.mpr fun e => misaligned_iff.mp e on
  have := h.denied (.inr straight) denied
  rwa [block] at this

/-- R202, R204: a permitted access. -/
theorem MakesOne.accesses (h : MakesOne i s x s.um) (shape : x.Single a n ks mei)
    (permitted : misaligned a n = false ∧ s.mpuViolation s.mode a.toNat (a.toNat + n - 1) ks s.um = none) :
    MakesAccess i s (a, n, ks) := by
  obtain ⟨rfl, rfl, rfl, _, _, _⟩ := shape
  exact h.makesAccess (.inr permitted.1) permitted.2

/-! ## The rows of R822 -/

theorem Size.ds_eq (z : Size) : z.ds.toNat = Nat.log2 z.bytes := by
  cases z <;> rfl

theorem loadAccess_single {z : Size} {len itype : Nat} {r : Reg} {u : Bool} (hlen : len < 16) (hitype : itype < 32) :
    (loadAccess a z (BitVec.ofNat 4 len) r u (BitVec.ofNat 5 itype)).Single a z.bytes [.read] (meiRow len r z.bytes u itype 0) :=
  ⟨rfl, rfl, rfl, rfl, rfl, meiWord_eq_row hlen z.ds_eq hitype rfl⟩

theorem storeAccess_single {z : Size} {len itype : Nat} {r : Reg} (hlen : len < 16) (hitype : itype < 32) :
    (storeAccess a z (BitVec.ofNat 4 len) r (BitVec.ofNat 5 itype)).Single a z.bytes [.write]
      (meiRow len r z.bytes false itype 1) :=
  ⟨rfl, rfl, rfl, rfl, rfl, meiWord_eq_row hlen z.ds_eq hitype rfl⟩

theorem dwordAccess_single (r : Reg) (w : Bool) : (dwordAccess a r w).Single a 8 [if w then .write else .read]
    (meiRow 6 r 8 false 2 w.toNat) :=
  ⟨rfl, rfl, rfl, rfl, rfl, meiWord_eq_row (len := 6) (itype := 2) (by decide) rfl (by decide) rfl⟩

theorem bitAccess_single (w : Bool) :
    (bitAccess a w).Single a 1 (if w then [.read, .write] else [.read]) (meiRow 4 0 1 false 9 0) :=
  ⟨rfl, rfl, rfl, rfl, rfl, meiWord_eq_row (len := 4) (itype := 9) (by decide) rfl (by decide) rfl⟩

theorem vecAccess_single {ds : BitVec 3} {itype : Nat} {r : VReg} {w : Bool} (hds : ds.toNat = Nat.log2 n) (hitype : itype < 32) :
    (vecAccess a n ds r (BitVec.ofNat 5 itype) w).Single a n [if w then .write else .read] (meiRow 6 r n false itype w.toNat) :=
  ⟨rfl, rfl, rfl, rfl, rfl, meiWord_eq_row (len := 6) (by decide) hds hitype rfl⟩

end

section
variable {s : State} {i : Instr} {a : Word}

theorem stops_load (z : Size) (update : Option (Reg × Word)) (l : Nat) {len itype : Nat} {r : Reg} {u : Bool}
    (h : ∀ m, exec i (s.mapped m) =
      (s.mapped m).loadTo (loadAccess a z (BitVec.ofNat 4 len) r u (BitVec.ofNat 5 itype)) z u r update l)
    (bounds : len < 16 ∧ itype < 32 := by decide) : Stops i s [.read] a z.bytes (meiRow len r z.bytes u itype 0) :=
  (MakesOne.loadTo h).checks.stops (loadAccess_single bounds.1 bounds.2)

theorem stops_store (z : Size) (update : Option (Reg × Word)) (l : Nat) {len itype : Nat} {r : Reg}
    (h : ∀ m, exec i (s.mapped m) =
      (s.mapped m).storeFrom (storeAccess a z (BitVec.ofNat 4 len) r (BitVec.ofNat 5 itype)) z r update l)
    (bounds : len < 16 ∧ itype < 32 := by decide) : Stops i s [.write] a z.bytes (meiRow len r z.bytes false itype 1) :=
  (MakesOne.storeFrom h).checks.stops (storeAccess_single bounds.1 bounds.2)

theorem stops_modifyBit (bit : Nat) (f : Bool → Bool) (h : ∀ m, exec i (s.mapped m) = (s.mapped m).modifyBit a bit f) :
    Stops i s [.read, .write] a 1 (meiRow 4 0 1 false 9 0) :=
  (MakesOne.modifyBit h).checks.stops (bitAccess_single true)

theorem stops_testBit (bit : Nat) (h : ∀ m, exec i (s.mapped m) = (s.mapped m).testBit a bit) :
    Stops i s [.read] a 1 (meiRow 4 0 1 false 9 0) :=
  (MakesOne.testBit h).checks.stops (bitAccess_single false)

theorem stops_loadLinked (z : Size) {reg1 r : Reg} (h : ∀ m, exec i (s.mapped m) = (s.mapped m).loadLinked z reg1 r) :
    Stops i s [.read] (s.reg reg1) z.bytes (meiRow 4 r z.bytes (z != .word) 7 0) :=
  (MakesOne.loadLinked h).checks.stops (loadAccess_single (len := 4) (itype := 7) (by decide) (by decide))

theorem stops_storeConditional (z : Size) {reg1 r : Reg} (h : ∀ m, exec i (s.mapped m) = (s.mapped m).storeConditional z reg1 r) :
    Stops i s [.write] (s.reg reg1) z.bytes (meiRow 4 r z.bytes false 7 1) :=
  (storeConditional_makes h).1.stops (storeAccess_single (len := 4) (itype := 7) (by decide) (by decide))

theorem caxiAccess_single {r : Reg} :
    Access.Single ⟨a, 4, [.read, .write], true, false, meiWord 4 r 2 false 8 false⟩ a 4 [.read, .write] (meiRow 4 r 4 false 8 0) :=
  ⟨rfl, rfl, rfl, rfl, rfl, meiWord_eq_row (len := 4) (itype := 8) (by decide) rfl (by decide) rfl⟩

/-! ## The accesses whose alignment is not checked -/

/-- R814 (b): such an access that the MPU denies. -/
theorem Checks.tableDenied {x : Access} {user : Bool} {n : Nat} {ks : List AccessKind} {mei : Word} (h : Checks i s x user)
    (unaligned : x.aligned = false) (adr : x.adr = a) (size : x.size = n) (kinds : x.kinds = ks) (block : x.block = false)
    (row : x.mei = mei) {l : Layer} (denied : s.mpuViolation s.mode a.toNat (a.toNat + n - 1) ks user = some l) :
    RaisesMdp i s s l a n ks user false mei := by
  subst adr size kinds row
  rw [← block]
  exact h.denied (.inl unaligned) denied

/-- R536: the address of the entry of a system call. -/
theorem syscallEntry_eq (vector8 : BitVec 8) : s.syscallEntry vector8 =
    s.sys.scbp + BitVec.ofNat 32 (4 * if vector8.toNat ≤ s.sys.sccfg.toNat % 256 then vector8.toNat else 0) := by
  have size : (s.sys.sccfg.extractLsb' 0 8).toNat = s.sys.sccfg.toNat % 256 := by simp
  simp only [State.syscallEntry, zextW_dispLow, size]
  congr 1
  split
  · have := vector8.isLt
    refine BitVec.eq_of_toNat_eq ?_
    rw [BitVec.toNat_shiftLeft, BitVec.toNat_setWidth, BitVec.toNat_ofNat, Nat.shiftLeft_eq]
    omega
  · rfl

/-- R570: CHBII and CFALI check one byte as a read. -/
theorem cacheByte_denied {op : BitVec 7} {reg1 : Reg} {o : CacheOp} (code : cacheOpOf op = some o) (kind : o = .chbii ∨ o = .cfali)
    (may : s.mayCache o = true) {l : Layer}
    (denied : s.mpuViolation s.mode (s.reg reg1).toNat ((s.reg reg1).toNat + 1 - 1) [.read] s.um = some l) :
    RaisesMdp (.cache op reg1) s s l (s.reg reg1) 1 [.read] s.um false (meiRow 4 0 1 false 20 0) := by
  have run : exec (.cache op reg1) s = s.runCache o (s.reg reg1) := by
    show execCache op reg1 s = _
    simp only [execCache, code, may, if_true]
  have stop : exec (.cache op reg1) s = s.raiseMdp (cacheAccess (s.reg reg1)) l s.um := by
    rw [Nat.add_sub_cancel] at denied
    rcases kind with rfl | rfl <;> simpa only [State.runCache, cacheAccess, denied] using run
  have row : (cacheAccess (s.reg reg1)).mei = meiRow 4 0 1 false 20 0 :=
    meiWord_eq_row (len := 4) (itype := 20) (by decide) rfl (by decide) rfl
  rw [← row]
  exact .of_raiseMdp stop rfl

end
end Sys2Proof.Machine

open Sys2Proof.Machine

/-- Settles O14: every form checks its access first, so the rule for a stopped access, stated once, gives its exception. -/
theorem stoppedAccessesRaiseMaeOrMdp : Obligations.StoppedAccessesRaiseMaeOrMdp := by
  intro s reg1 reg2 r v d16 d15 d23 d22 d7 d6 d4 bit3 imm4 imm2 imm1 v14 v13 v12 imm6 vector8 denied stops loads stores
    b b16 b15 b23 b22 e x14 x13 x12 changes rmw vector entry
  refine ⟨stops_load .byte none 4 fun _ => rfl,
    stops_load .byte none 4 fun _ => rfl,
    stops_load .half none 4 fun _ => rfl,
    stops_load .half none 4 fun _ => rfl,
    stops_load .word none 4 fun _ => rfl,
    stops_store .byte none 4 fun _ => rfl,
    stops_store .half none 4 fun _ => rfl,
    stops_store .word none 4 fun _ => rfl,
    stops_load .byte none 6 fun _ => rfl,
    stops_load .byte none 6 fun _ => rfl,
    stops_load .half none 6 fun _ => rfl,
    stops_load .half none 6 fun _ => rfl,
    stops_load .word none 6 fun _ => rfl,
    (MakesOne.ldDw d22 reg1 r).checks.stops (dwordAccess_single r false),
    stops_store .byte none 6 fun _ => rfl,
    stops_store .half none 6 fun _ => rfl,
    stops_store .word none 6 fun _ => rfl,
    (MakesOne.stDw d22 reg1 r).checks.stops (dwordAccess_single r true),
    stops_load .byte (some (reg1, b + 1)) 4 fun _ => rfl,
    stops_load .byte (some (reg1, b - 1)) 4 fun _ => rfl,
    stops_load .byte (some (reg1, b + 1)) 4 fun _ => rfl,
    stops_load .byte (some (reg1, b - 1)) 4 fun _ => rfl,
    stops_load .half (some (reg1, b + 2)) 4 fun _ => rfl,
    stops_load .half (some (reg1, b - 2)) 4 fun _ => rfl,
    stops_load .half (some (reg1, b + 2)) 4 fun _ => rfl,
    stops_load .half (some (reg1, b - 2)) 4 fun _ => rfl,
    stops_load .word (some (reg1, b + 4)) 4 fun _ => rfl,
    stops_load .word (some (reg1, b - 4)) 4 fun _ => rfl,
    stops_store .byte (some (reg1, b + 1)) 4 fun _ => rfl,
    stops_store .byte (some (reg1, b - 1)) 4 fun _ => rfl,
    stops_store .half (some (reg1, b + 2)) 4 fun _ => rfl,
    stops_store .half (some (reg1, b - 2)) 4 fun _ => rfl,
    stops_store .word (some (reg1, b + 4)) 4 fun _ => rfl,
    stops_store .word (some (reg1, b - 4)) 4 fun _ => rfl,
    stops_load .byte none 2 fun _ => rfl,
    stops_load .byte none 2 fun _ => rfl,
    stops_load .half none 2 fun _ => rfl,
    stops_load .half none 2 fun _ => rfl,
    stops_load .word none 2 fun _ => rfl,
    stops_store .byte none 2 fun _ => rfl,
    stops_store .half none 2 fun _ => rfl,
    stops_store .word none 2 fun _ => rfl,
    stops_modifyBit bit3.toNat (fun _ => true) fun _ => rfl,
    stops_modifyBit (bitNumber (s.reg reg2)) (fun _ => true) fun _ => rfl,
    stops_modifyBit bit3.toNat (fun _ => false) fun _ => rfl,
    stops_modifyBit (bitNumber (s.reg reg2)) (fun _ => false) fun _ => rfl,
    stops_modifyBit bit3.toNat not fun _ => rfl,
    stops_modifyBit (bitNumber (s.reg reg2)) not fun _ => rfl,
    stops_testBit bit3.toNat fun _ => rfl,
    stops_testBit (bitNumber (s.reg reg2)) fun _ => rfl,
    (MakesOne.caxi reg1 reg2 r).checks.stops caxiAccess_single,
    stops_loadLinked .byte fun _ => rfl,
    stops_loadLinked .half fun _ => rfl,
    stops_loadLinked .word fun _ => rfl,
    stops_storeConditional .byte fun _ => rfl,
    stops_storeConditional .half fun _ => rfl,
    stops_storeConditional .word fun _ => rfl,
    fun fxu => (MakesOne.ldvW fxu imm4 v14 reg1 v).checks.stops (vecAccess_single (itype := 29) rfl (by decide)),
    fun fxu => (MakesOne.ldvDw fxu imm2 v13 reg1 v).checks.stops (vecAccess_single (itype := 29) rfl (by decide)),
    fun fxu => (MakesOne.ldvQw fxu v12 reg1 v).checks.stops (vecAccess_single (itype := 29) rfl (by decide)),
    fun fxu => (MakesOne.ldvzH4 fxu v13 reg1 v).checks.stops (vecAccess_single (itype := 31) rfl (by decide)),
    fun fxu => (MakesOne.stvW fxu imm2 v14 reg1 v).checks.stops (vecAccess_single (itype := 29) rfl (by decide)),
    fun fxu => (MakesOne.stvDw fxu imm1 v13 reg1 v).checks.stops (vecAccess_single (itype := 29) rfl (by decide)),
    fun fxu => (MakesOne.stvQw fxu v12 reg1 v).checks.stops (vecAccess_single (itype := 29) rfl (by decide)),
    fun fxu => (MakesOne.stvzH4 fxu v13 reg1 v).checks.stops (vecAccess_single (itype := 31) rfl (by decide)),
    fun l denied => (MakesOne.callt imm6).checks.tableDenied rfl rfl rfl rfl rfl
        (meiWord_eq_row (len := 2) (itype := 17) (by decide) rfl (by decide) rfl) denied,
    fun l denied => (MakesOne.switch reg1).checks.tableDenied rfl rfl rfl rfl rfl
        (meiWord_eq_row (len := 2) (itype := 16) (by decide) rfl (by decide) rfl) denied,
    fun l denied => (MakesOne.syscall vector8).checks.tableDenied rfl (syscallEntry_eq vector8) rfl rfl rfl
        (meiWord_eq_row (len := 4) (itype := 18) (by decide) rfl (by decide) rfl) denied,
    fun l denied => cacheByte_denied rfl (.inl rfl) rfl denied,
    fun mode l denied => cacheByte_denied rfl (.inr rfl) ?_ denied⟩
  show (if s.hve then s.isHv else !s.um) = true
  split at mode
  · next hve => simp [State.isHv, hve, mode.1, mode.2]
  · next hve => simp [hve, mode]
end

section
/-!
PROOFS. Transfers of several words, one word after another: where one stops (60_exceptions.md R806, R814, R815), and what is reported
of them (20_memory.md R202, R204).
-/

namespace Sys2Proof.Machine

/-! ## A transfer, word by word -/

/-- A transfer of `n` words more from word `j` on: word `j` is at `place j`, and does what `f j` says. -/
def wordChain (place : Nat → Word) (kind : AccessKind) (block : Bool) (mei : Nat → Word) (f : Nat → State → State) (fin : State → Out) :
    Nat → Nat → State → Out
  | 0, _, s => fin s
  | n + 1, j, s => s.access ⟨place j, 4, [kind], false, block, mei j⟩ (wordChain place kind block mei f fin n (j + 1) (f j s))

theorem after_succ (s : State) (f : Nat → State → State) (k : Nat) : after s f (k + 1) = f k (after s f k) := by
  simp [after, List.range_succ]

theorem add_words (a : Word) (j : Nat) : a + BitVec.ofNat 32 (4 * j) + 4 = a + BitVec.ofNat 32 (4 * (j + 1)) := by
  rw [Nat.mul_add, BitVec.ofNat_add]
  exact BitVec.add_assoc ..

theorem sub_words (a : Word) (j : Nat) : a - BitVec.ofNat 32 (4 * j) - 4 = a - BitVec.ofNat 32 (4 * (j + 1)) := by
  rw [Nat.mul_add, BitVec.ofNat_add]
  bv_omega

section
variable {α : Type} (d : α)

/-- `ys` are the elements of `xs` from number `j` on. -/
def IsTail (xs ys : List α) (j : Nat) : Prop := ∀ k, ys.getD k d = xs.getD (j + k) d

theorem IsTail.head {xs ys : List α} {y : α} {j : Nat} (h : IsTail d xs (y :: ys) j) : xs.getD j d = y := by
  simpa using (h 0).symm

theorem IsTail.tail {xs ys : List α} {y : α} {j : Nat} (h : IsTail d xs (y :: ys) j) : IsTail d xs ys (j + 1) := by
  intro k
  rw [show j + 1 + k = j + (k + 1) by omega, ← h (k + 1)]
  rfl

theorem loadBlock_chain (itype : BitVec 5) (put : State → α → Word → State) (xs : List α) (a : Word) (s : State) (fin : State → Out) :
    loadBlock itype put xs a s fin = wordChain (blockAddress a) .read false (fun _ => meiWord 4 0 2 false itype false)
      (fun j t => put t (xs.getD j d) (t.readWord (blockAddress a j))) fin xs.length 0 s := by
  have gen : ∀ (ys : List α) (j : Nat) (t : State), IsTail d xs ys j →
      loadBlock itype put ys (a + BitVec.ofNat 32 (4 * j)) t fin =
        wordChain (blockAddress a) .read false (fun _ => meiWord 4 0 2 false itype false)
          (fun j t => put t (xs.getD j d) (t.readWord (blockAddress a j))) fin ys.length j t := by
    intro ys
    induction ys with
    | nil => exact fun _ _ _ => rfl
    | cons y ys ih =>
      intro j t tail
      rw [List.length_cons, wordChain, ← ih _ _ tail.tail, tail.head, ← add_words]
      rfl
  have := gen xs 0 s fun k => by rw [Nat.zero_add]
  simpa using this

theorem storeBlock_chain (itype : BitVec 5) (get : State → α → Word) (xs : List α) (a : Word) (s : State) (fin : State → Out) :
    storeBlock itype get xs a s fin = wordChain (blockAddress a) .write false (fun _ => meiWord 4 0 2 false itype true)
      (fun j t => t.writeWord (blockAddress a j) (get t (xs.getD j d))) fin xs.length 0 s := by
  have gen : ∀ (ys : List α) (j : Nat) (t : State), IsTail d xs ys j →
      storeBlock itype get ys (a + BitVec.ofNat 32 (4 * j)) t fin =
        wordChain (blockAddress a) .write false (fun _ => meiWord 4 0 2 false itype true)
          (fun j t => t.writeWord (blockAddress a j) (get t (xs.getD j d))) fin ys.length j t := by
    intro ys
    induction ys with
    | nil => exact fun _ _ _ => rfl
    | cons y ys ih =>
      intro j t tail
      rw [List.length_cons, wordChain, ← ih _ _ tail.tail, tail.head, ← add_words]
      rfl
  have := gen xs 0 s fun k => by rw [Nat.zero_add]
  simpa using this

end

/-- The place of word `k` of a frame below `tmp`. -/
def belowAddress (tmp : Word) (k : Nat) : Word := wordAddress (tmp - BitVec.ofNat 32 (4 * (k + 1)))

theorem pushRegs_chain (mei values : Reg → Word) (rs : List Reg) (tmp : Word) (s : State) (fin : Word → State → Out) :
    pushRegs mei values rs tmp s fin = wordChain (belowAddress tmp) .write true (fun j => mei (rs.getD j 0))
      (fun j t => t.writeWord (belowAddress tmp j) (values (rs.getD j 0))) (fin (tmp - BitVec.ofNat 32 (4 * rs.length))) rs.length 0 s := by
  have gen : ∀ (ys : List Reg) (j : Nat) (t : State), IsTail 0 rs ys j → j + ys.length = rs.length →
      pushRegs mei values ys (tmp - BitVec.ofNat 32 (4 * j)) t fin =
        wordChain (belowAddress tmp) .write true (fun j => mei (rs.getD j 0))
          (fun j t => t.writeWord (belowAddress tmp j) (values (rs.getD j 0))) (fin (tmp - BitVec.ofNat 32 (4 * rs.length)))
          ys.length j t := by
    intro ys
    induction ys with
    | nil =>
      intro j t _ hj
      rw [← hj]
      rfl
    | cons y ys ih =>
      intro j t tail hj
      rw [List.length_cons] at hj
      rw [List.length_cons, wordChain, ← ih _ _ tail.tail (by omega), tail.head, belowAddress, ← sub_words]
      rfl
  have := gen rs 0 s (fun k => by rw [Nat.zero_add]) (by omega)
  simpa using this

theorem popRegs_chain (mei : Reg → Word) (keep : Reg → Bool) (rs : List Reg) (tmp : Word) (s : State) (fin : Word → State → Out) :
    popRegs mei keep rs tmp s fin = wordChain (blockAddress tmp) .read true (fun j => mei (rs.getD j 0))
      (fun j t => if keep (rs.getD j 0) then t else t.setReg (rs.getD j 0) (t.readWord (blockAddress tmp j)))
      (fin (tmp + BitVec.ofNat 32 (4 * rs.length))) rs.length 0 s := by
  have gen : ∀ (ys : List Reg) (j : Nat) (t : State), IsTail 0 rs ys j → j + ys.length = rs.length →
      popRegs mei keep ys (tmp + BitVec.ofNat 32 (4 * j)) t fin =
        wordChain (blockAddress tmp) .read true (fun j => mei (rs.getD j 0))
          (fun j t => if keep (rs.getD j 0) then t else t.setReg (rs.getD j 0) (t.readWord (blockAddress tmp j)))
          (fin (tmp + BitVec.ofNat 32 (4 * rs.length))) ys.length j t := by
    intro ys
    induction ys with
    | nil =>
      intro j t _ hj
      rw [← hj]
      rfl
    | cons y ys ih =>
      intro j t tail hj
      rw [List.length_cons] at hj
      rw [List.length_cons, wordChain, ← ih _ _ tail.tail (by omega), tail.head, ← add_words]
      rfl
  have := gen rs 0 s (fun k => by rw [Nat.zero_add]) (by omega)
  simpa using this

/-! ## What a transfer keeps -/

/-- What the accesses of a transfer from `s` depend on is in `t` as it is in `s`. -/
structure State.During (s t : State) : Prop where
  prod : t.prod = s.prod
  pc : t.pc = s.pc
  pswh : t.sys.pswh = s.sys.pswh
  hvcfg : t.sys.hvcfg = s.sys.hvcfg
  host : t.host.psw = s.host.psw ∧ t.host.spid = s.host.spid ∧ t.host.mpm = s.host.mpm
  guest : s.mode = .guest → t.guest.psw = s.guest.psw ∧ t.guest.spid = s.guest.spid ∧ t.guest.mpm = s.guest.mpm

section
variable {s t u : State}

theorem State.During.refl (s : State) : s.During s := ⟨rfl, rfl, rfl, rfl, ⟨rfl, rfl, rfl⟩, fun _ => ⟨rfl, rfl, rfl⟩⟩

theorem State.During.hve (h : s.During t) : t.hve = s.hve := by
  simp [State.hve, h.hvcfg]

theorem State.During.mode (h : s.During t) : t.mode = s.mode := by
  simp [State.mode, h.hve, h.pswh]

theorem State.During.ctx (h : s.During t) : (t.ctx s.mode).psw = (s.ctx s.mode).psw ∧ (t.ctx s.mode).spid = (s.ctx s.mode).spid := by
  cases m : s.mode with
  | host => exact ⟨h.host.1, h.host.2.1⟩
  | guest => exact ⟨(h.guest m).1, (h.guest m).2.1⟩

theorem State.During.um (h : s.During t) : t.um = s.um := by
  simp only [State.um, State.psw, State.cur, h.mode, h.ctx.1]

theorem State.During.trans (h : s.During t) (k : t.During u) : s.During u := by
  refine ⟨k.prod.trans h.prod, k.pc.trans h.pc, k.pswh.trans h.pswh, k.hvcfg.trans h.hvcfg, ?_, fun m => ?_⟩
  · exact ⟨k.host.1.trans h.host.1, k.host.2.1.trans h.host.2.1, k.host.2.2.trans h.host.2.2⟩
  · have a := h.guest m
    have b := k.guest (h.mode.trans m)
    exact ⟨b.1.trans a.1, b.2.1.trans a.2.1, b.2.2.trans a.2.2⟩

theorem State.During.sameAccess (h : s.During t) : s.SameAccess t := ⟨h.prod, h.mode, h.ctx.2, h.pswh⟩

theorem State.during_writeWord (s : State) (a v : Word) : s.During (s.writeWord a v) :=
  ⟨rfl, rfl, rfl, rfl, ⟨rfl, rfl, rfl⟩, fun _ => ⟨rfl, rfl, rfl⟩⟩

theorem State.during_setReg (s : State) (r : Reg) (v : Word) : s.During (s.setReg r v) := by
  unfold State.setReg
  split
  · exact .refl s
  · exact ⟨rfl, rfl, rfl, rfl, ⟨rfl, rfl, rfl⟩, fun _ => ⟨rfl, rfl, rfl⟩⟩

theorem State.during_writeEntry (s : State) (e : Nat) (r : EntryReg) (v : Word) : s.During (s.writeEntry e r v) := by
  unfold State.writeEntry
  split
  · exact ⟨rfl, rfl, rfl, rfl, ⟨rfl, rfl, rfl⟩, fun _ => ⟨rfl, rfl, rfl⟩⟩
  · exact .refl s

/-- A write that changes a guest register in host mode. -/
theorem State.during_writeGuest (hm : s.mode = .host) (x : CtxReg) (v : Word) : s.During (s.writeGuestFromHost x v) := by
  cases x <;> exact ⟨rfl, rfl, rfl, rfl, ⟨rfl, rfl, rfl⟩, fun m => absurd (hm.symm.trans m) (by simp)⟩

/-- LDM.GSR loads no register that its own accesses depend on. -/
theorem State.during_writeGsr (hm : s.mode = .host) {r : SReg} (h : r ∈ gsrRegs) (v : Word) : s.During (s.writeSr r v) := by
  have guest (x : CtxReg) : s.During (s.writeSr (.gm x) v) := State.during_writeGuest hm x v
  have all : ∀ r ∈ gsrRegs, s.During (s.writeSr r v) := by
    simp only [gsrRegs, List.forall_mem_cons]
    and_intros
    all_goals
      first
      | exact guest _
      | exact ⟨rfl, rfl, rfl, rfl, ⟨rfl, rfl, rfl⟩, fun _ => ⟨rfl, rfl, rfl⟩⟩
      | exact fun _ h => absurd h List.not_mem_nil
  exact all r h

theorem State.during_writeSaved (s : State) {x : CtxReg} (h : x = .eiic ∨ x = .eipsw ∨ x = .eipc) (v : Word) :
    s.During (s.writeSr (.orig x) v) := by
  cases m : s.mode <;> rcases h with rfl | rfl | rfl <;> simp only [State.writeSr, m] <;>
    exact ⟨rfl, rfl, rfl, rfl, ⟨rfl, rfl, rfl⟩, fun _ => ⟨rfl, rfl, rfl⟩⟩

/-! ## Where a transfer stops -/

/-- What the words before a stopped one have done is done; the word that stops raises its exception. -/
theorem wordChain_stops {i : Instr} {n : Nat} {place : Nat → Word} {kind : AccessKind} {block : Bool} {mei : Nat → Word}
    {f : Nat → State → State} {fin : State → Out} (h : exec i s = wordChain place kind block mei f fin n 0 s)
    (during : ∀ j, j ≤ n → s.During (after s f j)) : StopsAtWord i s n place kind block mei f := by
  intro j hj permitted
  have reach : ∀ k, k ≤ j → exec i s = wordChain place kind block mei f fin (n - k) k (after s f k) := by
    intro k hk
    induction k with
    | zero => exact h
    | succ k ih =>
      have go := permitted k (by omega)
      have um := (during k (by omega)).um
      rw [ih (by omega), show n - k = n - (k + 1) + 1 by omega, wordChain, after_succ]
      exact State.access_ok (.inl rfl) (by rwa [um])
  obtain ⟨m, hm⟩ : ∃ m, n - j = m + 1 := ⟨n - j - 1, by omega⟩
  have at_j := reach j le_rfl
  rw [hm, wordChain] at at_j
  intro u violation
  have d : s.During u := during j (by omega)
  refine ⟨fun l denied => ?_, fun allowed reserved => ?_⟩
  · have denied' : u.mpuViolation u.mode (place j).toNat ((place j).toNat + 4 - 1) [kind] u.um = some l := by
      rw [d.mode, d.um]
      exact denied
    have raises := at_j.trans (State.access_mdp (.inl rfl) denied')
    rw [d.um] at raises
    exact .of_raiseMdp raises d.pc
  · have allowed' : u.mpuViolation u.mode (place j).toNat ((place j).toNat + 4 - 1) [kind] u.um = none := by
      rw [d.mode, d.um]
      exact allowed
    have reserved' : u.Reaches .reserved (place j, 4, [kind]) := by
      rw [State.Reaches, d.prod]
      exact reserved
    exact .of_raiseSyserr (at_j.trans (State.checked_reserved (.inl rfl) allowed' reserved')) d.pc d.prod

end
end Sys2Proof.Machine
end

section
/-!
PROOFS. The instructions that transfer several words: where they stop (60_exceptions.md R806, R814, R815).
-/

namespace Sys2Proof.Machine

variable {i : Instr} {s : State}

/-! ## The state after some words -/

/-- What every word keeps is kept. -/
theorem after_keeps {f : Nat → State → State} {n : Nat} (P : State → Prop) (start : P s) (word : ∀ k, k < n → ∀ t, P t → P (f k t)) :
    ∀ k, k ≤ n → P (after s f k) := by
  intro k
  induction k with
  | zero => exact fun _ => start
  | succ k ih =>
    intro hk
    rw [after_succ]
    exact word k hk _ (ih (by omega))

/-- Two descriptions of the words that agree on every state reached. -/
theorem after_congr {f g : Nat → State → State} {n : Nat} (h : ∀ k, k < n → f k (after s g k) = g k (after s g k)) :
    ∀ k, k ≤ n → after s f k = after s g k := by
  intro k
  induction k with
  | zero => exact fun _ => rfl
  | succ k ih =>
    intro hk
    rw [after_succ, after_succ, ih (by omega), h k hk]

theorem StopsAtWord.congr {n : Nat} {place : Nat → Word} {kind : AccessKind} {block : Bool} {mei mei' : Nat → Word}
    {f g : Nat → State → State} (h : StopsAtWord i s n place kind block mei f) (row : ∀ k, mei k = mei' k)
    (same : ∀ k, k ≤ n → after s g k = after s f k) : StopsAtWord i s n place kind block mei' g := by
  intro j hj permitted
  rw [same j hj.le, ← row j]
  exact h j hj fun k hk => by
    rw [← same k (by omega)]
    exact permitted k hk

theorem State.readWord_congr {t : State} (h : t.mem = s.mem) (a : Word) : t.readWord a = s.readWord a := by
  simp only [State.readWord, State.readHalf, State.readByte, h]

/-! ## Blocks -/

section
variable {α : Type} {xs : List α} {a : Word} {itype : Nat} {fin : State → Out}

/-- R822: the row of a block transfer. -/
theorem blockRow {w : Bool} (hitype : itype < 32) :
    meiWord 4 0 2 false (BitVec.ofNat 5 itype) w = meiRow 4 0 4 false itype w.toNat :=
  meiWord_eq_row (len := 4) (by decide) rfl hitype rfl

/-- Words loaded, each put where `put` says. -/
theorem loadBlock_stops (d : α) {put : State → α → Word → State} (hitype : itype < 32)
    (h : exec i s = loadBlock (BitVec.ofNat 5 itype) put xs a s fin)
    (keeps : ∀ t, s.During t → ∀ x ∈ xs, ∀ v, t.During (put t x v) ∧ (put t x v).mem = t.mem) :
    StopsAtWord i s xs.length (blockAddress a) .read false (fun _ => meiRow 4 0 4 false itype 0)
      fun k t => put t (xs.getD k d) (s.readWord (blockAddress a k)) := by
  rw [loadBlock_chain d] at h
  have item (k : Nat) (hk : k < xs.length) : xs.getD k d ∈ xs := by
    rw [List.getD_eq_getElem _ _ hk]
    exact List.getElem_mem hk
  have kept := after_keeps (s := s) (n := xs.length) (f := fun k t => put t (xs.getD k d) (t.readWord (blockAddress a k)))
    (fun t => s.During t ∧ t.mem = s.mem) ⟨.refl s, rfl⟩ fun k hk t ⟨during, mem⟩ =>
      have word := keeps t during _ (item k hk) (t.readWord (blockAddress a k))
      ⟨during.trans word.1, word.2.trans mem⟩
  refine (wordChain_stops h fun j hj => (kept j hj).1).congr (fun _ => blockRow (w := false) hitype) (after_congr fun k hk => ?_)
  rw [State.readWord_congr (kept k hk.le).2]

/-- Words stored, each taken from where `get` says. -/
theorem storeBlock_stops (d : α) {get : State → α → Word} (hitype : itype < 32)
    (h : exec i s = storeBlock (BitVec.ofNat 5 itype) get xs a s fin) (keeps : ∀ t x, s.MemOnly t → get t x = get s x) :
    StopsAtWord i s xs.length (blockAddress a) .write false (fun _ => meiRow 4 0 4 false itype 1)
      fun k t => t.writeWord (blockAddress a k) (get s (xs.getD k d)) := by
  rw [storeBlock_chain d] at h
  have kept := after_keeps (s := s) (n := xs.length) (f := fun k t => t.writeWord (blockAddress a k) (get t (xs.getD k d)))
    (fun t => s.During t ∧ s.MemOnly t) ⟨.refl s, rfl⟩ fun k hk t ⟨during, mem⟩ =>
      ⟨during.trans (State.during_writeWord ..), mem.trans (State.memOnly_writeWord ..)⟩
  refine (wordChain_stops h fun j hj => (kept j hj).1).congr (fun _ => blockRow (w := true) hitype) (after_congr fun k hk => ?_)
  rw [keeps _ _ (kept k hk.le).2]

end

/-! ## Frames -/

/-- R504, R506: registers stored below sp. -/
theorem pushRegs_stops {len itype : Nat} (bounds : len < 16 ∧ itype < 32) {rs : List Reg} {tmp : Word} {fin : Word → State → Out}
    (h : exec i s = pushRegs (stackMei (BitVec.ofNat 4 len) (BitVec.ofNat 5 itype) true) s.reg rs tmp s fin) :
    StopsAtWord i s rs.length (belowAddress tmp) .write true (fun k => meiRow len (rs.getD k 0) 4 false itype 1)
      fun k t => t.writeWord (belowAddress tmp k) (s.reg (rs.getD k 0)) := by
  rw [pushRegs_chain] at h
  have kept := after_keeps (s := s) (n := rs.length) (f := fun k t => t.writeWord (belowAddress tmp k) (s.reg (rs.getD k 0)))
    s.During (.refl s) fun k _ t during => during.trans (State.during_writeWord ..)
  exact (wordChain_stops h kept).congr (fun k => meiWord_eq_row bounds.1 rfl bounds.2 rfl) fun _ _ => rfl

/-- R505, R507: registers loaded from sp upward; r3 is reported as register 0. -/
theorem popRegs_stops {itype : Nat} (hitype : itype < 32) {rs : List Reg} {tmp : Word} {mei : Reg → Word} {keep : Reg → Bool}
    {fin : Word → State → Out} (h : exec i s = popRegs mei keep rs tmp s fin)
    (row : ∀ k, mei (rs.getD k 0) = stackMei 4 (BitVec.ofNat 5 itype) false (if rs.getD k 0 = sp then 0 else rs.getD k 0))
    (kept : ∀ k, keep (rs.getD k 0) = true ↔ rs.getD k 0 = sp) :
    StopsAtWord i s rs.length (blockAddress tmp) .read true
      (fun k => meiRow 4 (if rs.getD k 0 = sp then 0 else rs.getD k 0) 4 false itype 0)
      fun k t => if rs.getD k 0 = sp then t else t.setReg (rs.getD k 0) (s.readWord (blockAddress tmp k)) := by
  rw [popRegs_chain] at h
  have states := after_keeps (s := s) (n := rs.length)
    (f := fun k t => if keep (rs.getD k 0) then t else t.setReg (rs.getD k 0) (t.readWord (blockAddress tmp k)))
    (fun t => s.During t ∧ t.mem = s.mem) ⟨.refl s, rfl⟩ fun k _ t ⟨during, mem⟩ => by
      by_cases c : keep (rs.getD k 0) = true
      · simpa only [c, if_true] using ⟨during, mem⟩
      · simpa only [c] using ⟨during.trans (State.during_setReg ..), (State.setReg_mem ..).trans mem⟩
  refine (wordChain_stops h fun j hj => (states j hj).1).congr (fun k => ?_) (after_congr fun k hk => ?_)
  · rw [row]
    exact meiWord_eq_row (len := 4) (by decide) rfl hitype rfl
  · rw [State.readWord_congr (states k hk.le).2]
    simp only [kept]

theorem list12Regs_ne_sp (l : BitVec 12) (k : Nat) : (list12Regs l).reverse.getD k 0 ≠ sp := by
  have table : ∀ p ∈ list12Table, p.2 ≠ sp := by decide
  by_cases hk : k < (list12Regs l).reverse.length
  · rw [List.getD_eq_getElem _ _ hk]
    have mem := List.mem_reverse.mp (List.getElem_mem hk)
    obtain ⟨p, hp, e⟩ := List.mem_map.mp mem
    rw [← e]
    exact table p (List.mem_filter.mp hp).1
  · rw [List.getD_eq_default _ _ (by omega)]
    decide

theorem dispose_stops {list12 : BitVec 12} {imm5 : BitVec 5} {fin : State → Out} (h : exec i s = s.dispose imm5 list12 fin) :
    StopsAtWord i s (list12Regs list12).length (blockAddress (s.reg sp + (imm5.setWidth 32 <<< 2))) .read true
      (fun k => meiRow 4 (if (list12Regs list12).reverse.getD k 0 = sp then 0 else (list12Regs list12).reverse.getD k 0) 4 false 12 0)
      fun k t => if (list12Regs list12).reverse.getD k 0 = sp then t
        else t.setReg ((list12Regs list12).reverse.getD k 0)
          (s.readWord (blockAddress (s.reg sp + (imm5.setWidth 32 <<< 2)) k)) := by
  rw [State.dispose, zextW_dispLow] at h
  have stops := popRegs_stops (itype := 12) (by decide) h (fun k => by rw [if_neg (list12Regs_ne_sp list12 k)]; rfl)
    fun k => iff_of_false Bool.false_ne_true (list12Regs_ne_sp list12 k)
  rwa [List.length_reverse] at stops

/-! ## The registers of a block -/

/-- R542, R543: the entries transferred have their three registers each. -/
theorem entryRegs_eq (eh et : BitVec 5) :
    entryRegs eh et = (List.range' eh.toNat (et.toNat + 1 - eh.toNat)).flatMap fun e => [(e, .mpla), (e, .mpua), (e, .mpat)] := by
  have range : ∀ h t : Fin 32, ((List.range 32).filter fun e => decide (h.val ≤ e) && decide (e ≤ t.val)) =
      List.range' h.val (t.val + 1 - h.val) := by decide
  exact congrArg (List.flatMap _) (range ⟨eh.toNat, eh.isLt⟩ ⟨et.toNat, et.isLt⟩)

/-- Number `k` of the registers of `n` entries from `h` on. -/
theorem entries_get (n h k : Nat) (hk : k < 3 * n) (d : Nat × EntryReg) :
    ((List.range' h n).flatMap fun e => [(e, EntryReg.mpla), (e, .mpua), (e, .mpat)]).getD k d =
      (h + k / 3, if k % 3 = 0 then .mpla else if k % 3 = 1 then .mpua else .mpat) := by
  induction n generalizing h k with
  | zero => omega
  | succ n ih =>
    rw [List.range'_succ, List.flatMap_cons]
    match k with
    | 0 => rfl
    | 1 => rfl
    | 2 => rfl
    | k + 3 =>
      have e : (k + 3) / 3 = k / 3 + 1 := by omega
      have m : (k + 3) % 3 = k % 3 := by omega
      have later := ih (h + 1) k (by omega)
      rw [e, m, show h + (k / 3 + 1) = h + 1 + k / 3 by omega, ← later]
      rfl

theorem entryRegs_length (eh et : BitVec 5) : (entryRegs eh et).length = 3 * (et.toNat + 1 - eh.toNat) := by
  rw [entryRegs_eq, List.length_flatMap]
  simp [mul_comm]

theorem entryRegs_getD {eh et : BitVec 5} {k : Nat} (hk : k < (entryRegs eh et).length) (d : Nat × EntryReg) :
    (entryRegs eh et).getD k d = (eh.toNat + k / 3, if k % 3 = 0 then .mpla else if k % 3 = 1 then .mpua else .mpat) := by
  rw [entryRegs_length] at hk
  rw [entryRegs_eq, entries_get _ _ _ hk]

theorem gsrRegs_eq : gsrRegs = guestBlock.map Prod.snd := rfl

/-- A register that LDM.GSR loads keeps memory. -/
theorem State.writeGsr_mem (t : State) {r : SReg} (h : r ∈ gsrRegs) (v : Word) : (t.writeSr r v).mem = t.mem := by
  have guest (x : CtxReg) : (t.writeSr (.gm x) v).mem = t.mem := by cases x <;> rfl
  have all : ∀ r ∈ gsrRegs, (t.writeSr r v).mem = t.mem := by
    simp only [gsrRegs, List.forall_mem_cons]
    and_intros
    all_goals
      first
      | exact guest _
      | rfl
      | exact fun _ h => absurd h List.not_mem_nil
  exact all r h

theorem State.writeEntry_mem (t : State) (e : Nat) (r : EntryReg) (v : Word) : (t.writeEntry e r v).mem = t.mem := by
  unfold State.writeEntry
  split <;> rfl

/-- One word of a bank keeps what the later ones depend on. -/
theorem putBankItem_keeps (t : State) {x : BankItem} (h : x ∈ s.bankItems) (v : Word) :
    t.During (putBankItem t x v) ∧ (putBankItem t x v).mem = t.mem := by
  cases x with
  | gpr r =>
    by_cases hr : r = sp
    · subst hr
      rw [putBankItem_sp]
      exact ⟨.refl t, rfl⟩
    · rw [putBankItem_gpr _ _ _ hr]
      exact ⟨State.during_setReg .., State.setReg_mem ..⟩
  | sr r =>
    have items : r = .fpsr ∨ r = .orig .eiic ∨ r = .orig .eipsw ∨ r = .orig .eipc := by
      simpa [State.bankItems] using h
    rw [putBankItem_sr]
    rcases items with rfl | rfl | rfl | rfl
    · exact ⟨⟨rfl, rfl, rfl, rfl, ⟨rfl, rfl, rfl⟩, fun _ => ⟨rfl, rfl, rfl⟩⟩, rfl⟩
    all_goals
      refine ⟨State.during_writeSaved _ (by simp) v, ?_⟩
      cases m : t.mode <;> simp only [State.writeSr, m] <;> rfl

theorem State.bankNumber_eq (s : State) : s.bankNumber = s.sys.rbnr.toNat % 64 := by
  simp [State.bankNumber]

theorem State.mpTransfer_run (hmh2 : s.isMh2 = true) (hum : s.um = false) (k : Out) : s.mpTransfer k = k := by
  simp [State.mpTransfer, State.supervisor, hmh2, hum]

theorem State.hypervisor_run (hve : s.hve = true) (hm : s.mode = .host) (hum : s.um = false) (k : Out) : s.hypervisor k = k := by
  simp [State.hypervisor, State.isHv, hve, hm, hum]

/-- R546: what RESBANK does after the loads: sp, RBNR and PSW.ID. -/
def resbankEnd (v : Word) (bn : Nat) (t : State) : State :=
  let t0 := t.setReg sp v
  let t1 := { t0 with sys := { t0.sys with rbnr := BitVec.ofNat 32 bn } }
  (t1.setPsw (putBit t1.psw 5 true)).advance 4

section
variable (hum : s.um = false)
include hum

/-- R542 to R545: the block transfers in a mode that may run them. -/
theorem ldmMp_run (hmh2 : s.isMh2 = true) (eh et : BitVec 5) (reg1 : Reg) : exec (.ldmMp eh et reg1) s =
    loadBlock 15 (fun t p v => t.writeEntry p.1 p.2 v) (entryRegs eh et) (s.reg reg1) s fun t => .next (t.advance 4) :=
  State.mpTransfer_run hmh2 hum _

@[inherit_doc ldmMp_run]
theorem stmMp_run (hmh2 : s.isMh2 = true) (eh et : BitVec 5) (reg1 : Reg) : exec (.stmMp eh et reg1) s =
    storeBlock 15 (fun t p => (t.mpu.entry p.1).get p.2) (entryRegs eh et) (s.reg reg1) s fun t => .next (t.advance 4) :=
  State.mpTransfer_run hmh2 hum _

@[inherit_doc ldmMp_run]
theorem ldmGsr_run (hve : s.hve = true) (hm : s.mode = .host) (reg1 : Reg) : exec (.ldmGsr reg1) s =
    loadBlock 14 State.writeSr gsrRegs (s.reg reg1) s fun t => .next (t.advance 4) :=
  State.hypervisor_run hve hm hum _

@[inherit_doc ldmMp_run]
theorem stmGsr_run (hve : s.hve = true) (hm : s.mode = .host) (reg1 : Reg) : exec (.stmGsr reg1) s =
    storeBlock 14 State.readSr gsrRegs (s.reg reg1) s fun t => .next (t.advance 4) :=
  State.hypervisor_run hve hm hum _

/-- R546: RESBANK with a bank in use. -/
theorem resbank_run (hbank : s.sys.rbnr.toNat % 64 ≠ 0) :
    exec .resbank s = loadBlock 22 putBankItem s.bankItems s.bankStart s fun t =>
      .next (resbankEnd s.bankSp (s.bankNumber - 1) t) := by
  have used : ¬ s.bankNumber = 0 := by rwa [State.bankNumber_eq]
  have mode : ¬ s.um = true := by simp [hum]
  exact (if_neg mode).trans (if_neg used)

end

theorem readSr_memOnly {t : State} (h : s.MemOnly t) {r : SReg} : t.readSr r = s.readSr r := by
  rw [h]
  cases r <;> rfl

end Sys2Proof.Machine

open Sys2Proof.Machine

/-- Settles O32: each of these instructions is a chain of words, and a chain stops at the first word that is stopped. -/
theorem deniedWordsStopTransfers : Obligations.DeniedWordsStopTransfers := by
  refine ⟨fun s list12 imm5 imm16 imm32 reg1 reg3 => ?_, fun s eh et reg1 hum => ?_⟩
  · refine ⟨pushRegs_stops (by decide) rfl, pushRegs_stops (by decide) rfl, pushRegs_stops (by decide) rfl,
      pushRegs_stops (by decide) rfl, pushRegs_stops (by decide) rfl, pushRegs_stops (by decide) rfl,
      dispose_stops (fin := fun t => .next (t.advance 4)) rfl,
      dispose_stops (fin := fun t => .next (t.jump (t.reg reg1))) rfl, ?_⟩
    have stops := popRegs_stops (i := .popsp reg1 reg3) (s := s) (itype := 13) (by decide) (mei := popspMei) (keep := (· == sp)) rfl
      (fun k => rfl) fun k => by simp
    rwa [List.length_reverse] at stops
  · have get (f : Nat → State → State) (g : Nat → State → State) (n : Nat) (h : ∀ k, k < n → f k = g k) :
        ∀ k, k ≤ n → after s g k = after s f k := after_congr fun k hk => by rw [h k hk]
    refine ⟨fun hmh2 => ⟨?_, ?_⟩, fun hve hm => ⟨?_, ?_⟩, fun hbank => ?_⟩
    · have stops := loadBlock_stops (0, .mpla) (by decide) (ldmMp_run hum hmh2 eh et reg1)
        fun t _ x _ v => ⟨State.during_writeEntry .., State.writeEntry_mem ..⟩
      rw [← entryRegs_length]
      exact stops.congr (fun _ => rfl) (get _ _ _ fun k hk => by rw [entryRegs_getD hk])
    · have stops := storeBlock_stops (0, .mpla) (by decide) (stmMp_run hum hmh2 eh et reg1)
        fun t x mem => by rw [mem]
      rw [← entryRegs_length]
      exact stops.congr (fun _ => rfl) (get _ _ _ fun k hk => by rw [entryRegs_getD hk])
    · have stops := loadBlock_stops .fpsr (by decide) (ldmGsr_run hum hve hm reg1)
        fun t during x hx v => ⟨State.during_writeGsr (during.mode.trans hm) hx v, State.writeGsr_mem t hx v⟩
      exact stops
    · have stops := storeBlock_stops .fpsr (by decide) (stmGsr_run hum hve hm reg1) fun t x mem => readSr_memOnly mem
      exact stops
    · have stops := loadBlock_stops (.gpr 0) (by decide) (resbank_run hum hbank) fun t _ x hx v => putBankItem_keeps t hx v
      refine stops.congr (fun _ => rfl) (get _ _ _ fun k _ => ?_)
      funext t
      split
      · next item => rw [item, putBankItem_sp]
      · rfl
end

section
/-!
PROOFS. The reports of every access, form by form, of transfers of several words, and of the entry hardware (20_memory.md R202, R204,
21_mpu.md R266).
-/

namespace Sys2Proof.Machine

/-! ## Changes that do not read the memory map -/

/-- `g` neither reads nor changes the memory map. -/
structure Local (g : State → State) : Prop where
  mapped : ∀ t m, g (State.mapped t m) = (g t).mapped m
  prod : ∀ t, (g t).prod = t.prod

theorem Local.id : Local id := ⟨fun _ _ => rfl, fun _ => rfl⟩

theorem Local.comp {g h : State → State} (hg : Local g) (hh : Local h) : Local fun t => g (h t) :=
  ⟨fun t m => by rw [hh.mapped, hg.mapped], fun t => (hg.prod _).trans (hh.prod t)⟩

theorem Local.setReg (r : Reg) {v : State → Word} (hv : ∀ t m, v (State.mapped t m) = v t) : Local fun t => t.setReg r (v t) :=
  ⟨fun t m => by rw [hv, State.setReg_mapped], fun t => by simp⟩

theorem Local.advance (n : Nat) : Local fun t => t.advance n := ⟨fun _ _ => rfl, fun _ => rfl⟩

theorem Local.writeWord (a : Word) {v : State → Word} (hv : ∀ t m, v (State.mapped t m) = v t) : Local fun t => t.writeWord a (v t) :=
  ⟨fun t m => by rw [hv, State.writeWord_mapped], fun _ => rfl⟩

theorem Local.writeEntry (e : Nat) (r : EntryReg) {v : State → Word} (hv : ∀ t m, v (State.mapped t m) = v t) :
    Local fun t => t.writeEntry e r (v t) := by
  refine ⟨fun t m => ?_, fun t => ?_⟩
  · rw [hv]
    exact (apply_ite (State.mapped · m) (t.mayWriteEntry e = true)
      { t with mpu := t.mpu.setEntry e ((t.mpu.entry e).put r (v t)) } t).symm
  · unfold State.writeEntry
    split <;> rfl

theorem Local.writeGuest (x : CtxReg) (v : Word) : Local fun t => t.writeGuestFromHost x v := by
  cases x <;> exact ⟨fun _ _ => rfl, fun _ => rfl⟩

theorem Local.writeGsr {r : SReg} (h : r ∈ gsrRegs) (v : Word) : Local fun t => t.writeSr r v := by
  have guest (x : CtxReg) : Local fun t => t.writeSr (.gm x) v := Local.writeGuest x v
  have all : ∀ r ∈ gsrRegs, Local fun t => t.writeSr r v := by
    simp only [gsrRegs, List.forall_mem_cons]
    and_intros
    all_goals
      first
      | exact guest _
      | exact ⟨fun _ _ => rfl, fun _ => rfl⟩
      | exact fun _ h => absurd h List.not_mem_nil
  exact all r h

theorem Local.putBankItem {s : State} {x : BankItem} (h : x ∈ s.bankItems) (v : Word) : Local fun t => putBankItem t x v := by
  cases x with
  | gpr r =>
    by_cases hr : r = sp
    · subst hr
      simp only [putBankItem_sp]
      exact .id
    · simp only [putBankItem_gpr _ _ _ hr]
      exact .setReg r fun _ _ => rfl
  | sr r =>
    have items : r = .fpsr ∨ r = .orig .eiic ∨ r = .orig .eipsw ∨ r = .orig .eipc := by
      simpa [State.bankItems] using h
    rcases items with rfl | rfl | rfl | rfl
    · exact ⟨fun _ _ => rfl, fun _ => rfl⟩
    all_goals
      refine ⟨fun t m => ?_, fun t => ?_⟩
      · have mode : (t.mapped m).mode = t.mode := rfl
        cases h : t.mode <;> simp only [putBankItem_sr, State.writeSr, mode, h] <;> rfl
      · cases h : t.mode <;> simp only [putBankItem_sr, State.writeSr, h] <;> rfl

/-- A word read is the same under every memory map. -/
theorem Local.read {g : State → Word → State} (a : Word) (h : ∀ v, Local fun t => g t v) : Local fun t => g t (t.readWord a) :=
  ⟨fun t m => (h _).mapped t m, fun t => (h _).prod t⟩

/-! ## Transfers of several words -/

section
variable {s t : State}

/-- With the MPU off, nothing that a transfer reaches is denied. -/
theorem State.During.unprotected (h : s.During t) (host : s.host.mpe = false) (guest : s.guest.mpe = false) (gmpe : s.guest.gmpe = false)
    (lo hi : Nat) (ks : List AccessKind) (user : Bool) : t.mpuViolation t.mode lo hi ks user = none := by
  have hostMpe : t.host.mpe = false := by rw [Ctx.mpe, h.host.2.2]; exact host
  rw [h.mode]
  cases m : s.mode with
  | host => simp [State.mpuViolation, State.layerDenies, hostMpe]
  | guest =>
    have mpm := (h.guest m).2.2
    have guestMpe : t.guest.mpe = false := by rw [Ctx.mpe, mpm]; exact guest
    have guestGmpe : t.guest.gmpe = false := by rw [Ctx.gmpe, mpm]; exact gmpe
    simp [State.mpuViolation, State.layerDenies, guestMpe, guestGmpe]

theorem State.Performs.chain {place : Nat → Word} {kind : AccessKind} {block : Bool} {mei : Nat → Word} {f : Nat → State → State}
    {g : State → State} {N : Nat} (hf : ∀ k, k < N → Local (f k)) (keeps : ∀ k, k < N → ∀ t, s.During t → t.During (f k t))
    (hg : Local g) (off : s.host.mpe = false ∧ s.guest.mpe = false ∧ s.guest.gmpe = false) (n j : Nat) (hn : j + n ≤ N)
    (ht : s.During t) :
    s.Performs (fun m => wordChain place kind block mei f (fun t => .next (g t)) n j (t.mapped m))
      ((List.range n).map fun k => (place (j + k), 4, [kind])) := by
  induction n generalizing j t with
  | zero => exact .nil ((hg.prod t).trans ht.prod) fun m => congrArg Host.Outcome.next (hg.mapped t m)
  | succ n ih =>
    have rest := ih (j + 1) (by omega) (ht.trans (keeps j (by omega) t ht))
    have shape : (List.range (n + 1)).map (fun k => (place (j + k), 4, [kind])) =
        (place j, 4, [kind]) :: (List.range n).map fun k => (place (j + 1 + k), 4, [kind]) := by
      rw [List.range_succ_eq_map, List.map_cons, List.map_map]
      congr 1
      exact List.map_congr_left fun k _ => by simp only [Function.comp, Nat.succ_eq_add_one, show j + (k + 1) = j + 1 + k by omega]
    rw [shape]
    refine .cons (x := ⟨place j, 4, [kind], false, block, mei j⟩) (user := t.um) ht.sameAccess (.inl rfl)
      (ht.unprotected off.1 off.2.1 off.2.2 ..) (fun m => ?_) rest
    show wordChain _ _ _ _ _ _ (n + 1) j _ = _
    rw [wordChain, (hf j (by omega)).mapped]
    rfl

/-- R202, R204: the accesses of a transfer of `n` words. -/
theorem makesAccesses_chain {i : Instr} {place : Nat → Word} {kind : AccessKind} {block : Bool} {mei : Nat → Word}
    {f : Nat → State → State} {g : State → State} {n : Nat}
    (off : s.host.mpe = false ∧ s.guest.mpe = false ∧ s.guest.gmpe = false)
    (h : ∀ m, exec i (s.mapped m) = wordChain place kind block mei f (fun t => .next (g t)) n 0 (s.mapped m))
    (hf : ∀ k, k < n → Local (f k)) (keeps : ∀ k, k < n → ∀ t, s.During t → t.During (f k t)) (hg : Local g) :
    MakesAccesses i s ((List.range n).map fun k => (place k, 4, [kind])) := by
  have chain := State.Performs.chain (place := place) (kind := kind) (block := block) (mei := mei) (t := s) hf keeps hg off n 0
    (by omega) (.refl s)
  simp only [Nat.zero_add] at chain
  refine State.Performs.makes ?_
  simpa only [h] using chain

end

section
variable {s : State} {i : Instr} {α : Type} {xs : List α} {a : Word} {itype : BitVec 5} {g : State → State}
  (off : s.host.mpe = false ∧ s.guest.mpe = false ∧ s.guest.gmpe = false)
include off

theorem loadBlock_makes (d : α) {put : State → α → Word → State}
    (h : ∀ m, exec i (s.mapped m) = loadBlock itype put xs a (s.mapped m) fun t => .next (g t))
    (hput : ∀ x ∈ xs, ∀ v, Local fun t => put t x v) (keeps : ∀ t, s.During t → ∀ x ∈ xs, ∀ v, t.During (put t x v)) (hg : Local g) :
    MakesAccesses i s ((List.range xs.length).map fun k => (blockAddress a k, 4, [.read])) := by
  have item (k : Nat) (hk : k < xs.length) : xs.getD k d ∈ xs := by
    rw [List.getD_eq_getElem _ _ hk]
    exact List.getElem_mem hk
  exact makesAccesses_chain off (fun m => (h m).trans (loadBlock_chain d ..)) (fun k hk => Local.read _ (hput _ (item k hk)))
    (fun k hk t ht => keeps t ht _ (item k hk) _) hg

theorem storeBlock_makes (d : α) {get : State → α → Word}
    (h : ∀ m, exec i (s.mapped m) = storeBlock itype get xs a (s.mapped m) fun t => .next (g t))
    (hget : ∀ t m x, get (State.mapped t m) x = get t x) (hg : Local g) :
    MakesAccesses i s ((List.range xs.length).map fun k => (blockAddress a k, 4, [.write])) :=
  makesAccesses_chain off (fun m => (h m).trans (storeBlock_chain d ..)) (fun _ _ => Local.writeWord _ fun t m => hget t m _)
    (fun _ _ _ _ => State.during_writeWord ..) hg

theorem pushRegs_makes {mei values : Reg → Word} {rs : List Reg} {g : Word → State → State}
    (h : ∀ m, exec i (s.mapped m) = pushRegs mei values rs (s.reg sp) (s.mapped m) fun tmp t => .next (g tmp t))
    (hg : ∀ tmp, Local (g tmp)) :
    MakesAccesses i s ((List.range rs.length).map fun k => (belowAddress (s.reg sp) k, 4, [.write])) :=
  makesAccesses_chain off (fun m => (h m).trans (pushRegs_chain ..)) (fun _ _ => Local.writeWord _ fun _ _ => rfl)
    (fun _ _ _ _ => State.during_writeWord ..) (hg _)

theorem popRegs_makes {mei : Reg → Word} {keep : Reg → Bool} {rs : List Reg} {g : Word → State → State}
    (h : ∀ m, exec i (s.mapped m) = popRegs mei keep rs.reverse a (s.mapped m) fun tmp t => .next (g tmp t))
    (hg : ∀ tmp, Local (g tmp)) :
    MakesAccesses i s ((List.range rs.length).map fun k => (blockAddress a k, 4, [.read])) := by
  rw [← List.length_reverse]
  refine makesAccesses_chain off (fun m => (h m).trans (popRegs_chain ..)) (fun k _ => ?_) (fun k _ t _ => ?_) (hg _)
  · cases c : keep (rs.reverse.getD k 0)
    · simp only [Bool.false_eq_true, if_false]
      exact Local.setReg _ fun _ _ => rfl
    · simp only [if_true]
      exact Local.id
  · split
    · exact .refl t
    · exact State.during_setReg ..

end

/-- R504: the end of PREPARE, from the address of the last word. -/
def prepareEnd (len : Nat) (room : Word) (newEp : Option (Word → Word)) (tmp : Word) (t : State) : State :=
  match newEp with
  | some f => ((t.setReg sp (tmp - room)).setReg ep (f (tmp - room))).advance len
  | none => (t.setReg sp (tmp - room)).advance len

theorem State.prepare_eq (s : State) (list12 : BitVec 12) (imm5 : BitVec 5) (len : Nat) (newEp : Option (Word → Word)) :
    s.prepare list12 imm5 len newEp = pushRegs (stackMei (BitVec.ofNat 4 len) 12 true) s.reg (list12Regs list12) (s.reg sp) s
      fun tmp t => .next (prepareEnd len (zextW (dispLow imm5 2)) newEp tmp t) := by
  cases newEp <;> rfl

theorem Local.prepareEnd (len : Nat) (room : Word) (newEp : Option (Word → Word)) (tmp : Word) :
    Local (prepareEnd len room newEp tmp) := by
  have setSp : Local fun t => t.setReg sp (tmp - room) := .setReg sp fun _ _ => rfl
  cases newEp with
  | none => exact (Local.advance len).comp setSp
  | some f => exact (Local.advance len).comp ((Local.setReg ep (v := fun _ => f (tmp - room)) fun _ _ => rfl).comp setSp)

theorem Local.resbankEnd (v : Word) (bn : Nat) : Local (resbankEnd v bn) := by
  have setSp : Local fun t => t.setReg sp v := .setReg sp (v := fun _ => v) fun _ _ => rfl
  have setRbnr : Local fun t => { t with sys := { t.sys with rbnr := BitVec.ofNat 32 bn } } := ⟨fun _ _ => rfl, fun _ => rfl⟩
  have setId : Local fun t => t.setPsw (putBit t.psw 5 true) := ⟨fun t m => State.setPsw_mapped t m _, fun t => by simp⟩
  exact (Local.advance 4).comp (setId.comp (setRbnr.comp setSp))

section
variable {s : State} {i : Instr} (off : s.host.mpe = false ∧ s.guest.mpe = false ∧ s.guest.gmpe = false)
include off

theorem prepare_makes {list12 : BitVec 12} {imm5 : BitVec 5} (len : Nat) (newEp : Option (Word → Word))
    (h : ∀ m, exec i (s.mapped m) = (s.mapped m).prepare list12 imm5 len newEp) :
    MakesAccesses i s ((List.range (list12Regs list12).length).map fun k => (belowAddress (s.reg sp) k, 4, [.write])) :=
  pushRegs_makes off (values := s.reg) (mei := stackMei (BitVec.ofNat 4 len) 12 true)
    (g := prepareEnd len (zextW (dispLow imm5 2)) newEp) (fun m => (h m).trans (State.prepare_eq ..)) (Local.prepareEnd len _ newEp)

/-- R505: the loads of DISPOSE; `g` is what follows them. -/
theorem dispose_makes {list12 : BitVec 12} {imm5 : BitVec 5} {g : State → State}
    (h : ∀ m, exec i (s.mapped m) = (s.mapped m).dispose imm5 list12 fun t => .next (g t)) (hg : Local g) :
    MakesAccesses i s ((List.range (list12Regs list12).length).map fun k =>
      (blockAddress (s.reg sp + (imm5.setWidth 32 <<< 2)) k, 4, [.read])) := by
  rw [← zextW_dispLow]
  exact popRegs_makes off h fun tmp => hg.comp (Local.setReg sp (v := fun _ => tmp) fun _ _ => rfl)

theorem resbank_makes (hum : s.um = false) (hbank : s.sys.rbnr.toNat % 64 ≠ 0) :
    MakesAccesses .resbank s ((List.range s.bankItems.length).map fun k => (blockAddress s.bankStart k, 4, [.read])) := by
  have run (m : List Region) : exec .resbank (s.mapped m) = loadBlock 22 putBankItem s.bankItems s.bankStart (s.mapped m) fun t =>
      .next (resbankEnd s.bankSp (s.bankNumber - 1) t) := resbank_run (s := s.mapped m) hum hbank
  exact loadBlock_makes off (.gpr 0) run (fun x hx v => .putBankItem hx v) (fun t _ x hx v => (putBankItem_keeps t hx v).1)
    (.resbankEnd ..)

theorem ldmMp_makes (hum : s.um = false) (hmh2 : s.isMh2 = true) (eh et : BitVec 5) (reg1 : Reg) :
    MakesAccesses (.ldmMp eh et reg1) s
      ((List.range (entryRegs eh et).length).map fun k => (blockAddress (s.reg reg1) k, 4, [.read])) := by
  have run (m : List Region) : exec (.ldmMp eh et reg1) (s.mapped m) = loadBlock 15 (fun t p v => t.writeEntry p.1 p.2 v)
      (entryRegs eh et) (s.reg reg1) (s.mapped m) fun t => .next (t.advance 4) := ldmMp_run (s := s.mapped m) hum hmh2 eh et reg1
  exact loadBlock_makes off (0, EntryReg.mpla) run (fun x _ v => Local.writeEntry _ _ (v := fun _ => v) fun _ _ => rfl)
    (fun t _ x _ v => State.during_writeEntry ..) (.advance 4)

theorem stmMp_makes (hum : s.um = false) (hmh2 : s.isMh2 = true) (eh et : BitVec 5) (reg1 : Reg) :
    MakesAccesses (.stmMp eh et reg1) s
      ((List.range (entryRegs eh et).length).map fun k => (blockAddress (s.reg reg1) k, 4, [.write])) := by
  have run (m : List Region) : exec (.stmMp eh et reg1) (s.mapped m) = storeBlock 15 (fun t p => (t.mpu.entry p.1).get p.2)
      (entryRegs eh et) (s.reg reg1) (s.mapped m) fun t => .next (t.advance 4) := stmMp_run (s := s.mapped m) hum hmh2 eh et reg1
  exact storeBlock_makes off (0, EntryReg.mpla) run (fun _ _ _ => rfl) (.advance 4)

theorem ldmGsr_makes (hum : s.um = false) (hve : s.hve = true) (hm : s.mode = .host) (reg1 : Reg) :
    MakesAccesses (.ldmGsr reg1) s ((List.range gsrRegs.length).map fun k => (blockAddress (s.reg reg1) k, 4, [.read])) := by
  have run (m : List Region) : exec (.ldmGsr reg1) (s.mapped m) = loadBlock 14 State.writeSr gsrRegs (s.reg reg1) (s.mapped m)
      fun t => .next (t.advance 4) := ldmGsr_run (s := s.mapped m) hum hve hm reg1
  exact loadBlock_makes off SReg.fpsr run (fun x hx v => .writeGsr hx v)
    (fun t during x hx v => State.during_writeGsr (during.mode.trans hm) hx v) (.advance 4)

theorem stmGsr_makes (hum : s.um = false) (hve : s.hve = true) (hm : s.mode = .host) (reg1 : Reg) :
    MakesAccesses (.stmGsr reg1) s ((List.range gsrRegs.length).map fun k => (blockAddress (s.reg reg1) k, 4, [.write])) := by
  have run (m : List Region) : exec (.stmGsr reg1) (s.mapped m) = storeBlock 14 State.readSr gsrRegs (s.reg reg1) (s.mapped m)
      fun t => .next (t.advance 4) := stmGsr_run (s := s.mapped m) hum hve hm reg1
  have reads (t : State) (m : List Region) (r : SReg) : (t.mapped m).readSr r = t.readSr r := by cases r <;> rfl
  exact storeBlock_makes off SReg.fpsr run reads (.advance 4)

end

/-! ## One access -/

/-- R262, R205: the access is aligned, and the MPU permits it. -/
def State.Permitted (s : State) (a : Word) (n : Nat) (ks : List AccessKind) (user : Bool) : Prop :=
  misaligned a n = false ∧ s.mpuViolation s.mode a.toNat (a.toNat + n - 1) ks user = none

section
variable {s : State} {i : Instr} {a : Word}

theorem load_makes (z : Size) (update : Option (Reg × Word)) (l : Nat) {len : BitVec 4} {itype : BitVec 5} {r : Reg} {u : Bool}
    (h : ∀ m, exec i (s.mapped m) = (s.mapped m).loadTo (loadAccess a z len r u itype) z u r update l)
    (permitted : s.Permitted a z.bytes [.read] s.um) : MakesAccess i s (a, z.bytes, [.read]) :=
  (MakesOne.loadTo h).accesses ⟨rfl, rfl, rfl, rfl, rfl, rfl⟩ permitted

theorem store_makes (z : Size) (update : Option (Reg × Word)) (l : Nat) {len : BitVec 4} {itype : BitVec 5} {r : Reg}
    (h : ∀ m, exec i (s.mapped m) = (s.mapped m).storeFrom (storeAccess a z len r itype) z r update l)
    (permitted : s.Permitted a z.bytes [.write] s.um) : MakesAccess i s (a, z.bytes, [.write]) :=
  (MakesOne.storeFrom h).accesses ⟨rfl, rfl, rfl, rfl, rfl, rfl⟩ permitted

theorem modifyBit_makes (bit : Nat) (f : Bool → Bool) (h : ∀ m, exec i (s.mapped m) = (s.mapped m).modifyBit a bit f)
    (permitted : s.Permitted a 1 [.read, .write] s.um) : MakesAccess i s (a, 1, [.read, .write]) :=
  (MakesOne.modifyBit h).accesses (bitAccess_single true) permitted

theorem testBit_makes (bit : Nat) (h : ∀ m, exec i (s.mapped m) = (s.mapped m).testBit a bit)
    (permitted : s.Permitted a 1 [.read] s.um) : MakesAccess i s (a, 1, [.read]) :=
  (MakesOne.testBit h).accesses (bitAccess_single false) permitted

theorem loadLinked_makes (z : Size) {reg1 r : Reg} (h : ∀ m, exec i (s.mapped m) = (s.mapped m).loadLinked z reg1 r)
    (permitted : s.Permitted (s.reg reg1) z.bytes [.read] s.um) : MakesAccess i s (s.reg reg1, z.bytes, [.read]) :=
  (MakesOne.loadLinked h).accesses ⟨rfl, rfl, rfl, rfl, rfl, rfl⟩ permitted

theorem conditional_makes (z : Size) {reg1 r : Reg} (h : ∀ m, exec i (s.mapped m) = (s.mapped m).storeConditional z reg1 r)
    (permitted : s.Permitted (s.reg reg1) z.bytes [.write] s.um) :
    MakesAccess i s (s.reg reg1, z.bytes, if s.link = ⟨true, s.reg reg1, z.bytes⟩ then [.write] else []) :=
  (storeConditional_makes h).2 permitted.1 permitted.2

end
end Sys2Proof.Machine
end

section
/-!
PROOFS. The entry of an EIINT or GMEIINT by the table reference method, with its accesses (60_exceptions.md R807, R821,
61_virtualization.md R904, R905).
-/

namespace Sys2Proof.Machine

/-! ## What has happened when the entry makes its accesses -/

/-- R821: the state in which the accesses of the entry are made. -/
def State.entered (s : State) (hm : Mode) : State := s.saveContext .ei s.pc hm false

section
variable (s : State) (hm : Mode)

theorem State.entered_prod : (s.entered hm).prod = s.prod := by cases hm <;> rfl
theorem State.entered_mem : (s.entered hm).mem = s.mem := by cases hm <;> rfl
theorem State.entered_mpu : (s.entered hm).mpu = s.mpu := by cases hm <;> rfl
theorem State.entered_out : (s.entered hm).out = s.out := by cases hm <;> rfl

theorem State.entered_sys : (s.entered hm).sys = if hm = .host ∧ s.hve = true then s.sys.enterHost .ei else s.sys := by
  cases hm with
  | guest => rfl
  | host => simp [State.entered, State.saveContext, State.setCtx, SysRegs.leaveGuest, SysRegs.enterHost, putBit_gm]

theorem State.entered_ctx : (s.entered hm).ctx hm = (s.ctx hm).save .ei s.pc false := by cases hm <;> rfl

/-- What neither PSWH nor EIPSWH is. -/
theorem State.entered_keeps : (s.entered hm).sys.hvcfg = s.sys.hvcfg ∧ (s.entered hm).sys.rbcr0 = s.sys.rbcr0 ∧
    (s.entered hm).sys.rbcr1 = s.sys.rbcr1 ∧ (s.entered hm).sys.rbnr = s.sys.rbnr ∧ (s.entered hm).sys.rbip = s.sys.rbip ∧
    (s.entered hm).sys.gmcfg = s.sys.gmcfg := by
  rw [State.entered_sys]
  split <;> exact ⟨rfl, rfl, rfl, rfl, rfl, rfl⟩

theorem State.entered_hve : (s.entered hm).hve = s.hve := by
  rw [State.hve, (s.entered_keeps hm).1, State.hve]

theorem State.entered_violation (lo hi : Nat) (ks : List AccessKind) (user : Bool) :
    (s.entered hm).mpuViolation hm lo hi ks user = s.mpuViolation hm lo hi ks user := by
  have denies (l : Layer) (k : AccessKind) : (s.entered hm).layerDenies hm l lo hi k user = s.layerDenies hm l lo hi k user := by
    have hve := s.entered_hve hm
    have mpu := s.entered_mpu hm
    have prod := s.entered_prod hm
    cases hm <;> cases l <;> simp only [State.layerDenies, hve, mpu, prod] <;> rfl
  simp only [State.mpuViolation, denies]

/-- R807: the base register of the vectors; the entry keeps EBV. -/
theorem State.entered_vectorReg : (s.entered hm).vectorReg hm = s.VectorReg hm := by
  have ebv : (entryPsw s.host.psw .ei false).getLsbD 15 = s.host.psw.getLsbD 15 := entryPsw_handler _ .ei false 15 (by decide)
  have prod := s.entered_prod hm
  cases hm with
  | guest => rfl
  | host =>
    show (if (entryPsw s.host.psw .ei false).getLsbD 15 then s.host.ebase else (s.entered .host).prod.rbase) = _
    rw [ebv, prod]
    rfl

/-- R807: the handler of the direct vector method. -/
theorem State.entered_direct (q : EiRequest) :
    (s.entered hm).handlerAddress hm (eiOffset ((s.VectorReg hm).getLsbD 0) q.prio.toNat) = s.DirectVector hm q := by
  have reg := s.entered_vectorReg hm
  have base : (s.entered hm).vectorBase hm = s.HandlerBase hm := by
    have e : (s.entered hm).vectorBase hm = (s.entered hm).vectorReg hm &&& 0xFFFFFE00 := by cases hm <;> rfl
    rw [e, reg]
    cases hm <;> rfl
  rw [State.handlerAddress, base]
  rfl

/-- R904: an interrupt of the table reference method uses a register bank. -/
def State.Banked (q : EiRequest) : Bool := s.sys.rbcr0.getLsbD (min q.prio.toNat 15) && (hm == .guest || !s.hve)

theorem State.entered_bankRequested {q : EiRequest} (table : q.table = true) :
    (s.entered hm).bankRequested hm q = s.Banked hm q := by
  rw [State.bankRequested, (s.entered_keeps hm).2.1, s.entered_hve hm, table]
  rfl

/-- R905: no bank is left. -/
def State.BanksFull : Prop := (s.ctx hm).intcfg.toNat / 2 ^ 16 % 64 < s.sys.rbnr.toNat % 64 ∨ s.sys.rbnr.toNat % 64 = 63

theorem State.entered_full : ((((s.entered hm).ctx hm).intcfg.extractLsb' 16 6).toNat < (s.entered hm).bankNumber ||
    (s.entered hm).bankNumber == 63) = true ↔ s.BanksFull hm := by
  have number : (s.entered hm).bankNumber = s.sys.rbnr.toNat % 64 := by
    rw [State.bankNumber_eq, (s.entered_keeps hm).2.2.2.1]
  rw [number, State.entered_ctx]
  simp [State.BanksFull, Ctx.save, Nat.shiftRight_eq_div_pow]

/-! ## The entry, access by access -/

/-- R905: the words of a bank, from its top downward. -/
def State.bankWords (q : EiRequest) : List Word :=
  [s.pc, (s.ctx hm).psw, s.prod.causeEiint + q.channel.setWidth 32, s.sys.fpsr] ++ (s.entered hm).bankRegs.map s.reg

/-- R904, R905: the state after the bank is stored, from the one with its words in memory. -/
def State.bankTaken (q : EiRequest) (u : State) : State :=
  let u1 := { u with sys := { u.sys with rbnr := BitVec.ofNat 32 ((s.entered hm).bankNumber + 1) } }
  u1.setCtx hm { u1.ctx hm with psw := putBit (u1.ctx hm).psw 5 (u1.sys.rbcr1.getLsbD (bankIndex q.prio.toNat)) }

/-- R821, R823: the end of the entry. -/
def State.entryEnd (k : IntKind) (q : EiRequest) (handler : Word) (u : State) : State :=
  let v := (u.setCtx hm ((u.ctx hm).setCause .ei (s.prod.causeEiint + q.channel.setWidth 32))).recordPriority hm q.prio
  { v with
    pc := evenPc handler
    link := { v.link with bit := false }
    env := { v.env with ei := none }
    out := v.out ++ [.accepted k, .acknowledge k] }

/-- R905: the address of the first word of the bank. -/
theorem State.bankPlace_eq (j : Nat) :
    (s.entered hm).sys.rbip - BitVec.ofNat 32 (s.entered hm).bankNumber * (s.entered hm).bankSize - 4 - BitVec.ofNat 32 (4 * j) =
      s.BankPlace j := by
  have keeps := s.entered_keeps hm
  rw [← bankWord_succ, State.bankNumber_eq, State.bankSize, State.bankMode1, keeps.2.2.2.1, keeps.2.2.2.2.1, keeps.2.1,
    State.BankPlace]
  congr 2
  split <;> exact (BitVec.ofNat_mul ..).symm

theorem State.bankWords_length (q : EiRequest) : (s.bankWords hm q).length = if s.sys.rbcr0.getLsbD 16 then 35 else 24 := by
  have keeps := s.entered_keeps hm
  simp only [State.bankWords, State.bankRegs, State.bankMode1, keeps.2.1]
  split <;> rfl

/-- R807: the table word. -/
def State.tableSlot (q : EiRequest) : Word := (s.ctx hm).intbp + BitVec.ofNat 32 (4 * q.channel.toNat)

/-- R807: where the handler is found, in the base register or in the table. -/
def State.tableHandler (q : EiRequest) : Word :=
  if (s.VectorReg hm).getLsbD 1 then s.DirectVector hm q else s.readWord (s.tableSlot hm q)

theorem State.withHandler_direct {q : EiRequest} (h : (s.VectorReg hm).getLsbD 1 = true) (k : Word → Out) :
    s.withHandler (s.entered hm) hm q k = k (s.tableHandler hm q) := by
  simp only [State.withHandler, State.entered_vectorReg, h, Bool.not_true, Bool.and_false, Bool.false_eq_true, if_false,
    State.entered_direct, State.tableHandler, if_true]

theorem State.withHandler_table {q : EiRequest} (table : q.table = true) (h : (s.VectorReg hm).getLsbD 1 = false) (k : Word → Out) :
    s.withHandler (s.entered hm) hm q k =
      s.entryAccess (s.entered hm) hm (tableAccess (s.tableSlot hm q)) (k (s.tableHandler hm q)) := by
  have slot : ((s.entered hm).ctx hm).intbp + BitVec.ofNat 32 (q.channel.toNat * 4) = s.tableSlot hm q := by
    rw [State.entered_ctx, mul_comm]
    rfl
  have word : (s.entered hm).readWord (s.tableSlot hm q) = s.tableHandler hm q := by
    rw [State.readWord_congr (s.entered_mem hm), State.tableHandler, h]
    rfl
  simp only [State.withHandler, State.entered_vectorReg, h, table, Bool.not_false, Bool.and_true, if_true, slot, word]

theorem State.withBank_none {q : EiRequest} (table : q.table = true) (h : s.Banked hm q = false) (cause : Word) (k : State → Out) :
    s.withBank (s.entered hm) hm q cause k = k (s.entered hm) := by
  simp only [State.withBank, s.entered_bankRequested hm table, h, Bool.not_false, if_true]

theorem State.withBank_stores {q : EiRequest} (table : q.table = true) (h : s.Banked hm q = true) (full : ¬ s.BanksFull hm)
    (k : State → Out) :
    s.withBank (s.entered hm) hm q (s.prod.causeEiint + q.channel.setWidth 32) k =
      s.storeBank hm (s.bankWords hm q)
        ((s.entered hm).sys.rbip - BitVec.ofNat 32 (s.entered hm).bankNumber * (s.entered hm).bankSize - 4) (s.entered hm)
        fun u => k (s.bankTaken hm q u) := by
  have used := fun e => full ((s.entered_full hm).mp e)
  simp only [State.withBank, s.entered_bankRequested hm table, h, Bool.not_true, Bool.false_eq_true, if_false, if_neg used]
  rfl

/-- The acceptance of an EIINT or GMEIINT. -/
theorem State.accept_ei {k : IntKind} (q : EiRequest) (kind : k = if hm = .guest then .gmeiint else .eiint) :
    s.accept (.ei k q) = s.withHandler (s.entered hm) hm q fun handler =>
      s.withBank (s.entered hm) hm q (s.prod.causeEiint + q.channel.setWidth 32) fun u => .next (s.entryEnd hm k q handler u) := by
  subst kind
  cases hm <;> rfl

end

/-! ## Its reports -/

section
variable {s : State} {hm : Mode}

/-- R202: an access of the entry is reported as one of the mode that handles the interrupt. -/
theorem State.Reports.of_entered {u u' : State} {x : AccessShape} {es : List Event} (h : (s.entered hm).Reports u hm x es)
    (mem : u'.mem = u.mem) : s.Reports u' hm x es := by
  have reaches (kind : RegionKind) : (s.entered hm).Reaches kind x ↔ s.Reaches kind x := by
    rw [State.Reaches, State.entered_prod]
    rfl
  have tags {tag : AccessTag} (t : (s.entered hm).Tags hm tag) : s.Tags hm tag := by
    refine ⟨by simpa [State.entered_ctx, Ctx.save] using t.1, ?_⟩
    cases hm with
    | guest => exact t.2
    | host => simpa using t.2
  refine ⟨fun k => ?_, fun k => h.2 (mt (reaches _).mp k)⟩
  obtain ⟨tag, ht, e⟩ := h.1 ((reaches _).mpr k)
  refine ⟨tag, tags ht, e.trans (List.map_congr_left fun kind _ => ?_)⟩
  cases kind <;> simp [State.readByte, mem]

theorem State.recordPriority_out (u : State) (m : Mode) (p : BitVec 6) : (u.recordPriority m p).out = u.out := by
  cases m with
  | guest => rfl
  | host =>
    unfold State.recordPriority
    split
    · rfl
    · dsimp only
      split_ifs <;> rfl

theorem State.entryEnd_out (k : IntKind) (q : EiRequest) (handler : Word) (u : State) :
    (s.entryEnd hm k q handler u).out = u.out ++ [.accepted k, .acknowledge k] := by
  simp only [State.entryEnd, State.recordPriority_out, State.setCtx_out]

theorem State.bankStored_out (t : State) (ws : List Word) (a : Word) : (t.bankStored ws a).out = t.out := by
  induction ws generalizing t a with
  | nil => rfl
  | cons w ws ih => exact ih ..

/-- R905: the words of the bank are reported ahead of what follows. -/
theorem State.bank_reports {k : IntKind} {q : EiRequest} (table : q.table = true) (mode : hm = .guest → s.mode = .guest)
    (full : s.Banked hm q = true → ¬ s.BanksFull hm) (g : State → State)
    (out : ∀ u, (g u).out = u.out ++ [.accepted k, .acknowledge k]) :
    let xs : List AccessShape :=
      if s.Banked hm q then (List.range (if s.sys.rbcr0.getLsbD 16 then 35 else 24)).map fun j => (s.BankPlace j, 4, [.write]) else []
    (∀ x ∈ xs, s.mpuViolation hm x.1.toNat (x.1.toNat + 3) x.2.2 false = none ∧ ¬ s.Reaches .reserved x) →
      ∃ (u : State) (es : List (List Event)), u.out = s.out ++ [.accepted k, .acknowledge k] ∧ List.Forall₂ (s.Reports u hm) xs es ∧
        s.withBank (s.entered hm) hm q (s.prod.causeEiint + q.channel.setWidth 32) (fun w => .next (g w)) =
          .next { u with out := es.flatten ++ u.out } := by
  intro xs free
  cases banked : s.Banked hm q with
  | false =>
    refine ⟨g (s.entered hm), [], by rw [out, State.entered_out], ?_, ?_⟩
    · simp only [xs, banked]
      exact .nil
    · exact s.withBank_none hm table banked _ _
  | true =>
    let top := (s.entered hm).sys.rbip - BitVec.ofNat 32 (s.entered hm).bankNumber * (s.entered hm).bankSize - 4
    let u := g (s.bankTaken hm q ((s.entered hm).bankStored (s.bankWords hm q) top))
    have uout : u.out = s.out ++ [.accepted k, .acknowledge k] := by
      have taken (w : State) : (s.bankTaken hm q w).out = w.out := State.setCtx_out ..
      rw [out, taken, State.bankStored_out, State.entered_out]
    have words : ∀ j, j < (s.bankWords hm q).length → let a := top - BitVec.ofNat 32 (4 * j)
        (s.entered hm).mpuViolation hm a.toNat (a.toNat + 3) [.write] false = none ∧
          ¬ (s.entered hm).Reaches .reserved (a, 4, [.write]) := by
      intro j hj a
      have member : (s.BankPlace j, 4, [AccessKind.write]) ∈ xs := by
        rw [State.bankWords_length] at hj
        simp only [xs, banked, if_true]
        exact List.mem_map.mpr ⟨j, List.mem_range.mpr hj, rfl⟩
      have place : a = s.BankPlace j := s.bankPlace_eq hm j
      rw [place, State.entered_violation, State.Reaches, State.entered_prod]
      exact free _ member
    have entered : (s.entered hm).mode = hm := (State.saveContext_tags s .ei s.pc hm false mode).1
    obtain ⟨es, reports, run⟩ := State.storeBank_reports (s := s) (t := s.entered hm) (hm := hm) (s.bankWords hm q) top
      (fun w => .next (g (s.bankTaken hm q w))) (u := u) entered words rfl
    refine ⟨u, es, uout, ?_, (s.withBank_stores hm table banked (full banked) _).trans run⟩
    have places : (List.range (s.bankWords hm q).length).map (fun j => (top - BitVec.ofNat 32 (4 * j), 4, [AccessKind.write])) = xs := by
      simp only [xs, banked, if_true, State.bankWords_length]
      exact List.map_congr_left fun j _ => by rw [← s.bankPlace_eq hm j]
    rw [places] at reports
    exact reports.imp fun _ _ r => r.of_entered rfl

/-- R202, R204: the accesses of an accepted EIINT or GMEIINT, none of them stopped, are reported in order. -/
theorem State.accept_reports {k : IntKind} {q : EiRequest} (table : q.table = true) (mode : hm = .guest → s.mode = .guest)
    (kind : k = if hm = .guest then .gmeiint else .eiint) (full : s.Banked hm q = true → ¬ s.BanksFull hm) :
    let xs : List AccessShape := (if (s.VectorReg hm).getLsbD 1 then [] else [(s.tableSlot hm q, 4, [.read])]) ++
      if s.Banked hm q then (List.range (if s.sys.rbcr0.getLsbD 16 then 35 else 24)).map fun j => (s.BankPlace j, 4, [.write]) else []
    (∀ x ∈ xs, s.mpuViolation hm x.1.toNat (x.1.toNat + 3) x.2.2 false = none ∧ ¬ s.Reaches .reserved x) →
      ∃ (t : State) (es : List (List Event)), s.accept (.ei k q) = .next t ∧ List.Forall₂ (s.Reports t hm) xs es ∧
        t.out = es.flatten ++ s.out ++ [.accepted k, .acknowledge k] := by
  intro xs free
  have bank := State.bank_reports (k := k) table mode full (s.entryEnd hm k q (s.tableHandler hm q)) (State.entryEnd_out _ _ _)
    fun x hx => free x (List.mem_append_right _ hx)
  obtain ⟨u, es, out, reports, run⟩ := bank
  rw [State.accept_ei _ _ _ kind]
  cases direct : (s.VectorReg hm).getLsbD 1 with
  | true =>
    rw [State.withHandler_direct _ _ direct, run]
    refine ⟨_, es, rfl, ?_, by simp only [out, List.append_assoc]⟩
    simp only [xs, direct, if_true, List.nil_append]
    exact reports.imp fun _ _ r => r.congr rfl rfl rfl rfl
  | false =>
    rw [State.withHandler_table _ _ table direct, run]
    have slot : (s.tableSlot hm q, 4, [AccessKind.read]) ∈ xs := by
      simp only [xs, direct]
      exact List.mem_append_left _ List.mem_cons_self
    have allowed := (free _ slot).1
    have clear := (free _ slot).2
    rw [← s.entered_violation hm] at allowed
    rw [State.Reaches, ← s.entered_prod hm] at clear
    have entered : (s.entered hm).mode = hm := (State.saveContext_tags s .ei s.pc hm false mode).1
    obtain ⟨ev, rep, next⟩ := State.entryAccess_reports (s := s) (t := s.entered hm) (hm := hm) (x := tableAccess (s.tableSlot hm q))
      (u := { u with out := es.flatten ++ u.out }) allowed clear
    rw [entered] at rep
    refine ⟨_, ev :: es, next, ?_, by simp only [out, List.flatten_cons, List.append_assoc]⟩
    simp only [xs, direct]
    exact List.Forall₂.cons (rep.of_entered rfl) (reports.imp fun _ _ r => r.congr rfl rfl rfl rfl)

end
end Sys2Proof.Machine

open Sys2Proof.Machine

/-- Settles O16: each instruction checks its accesses one after another, and what it does with them does not read the memory map. -/
theorem deviceAccessesAreReported : Obligations.DeviceAccessesAreReported := by
  refine ⟨?_, fun s list12 imm5 imm16 imm32 reg1 reg3 eh et host guest gmpe => ?_, ?_⟩
  · intro s reg1 reg2 r v d16 d15 d23 d22 d7 d6 d4 bit3 imm4 imm2 imm1 v14 v13 v12 imm6 vector8 permitted accesses loads stores
      changes conditional vector b b16 b15 b23 b22 e x14 x13 x12 entry
    refine ⟨load_makes .byte none 4 fun _ => rfl,
    load_makes .byte none 4 fun _ => rfl,
    load_makes .half none 4 fun _ => rfl,
    load_makes .half none 4 fun _ => rfl,
    load_makes .word none 4 fun _ => rfl,
    store_makes .byte none 4 fun _ => rfl,
    store_makes .half none 4 fun _ => rfl,
    store_makes .word none 4 fun _ => rfl,
    load_makes .byte none 6 fun _ => rfl,
    load_makes .byte none 6 fun _ => rfl,
    load_makes .half none 6 fun _ => rfl,
    load_makes .half none 6 fun _ => rfl,
    load_makes .word none 6 fun _ => rfl,
    (MakesOne.ldDw d22 reg1 r).accesses (dwordAccess_single r false),
    store_makes .byte none 6 fun _ => rfl,
    store_makes .half none 6 fun _ => rfl,
    store_makes .word none 6 fun _ => rfl,
    (MakesOne.stDw d22 reg1 r).accesses (dwordAccess_single r true),
    load_makes .byte (some (reg1, b + 1)) 4 fun _ => rfl,
    load_makes .byte (some (reg1, b - 1)) 4 fun _ => rfl,
    load_makes .byte (some (reg1, b + 1)) 4 fun _ => rfl,
    load_makes .byte (some (reg1, b - 1)) 4 fun _ => rfl,
    load_makes .half (some (reg1, b + 2)) 4 fun _ => rfl,
    load_makes .half (some (reg1, b - 2)) 4 fun _ => rfl,
    load_makes .half (some (reg1, b + 2)) 4 fun _ => rfl,
    load_makes .half (some (reg1, b - 2)) 4 fun _ => rfl,
    load_makes .word (some (reg1, b + 4)) 4 fun _ => rfl,
    load_makes .word (some (reg1, b - 4)) 4 fun _ => rfl,
    store_makes .byte (some (reg1, b + 1)) 4 fun _ => rfl,
    store_makes .byte (some (reg1, b - 1)) 4 fun _ => rfl,
    store_makes .half (some (reg1, b + 2)) 4 fun _ => rfl,
    store_makes .half (some (reg1, b - 2)) 4 fun _ => rfl,
    store_makes .word (some (reg1, b + 4)) 4 fun _ => rfl,
    store_makes .word (some (reg1, b - 4)) 4 fun _ => rfl,
    load_makes .byte none 2 fun _ => rfl,
    load_makes .byte none 2 fun _ => rfl,
    load_makes .half none 2 fun _ => rfl,
    load_makes .half none 2 fun _ => rfl,
    load_makes .word none 2 fun _ => rfl,
    store_makes .byte none 2 fun _ => rfl,
    store_makes .half none 2 fun _ => rfl,
    store_makes .word none 2 fun _ => rfl,
    modifyBit_makes bit3.toNat (fun _ => true) fun _ => rfl,
    modifyBit_makes (bitNumber (s.reg reg2)) (fun _ => true) fun _ => rfl,
    modifyBit_makes bit3.toNat (fun _ => false) fun _ => rfl,
    modifyBit_makes (bitNumber (s.reg reg2)) (fun _ => false) fun _ => rfl,
    modifyBit_makes bit3.toNat not fun _ => rfl,
    modifyBit_makes (bitNumber (s.reg reg2)) not fun _ => rfl,
    testBit_makes bit3.toNat fun _ => rfl,
    testBit_makes (bitNumber (s.reg reg2)) fun _ => rfl,
    (MakesOne.caxi reg1 reg2 r).accesses caxiAccess_single,
    loadLinked_makes .byte fun _ => rfl,
    loadLinked_makes .half fun _ => rfl,
    loadLinked_makes .word fun _ => rfl,
    conditional_makes .byte fun _ => rfl,
    conditional_makes .half fun _ => rfl,
    conditional_makes .word fun _ => rfl,
    fun fxu permitted => (MakesOne.ldvW fxu imm4 v14 reg1 v).accesses ⟨rfl, rfl, rfl, rfl, rfl, rfl⟩ permitted,
    fun fxu permitted => (MakesOne.ldvDw fxu imm2 v13 reg1 v).accesses ⟨rfl, rfl, rfl, rfl, rfl, rfl⟩ permitted,
    fun fxu permitted => (MakesOne.ldvQw fxu v12 reg1 v).accesses ⟨rfl, rfl, rfl, rfl, rfl, rfl⟩ permitted,
    fun fxu permitted => (MakesOne.ldvzH4 fxu v13 reg1 v).accesses ⟨rfl, rfl, rfl, rfl, rfl, rfl⟩ permitted,
    fun fxu permitted => (MakesOne.stvW fxu imm2 v14 reg1 v).accesses ⟨rfl, rfl, rfl, rfl, rfl, rfl⟩ permitted,
    fun fxu permitted => (MakesOne.stvDw fxu imm1 v13 reg1 v).accesses ⟨rfl, rfl, rfl, rfl, rfl, rfl⟩ permitted,
    fun fxu permitted => (MakesOne.stvQw fxu v12 reg1 v).accesses ⟨rfl, rfl, rfl, rfl, rfl, rfl⟩ permitted,
    fun fxu permitted => (MakesOne.stvzH4 fxu v13 reg1 v).accesses ⟨rfl, rfl, rfl, rfl, rfl, rfl⟩ permitted,
    fun permitted => (MakesOne.callt imm6).makesAccess (.inl rfl) permitted.2,
    fun permitted => (MakesOne.switch reg1).makesAccess (.inl rfl) permitted.2, fun permitted => ?_⟩
    have makes := (MakesOne.syscall (s := s) vector8).makesAccess (.inl rfl)
    rw [syscallEntry_eq] at makes
    exact makes permitted.2
  · have off : s.host.mpe = false ∧ s.guest.mpe = false ∧ s.guest.gmpe = false := ⟨host, guest, gmpe⟩
    intro words down pushes reads writes listed ranged base a entries
    refine ⟨prepare_makes off 4 none fun _ => rfl, prepare_makes off 4 (some id) fun _ => rfl,
      prepare_makes off 6 (some fun _ => sextW imm16) fun _ => rfl, prepare_makes off 6 (some fun _ => dispLow imm16 16) fun _ => rfl,
      prepare_makes off 8 (some fun _ => imm32) fun _ => rfl,
      pushRegs_makes off (i := .pushsp reg1 reg3) (values := s.reg) (mei := stackMei 4 13 true)
        (g := fun tmp t => (t.setReg sp tmp).advance 4) (fun _ => rfl) fun tmp =>
        (Local.advance 4).comp (Local.setReg sp (v := fun _ => tmp) fun _ _ => rfl),
      dispose_makes off (g := fun t => t.advance 4) (fun _ => rfl) (.advance 4),
      dispose_makes off (g := fun t => t.jump (t.reg reg1)) (fun _ => rfl) ⟨fun _ _ => rfl, fun _ => rfl⟩,
      popRegs_makes off (i := .popsp reg1 reg3) (g := fun tmp t => (t.setReg sp tmp).advance 4) (fun _ => rfl) fun tmp =>
        (Local.advance 4).comp (Local.setReg sp (v := fun _ => tmp) fun _ _ => rfl),
      fun hum => ⟨fun hmh2 => ⟨?_, ?_⟩, fun hve hm => ⟨?_, ?_⟩, resbank_makes off hum⟩⟩
    · have makes := ldmMp_makes off hum hmh2 eh et reg1
      rwa [entryRegs_length] at makes
    · have makes := stmMp_makes off hum hmh2 eh et reg1
      rwa [entryRegs_length] at makes
    · exact ldmGsr_makes off hum hve hm reg1
    · exact stmGsr_makes off hum hve hm reg1
  · intro s hm q table mode k slot banked bn stored xs full free
    exact State.accept_reports table mode rfl
      (fun h => fun f => f.elim (fun lt => absurd (full h).1 (by omega)) (full h).2) free
end

section
/-!
PROOFS. The memory protection unit: which accesses a layer denies (21_mpu.md R252, R258, R262).
-/

namespace Sys2Proof.Machine

variable {s : State} {e : MpuEntry} {lo hi : Nat} {k : AccessKind} {user : Bool} {spid : BitVec 5}

/-- R262: the entry names the SPID. -/
theorem Mpu.names_iff {base : Nat} :
    s.mpu.names e base spid = true ↔ ∃ j : Fin 8, e.mpat.getLsbD (base + j) = true ∧ (s.mpu.mpid[j]).toNat % 32 = spid.toNat := by
  have number (j : Nat) (hj : j < 8) :
      ((s.mpu.mpid[j]?.getD 0).extractLsb' 0 5 == spid) = true ↔ (s.mpu.mpid[j]).toNat % 32 = spid.toNat := by
    rw [beq_iff_eq, Vector.getElem?_eq_getElem hj, ← BitVec.toNat_inj]
    simp
  simp only [Mpu.names, List.any_eq_true, List.mem_range, Bool.and_eq_true]
  constructor
  · rintro ⟨j, hj, bit, eq⟩
    exact ⟨⟨j, hj⟩, bit, (number j hj).mp eq⟩
  · rintro ⟨j, bit, eq⟩
    exact ⟨j, j.isLt, bit, (number j j.isLt).mpr eq⟩

/-- R262: the match predicate that the rule states. -/
theorem Mpu.matchEntry_stated :
    s.mpu.matchEntry .stated e lo hi k user spid = true ↔ s.EntryAllows e lo hi k user spid.toNat := by
  have ids : s.mpu.idAllows e k spid = true ↔ (e.mpat.getLsbD (if k = .write then 15 else 14) = true ∨
      ∃ j : Fin 8, e.mpat.getLsbD ((if k = .write then 24 else 16) + j) = true ∧ (s.mpu.mpid[j]).toNat % 32 = spid.toNat) := by
    cases k <;> simp only [Mpu.idAllows, Bool.or_eq_true, Mpu.names_iff] <;> rfl
  simp only [Mpu.matchEntry, Bool.and_eq_true, decide_eq_true_eq, ids, State.EntryAllows, and_assoc]
  cases k <;> cases user <;> rfl

theorem Mpu.setAllows_stated {sel : Nat → Bool} {c : Ctx} :
    s.mpu.setAllows .stated sel lo hi k user c.spid5 = true ↔
      s.SomeEntryAllows (fun n => sel n = true) lo hi k user (c.spid.toNat % 32) := by
  have spid : c.spid5.toNat = c.spid.toNat % 32 := by simp [Ctx.spid5]
  simp only [Mpu.setAllows, List.any_eq_true, List.mem_range, Bool.and_eq_true, State.SomeEntryAllows, ← spid]
  refine exists_congr fun n => ⟨fun ⟨hn, picked, allows⟩ => ?_, fun ⟨hn, picked, allows⟩ => ?_⟩
  · rw [Vector.getElem?_eq_getElem hn] at allows
    exact ⟨hn, picked, Mpu.matchEntry_stated.mp allows⟩
  · refine ⟨hn, picked, ?_⟩
    rw [Vector.getElem?_eq_getElem hn]
    exact Mpu.matchEntry_stated.mpr allows

theorem State.firstHostEntry_eq : s.mpu.hbe = s.FirstHostEntry := by
  simp [Mpu.hbe, State.FirstHostEntry, Nat.shiftRight_eq_div_pow]

/-- One kind of access: the guest layer is asked first. -/
theorem mpuViolation_single (m : Mode) :
    s.mpuViolation m lo hi [k] user = if s.layerDenies m .guest lo hi k user then some .guest
      else if s.layerDenies m .host lo hi k user then some .host else none := by
  simp [State.mpuViolation]

/-- An access of several kinds is denied where one of them is. -/
theorem mpuViolation_none_iff (m : Mode) (ks : List AccessKind) :
    s.mpuViolation m lo hi ks user = none ↔ ∀ k ∈ ks, s.mpuViolation m lo hi [k] user = none := by
  have none_iff (g h : Bool) : (if g then some Layer.guest else if h then some .host else none) = none ↔ g = false ∧ h = false := by
    cases g <;> cases h <;> decide
  simp only [State.mpuViolation, none_iff, List.any_eq_false, Bool.not_eq_true, List.mem_singleton, forall_eq]
  exact ⟨fun h k hk => ⟨h.1 k hk, h.2 k hk⟩, fun h => ⟨fun k hk => (h k hk).1, fun k hk => (h k hk).2⟩⟩

/-- R204: with the MPU off and all memory ordinary, an aligned access is performed. -/
theorem State.Unprotected.mayAccess (h : s.Unprotected) {a : Word} {n : Nat} (ks : List AccessKind) (aligned : misaligned a n = false) :
    s.MayAccess a n ks := by
  obtain ⟨host, guest, gmpe, map⟩ := h
  refine ⟨aligned, (State.During.refl s).unprotected host guest gmpe .., fun r hr => ?_⟩
  rw [map] at hr
  exact absurd hr List.not_mem_nil

section
variable (stated : s.prod.mpuMatch = .stated)
include stated

/-- R262: what the layers of host mode deny. -/
theorem hostDenies_iff {sel : Nat → Prop} (same : ∀ n, (!s.hve || s.mpu.inLayer .host n) = true ↔ sel n) :
    s.layerDenies .host .host lo hi k user = true ↔
      (s.host.mpe = true ∧ (user = true ∨ s.host.svp = true)) ∧
        ¬ s.SomeEntryAllows sel lo hi k user (s.host.spid.toNat % 32) := by
  have selected : (fun n => (!s.hve || s.mpu.inLayer .host n) = true) = sel := funext fun n => propext (same n)
  simp only [State.layerDenies, stated]
  rw [Bool.and_eq_true, Bool.and_eq_true, Bool.or_eq_true, Bool.not_eq_true', ← Bool.not_eq_true, Mpu.setAllows_stated, selected]

theorem hostMode_violation {sel : Nat → Prop} (same : ∀ n, (!s.hve || s.mpu.inLayer .host n) = true ↔ sel n) :
    let allows : Prop := s.SomeEntryAllows sel lo hi k user (s.host.spid.toNat % 32)
    let checks : Prop := s.host.mpe = true ∧ (user = true ∨ s.host.svp = true)
    s.mpuViolation .host lo hi [k] user = none ∧ (checks → allows) ∨
      s.mpuViolation .host lo hi [k] user = some .host ∧ checks ∧ ¬ allows := by
  intro allows checks
  have denies := hostDenies_iff (lo := lo) (hi := hi) (k := k) (user := user) stated same
  have guest : s.layerDenies .host .guest lo hi k user = false := rfl
  rw [mpuViolation_single, guest]
  by_cases d : s.layerDenies .host .host lo hi k user = true
  · exact .inr ⟨by simp [d], denies.mp d⟩
  · refine .inl ⟨by simp [d], fun c => ?_⟩
    by_contra no
    exact d (denies.mpr ⟨c, no⟩)

/-- R262: what the guest layer and the host layer deny in guest mode. -/
theorem guestDenies_iff : s.layerDenies .guest .guest lo hi k user = true ↔
    (s.guest.mpe = true ∧ (user = true ∨ s.guest.svp = true)) ∧
      ¬ s.SomeEntryAllows (fun n => n < s.FirstHostEntry) lo hi k user (s.guest.spid.toNat % 32) := by
  simp only [State.layerDenies, stated, Bool.and_eq_true, Bool.or_eq_true, Bool.not_eq_true', ← Bool.not_eq_true,
    Mpu.setAllows_stated, Mpu.inLayer, decide_eq_true_eq, State.firstHostEntry_eq]

theorem guestHostDenies_iff : s.layerDenies .guest .host lo hi k user = true ↔
    s.guest.gmpe = true ∧ ¬ s.SomeEntryAllows (fun n => s.FirstHostEntry ≤ n) lo hi k user (s.guest.spid.toNat % 32) := by
  simp only [State.layerDenies, stated, Bool.and_eq_true, Bool.not_eq_true', ← Bool.not_eq_true,
    Mpu.setAllows_stated, Mpu.inLayer, decide_eq_true_eq, State.firstHostEntry_eq]

end
end Sys2Proof.Machine

open Sys2Proof.Machine

/-- Settles O15: the layers are read off the match predicate, and the guest layer is asked first. -/
theorem protectionNeedsAMatchingEntry : Obligations.ProtectionNeedsAMatchingEntry := by
  refine ⟨fun s lo hi k user stated => ?_, fun s m lo hi ks user => mpuViolation_none_iff m ks,
    fun s a n ks off aligned => off.mayAccess ks aligned⟩
  have guest := guestDenies_iff (s := s) (lo := lo) (hi := hi) (k := k) (user := user) stated
  have host := guestHostDenies_iff (s := s) (lo := lo) (hi := hi) (k := k) (user := user) stated
  refine ⟨fun conventional => hostMode_violation stated fun n => ?_, fun hve => hostMode_violation stated fun n => ?_, ?_, ?_⟩
  · simp [conventional]
  · simp [hve, Mpu.inLayer, State.firstHostEntry_eq]
  · rw [mpuViolation_single, ← guest]
    split_ifs <;> simp_all
  · rw [mpuViolation_single, ← guest, ← host]
    split_ifs <;> simp_all
end

section
/-!
PROOFS. Synchronisation, the cache operations, the software exceptions, and the instructions that trap without privilege
(43_special_stack_atomic.md R516, R517, 44_system.md R530 to R550, 45_cache.md R570, 61_virtualization.md R881).
-/

namespace Sys2Proof.Machine

variable {s : State} {i : Instr}

/-! ## Advancing -/

theorem State.frame_link (s : State) (l : Link) {D : Reg → Prop} {B : Word → Prop} {m : Word} : s.Frame { s with link := l } D B m :=
  ⟨fun _ _ => rfl, fun _ _ => rfl, rfl, rfl, fun _ _ _ => rfl, rfl, rfl, rfl, rfl, rfl, rfl, rfl⟩

theorem State.frame_halt (s : State) (h : Halt) {D : Reg → Prop} {B : Word → Prop} {m : Word} : s.Frame { s with halt := h } D B m :=
  ⟨fun _ _ => rfl, fun _ _ => rfl, rfl, rfl, fun _ _ _ => rfl, rfl, rfl, rfl, rfl, rfl, rfl, rfl⟩

theorem State.frame_freeCacheRegs (s : State) {D : Reg → Prop} {B : Word → Prop} {m : Word} : s.Frame s.freeCacheRegs D B m :=
  ⟨fun _ _ => rfl, fun _ _ => rfl, rfl, rfl, fun _ _ _ => rfl, rfl, rfl, rfl, rfl, rfl, rfl, rfl⟩

/-- An instruction that only goes on. -/
theorem Completes.advance {len : Nat} (h : exec i s = .next (s.advance len)) : Completes i s len noReg noByte 0 fun _ => True :=
  ⟨_, h, rfl, State.frame_advance _ _, ⟨rfl, rfl, rfl, rfl⟩, trivial⟩

/-! ## The cache operations -/

/-- R570: an operation of CACHE in a mode that may run it. -/
theorem cache_runs {op : BitVec 7} {o : CacheOp} (code : cacheOpOf op = some o) (may : s.mayCache o = true) (reg1 : Reg) :
    exec (.cache op reg1) s = s.runCache o (s.reg reg1) := by
  show execCache op reg1 s = _
  simp only [execCache, code, may, if_true]

/-- R570: an operation of CACHE in a mode that may not run it. -/
theorem cache_traps {op : BitVec 7} {o : CacheOp} (code : cacheOpOf op = some o) (may : s.mayCache o = false) (reg1 : Reg) :
    exec (.cache op reg1) s = s.raisePie := by
  show execCache op reg1 s = _
  simp [execCache, code, may]

/-- R570: who may run a privileged operation of CACHE. -/
theorem mayCache_iff {o : CacheOp} (h : o ≠ .chbii ∧ o ≠ .cll) :
    s.mayCache o = true ↔ if s.hve then s.mode = .host ∧ s.um = false else s.um = false := by
  have run : s.mayCache o = if s.hve then s.isHv else !s.um := by
    cases o <;> first | rfl | exact absurd rfl h.1 | exact absurd rfl h.2
  rw [run]
  split
  · next hve => simp [State.isHv, hve]
  · simp

theorem checkedCache_advances {o : CacheOp} (kind : o = .chbii ∨ o = .cfali) {a : Word}
    (permitted : s.mpuViolation s.mode a.toNat a.toNat [.read] s.um = none) : s.runCache o a = .next (s.advance 4) := by
  rcases kind with rfl | rfl <;> simp only [State.runCache, cacheAccess, permitted]

/-- R570: the codes that no operation has. -/
theorem cacheOpOf_none {op : BitVec 7} (h : op ∉ [0x00, 0x20, 0x40, 0x60, 0x61, 0x7E]) : cacheOpOf op = none := by
  revert op
  decide

end Sys2Proof.Machine

open Sys2Proof.Machine

/-- Settles O20: each of these instructions goes on; CILDI and the code of CLL change what the statement names first. -/
theorem syncAndCacheAreTransparent : Obligations.SyncAndCacheAreTransparent := by
  refine ⟨fun s prefop reg1 => ⟨.advance rfl, .advance rfl, .advance rfl, .advance rfl, .advance rfl, .advance rfl⟩,
    fun s op reg1 => ?_⟩
  intro a may advances kept
  have privileged {o : CacheOp} (h : o ≠ .chbii ∧ o ≠ .cll) (m : may) : s.mayCache o = true := (mayCache_iff h).mpr m
  refine ⟨?_, ?_, ?_, ?_, ?_, fun undefined => .advance ?_⟩
  · rintro rfl permitted
    exact .advance ((cache_runs rfl rfl reg1).trans (checkedCache_advances (.inl rfl) permitted))
  · rintro rfl m permitted
    exact .advance ((cache_runs rfl (privileged (by decide) m) reg1).trans (checkedCache_advances (.inr rfl) permitted))
  · rintro (rfl | rfl) m
    · exact .advance (cache_runs (o := .cibii) rfl (privileged (by decide) m) reg1)
    · exact .advance (cache_runs (o := .cisti) rfl (privileged (by decide) m) reg1)
  · rintro rfl m
    have run := cache_runs (o := .cildi) (op := 0x61) rfl (privileged (by decide) m) reg1
    exact ⟨_, ⟨run, rfl, (State.frame_freeCacheRegs s).trans (State.frame_advance _ _), rfl, rfl⟩, rfl, rfl⟩
  · rintro rfl
    have run := cache_runs (s := s) (o := .cll) (op := 0x7E) rfl rfl reg1
    exact ⟨_, ⟨run, rfl, (State.frame_link s _).trans (State.frame_advance _ _), rfl, rfl⟩, rfl, rfl⟩
  · show execCache op reg1 s = _
    simp only [execCache, cacheOpOf_none undefined]
end

section
namespace Sys2Proof.Machine

variable {s : State}

/-! ## Software exceptions -/

/-- R536: SYSCALL, its table word permitted. -/
theorem syscall_enters (vector8 : BitVec 8) (permitted : s.Permits (s.syscallEntry vector8) 4 [.read] false) :
    ∃ t, exec (.syscall vector8) s = .next t ∧ s.Enters t .ei (0x8000 + vector8.setWidth 32) (s.pc + 4)
      (s.sys.scbp + s.readWord (s.syscallEntry vector8)) s.mode true noCtxReg := by
  have run : exec (.syscall vector8) s = .next (((s.takeException .ei (0x8000 + zextW vector8) 0 (s.pc + 4) s.mode true).jump
      (s.sys.scbp + s.readWord (s.syscallEntry vector8))).emit (.pending s.mode)) := by
    refine (State.checked_ok (x := ⟨s.syscallEntry vector8, 4, [.read], false, false, meiWord 4 0 2 false 18 false⟩) (.inl rfl)
      permitted).trans ?_
    exact State.noteDevice_ordinary permitted.2
  have entered := s.takeException_enters .ei (0x8000 + zextW vector8) 0 (s.pc + 4) s.mode true
  have jumped : s.Enters ((s.takeException .ei (0x8000 + zextW vector8) 0 (s.pc + 4) s.mode true).jump
      (s.sys.scbp + s.readWord (s.syscallEntry vector8))) .ei (0x8000 + zextW vector8) (s.pc + 4)
      (s.sys.scbp + s.readWord (s.syscallEntry vector8)) s.mode true noCtxReg :=
    ⟨rfl, entered.saved, entered.psw, entered.kept, entered.other, entered.system, entered.regs, entered.vectors, entered.bytes,
      entered.link, entered.rest⟩
  exact ⟨_, run, jumped.emit _⟩

/-- R537: HVTRAP. -/
theorem hvtrap_run (vector5 : BitVec 5) (hve : s.hve = true) : exec (.hvtrap vector5) s =
    s.supervisor (s.raisePending .ei (0xF000 + zextW vector5) 0x20 (s.pc + 4) .host) := by
  show execHvtrap vector5 s = _
  simp [execHvtrap, hve]

end Sys2Proof.Machine

open Sys2Proof.Machine

/-- Settles O21: every exception is taken by one operation, which the law about it describes. -/
theorem exceptionsSaveAndSoftwareExceptionsReturn : Obligations.ExceptionsSaveAndSoftwareExceptionsReturn := by
  refine ⟨State.takeException_enters, fun s imm5 imm4 => ⟨State.raise_takes rfl, State.raise_takes rfl⟩,
    fun s vector4 vector5 => ⟨State.raisePending_takes rfl, ?_, fun hve hum => ?_, fun hve => ?_⟩, fun s vector8 => ?_⟩
  · have bound : (if vector5.toNat < 16 then 0x40 else 0x50 : Sys2Proof.Word) = if vector5.toNat ≤ 0xF then 0x40 else 0x50 :=
      if_congr Nat.lt_succ_iff rfl rfl
    rw [bound]
    exact State.raisePending_takes rfl
  · exact State.raisePending_takes ((hvtrap_run vector5 hve).trans (if_neg (by simp [hum])))
  · refine State.raise_takes ?_
    show execHvtrap vector5 s = _
    simp only [execHvtrap, hve, Bool.not_false, if_true]
    rfl
  · intro n entry permitted
    have same : s.syscallEntry vector8 = entry := syscallEntry_eq vector8
    rw [← same] at permitted ⊢
    exact syscall_enters vector8 permitted
end

section
/-!
PROOFS. Privilege, and the access check of LDSR and STSR (61_virtualization.md R881, 11_sysregs.md R70, R71, R158, R195).
-/

namespace Sys2Proof.Machine

variable {s : State} {i : Instr}

/-! ## PIE -/

/-- R811: an instruction that raises PIE. -/
theorem takes_pie (h : exec i s = s.raisePie) : Takes i s .fe s.prod.causePie s.pc 0xA0 s.mode noCtxReg := State.raise_takes h

theorem State.supervisor_traps (hum : s.um = true) (k : Out) : s.supervisor k = s.raisePie := if_pos hum

theorem State.hypervisor_traps (hve : s.hve = true) (h : s.mode = .guest ∨ s.um = true) (k : Out) : s.hypervisor k = s.raisePie := by
  have no : s.isHv = false := by rcases h with h | h <;> simp [State.isHv, h]
  simp [State.hypervisor, hve, no]

/-! ## The access check -/

variable {regID selID : BitVec 5} {w : Bool} {r : SReg}

/-- R71: an undefined register, by its number or by the state of HVE. -/
theorem State.srAccess_undefined (h : ∀ r, sregOf s.prod regID selID = some r → r.absent s.hve = true) :
    s.srAccess regID selID w = if s.um then .pie else .undefined := by
  have none : (sregOf s.prod regID selID).filter (fun r => !r.absent s.hve) = none := by
    cases e : sregOf s.prod regID selID with
    | none => rfl
    | some r => simp [h r e]
  simp only [State.srAccess, none]

section
variable (named : sregOf s.prod regID selID = some r) (present : r.absent s.hve = false)
include named present

theorem State.srAccess_unusable {n : Nat} (unit : r.coproc = some n) (off : s.psw.getLsbD (16 + n) = false) :
    s.srAccess regID selID w = .ucpop n := by
  have some : r.coproc.filter (fun n => !s.psw.getLsbD (16 + n)) = some n := by simp [unit, off]
  simp only [State.srAccess, named, present, some, Option.filter_some, Bool.not_false, if_true]

/-- R70: an existing register whose coprocessor may be used. -/
theorem State.srAccess_usable (usable : ∀ n, r.coproc = some n → s.psw.getLsbD (16 + n) = true) :
    s.srAccess regID selID w = if s.hasAuth (r.auth s.hve w) then .reg r else .pie := by
  have none : r.coproc.filter (fun n => !s.psw.getLsbD (16 + n)) = none := by
    cases e : r.coproc with
    | none => rfl
    | some n => simp [usable n e]
  simp only [State.srAccess, named, present, none, Option.filter_some, Bool.not_false, if_true]

end

/-- R811: LDSR and STSR without permission. -/
theorem ldsr_pie (h : s.srAccess regID selID true = .pie) (reg2 : Reg) : exec (.ldsr regID selID reg2) s = s.raisePie := by
  show execLdsr regID selID reg2 s = _
  simp only [execLdsr, h]

theorem stsr_pie (h : s.srAccess regID selID false = .pie) (reg2 : Reg) : exec (.stsr regID selID reg2) s = s.raisePie := by
  show execStsr regID selID reg2 s = _
  simp only [execStsr, h]

/-- R881: user mode has no authority but UM. -/
theorem State.user_lacks (hum : s.um = true) {a : Auth} (h : a = .sv ∨ a = .hv) : s.hasAuth a = false := by
  rcases h with rfl | rfl
  · simp [State.hasAuth, hum]
  · cases e : s.hve <;> simp [State.hasAuth, State.isHv, hum, e]

/-- R195: the registers that exist in every state of HVE, belong to no coprocessor, and need more than UM. -/
def supervisorRegisters : List SReg :=
  [.orig .eipc, .orig .eipsw, .orig .fepc, .orig .fepsw, .orig .eiic, .orig .feic, .orig .spid, .orig .ebase, .orig .intbp,
    .orig .svlock, .orig .mea, .orig .mei, .orig .intcfg, .orig .plmr, .orig .mpm, .mctl, .sccfg, .scbp, .hvcfg, .ispr, .rbcr0,
    .rbcr1, .rbnr, .rbip, .mpcfg, .mca, .mcs, .mcc, .mcr, .mci, .mpidx, .mpbk, .mpla, .mpua, .mpat]

theorem supervisorRegisters_auth : ∀ hve w : Bool, ∀ r ∈ supervisorRegisters,
    r.absent hve = false ∧ r.coproc = none ∧ (r.auth hve w = .sv ∨ r.auth hve w = .hv) := by
  decide

theorem supervisorRegister_pie (hum : s.um = true) (h : r ∈ supervisorRegisters) (named : sregOf s.prod regID selID = some r) :
    s.srAccess regID selID w = .pie := by
  obtain ⟨present, unit, auth⟩ := supervisorRegisters_auth s.hve w r h
  rw [State.srAccess_usable named present (fun n e => by rw [unit] at e; cases e), State.user_lacks hum auth]
  rfl

/-- R570: the privileged operations of CACHE. -/
theorem cache_privileged {op : BitVec 7} (h : op ∈ [0x20, 0x40, 0x60, 0x61]) :
    ∃ o : CacheOp, cacheOpOf op = some o ∧ o ≠ .chbii ∧ o ≠ .cll := by
  revert op
  decide

end Sys2Proof.Machine

open Sys2Proof.Machine

/-- Settles O24: without the privilege each of these instructions is `State.raisePie`. -/
theorem privilegedInstructionsTrapWithoutPrivilege : Obligations.PrivilegedInstructionsTrapWithoutPrivilege := by
  refine ⟨fun s eh et reg1 reg2 vector5 regID selID hum => ?_, fun s reg1 hve hm => ?_⟩
  · have user (k : Out) : s.supervisor k = s.raisePie := State.supervisor_traps hum k
    have cacheTraps : ∀ op ∈ [0x20, 0x40, 0x60, 0x61], exec (.cache op reg1) s = s.raisePie := by
      intro op h
      obtain ⟨o, code, other⟩ := cache_privileged h
      refine cache_traps code (Bool.eq_false_iff.mpr fun e => ?_) reg1
      have may := (mayCache_iff other).mp e
      split at may
      · exact absurd may.2 (by simp [hum])
      · exact absurd may (by simp [hum])
    have mp (hmh2 : s.isMh2 = true) (k : Out) : s.mpTransfer k = s.raisePie := by simp [State.mpTransfer, hmh2, user]
    refine ⟨takes_pie (user _), takes_pie (user _), takes_pie (user _), takes_pie (user _), fun uic => ?_, fun hmh2 => ?_,
      fun hve => ⟨?_, ?_, ?_⟩, fun op h => takes_pie (cacheTraps op h), fun none => ?_, fun r h named => ?_⟩
    · have traps (b : Bool) : s.writeId b = s.raisePie := by
        simp only [State.writeId, uic, hum, Bool.not_false, Bool.and_self, if_true]
      exact ⟨takes_pie (traps true), takes_pie (traps false)⟩
    · exact ⟨takes_pie (mp hmh2 _), takes_pie (mp hmh2 _)⟩
    · exact takes_pie ((hvtrap_run vector5 hve).trans (user _))
    · exact takes_pie (State.hypervisor_traps hve (.inr hum) _)
    · exact takes_pie (State.hypervisor_traps hve (.inr hum) _)
    · have pie (w : Bool) : s.srAccess regID selID w = .pie := by
        rw [State.srAccess_undefined (fun r e => by rw [none] at e; cases e), if_pos hum]
      exact ⟨takes_pie (ldsr_pie (pie true) reg2), takes_pie (stsr_pie (pie false) reg2)⟩
    · have pie (w : Bool) : s.srAccess regID selID w = .pie := supervisorRegister_pie hum h named
      exact ⟨takes_pie (ldsr_pie (pie true) reg2), takes_pie (stsr_pie (pie false) reg2)⟩
  · refine ⟨takes_pie (State.hypervisor_traps hve (.inl hm) _), takes_pie (State.hypervisor_traps hve (.inl hm) _), fun op h => ?_⟩
    obtain ⟨o, code, other⟩ := cache_privileged h
    refine takes_pie (cache_traps code (Bool.eq_false_iff.mpr fun e => ?_) reg1)
    have may := (mayCache_iff other).mp e
    rw [if_pos hve, hm] at may
    exact absurd may.1 (by decide)
end

section
/-!
PROOFS. Stack frames (43_special_stack_atomic.md R503 to R507): PREPARE, PUSHSP, DISPOSE and POPSP complete where every word is permitted.
-/

namespace Sys2Proof.Machine

variable {s : State} {i : Instr}

/-! ## Registers stored below sp -/

/-- sp and perhaps ep written, after `t`. -/
theorem State.frame_prepareEnd (t : State) (len : Nat) (room : Word) (newEp : Option (Word → Word)) (tmp : Word) {D : Reg → Prop}
    {B : Word → Prop} {m : Word} (hsp : D sp) (hep : newEp.isSome → D ep) : t.Frame (prepareEnd len room newEp tmp t) D B m := by
  have first := State.frame_setReg t sp (tmp - room) (D := D) (B := B) (m := m) hsp
  cases newEp with
  | none => exact first.trans (State.frame_advance _ _)
  | some f => exact (first.trans (State.frame_setReg _ ep _ (hep rfl))).trans (State.frame_advance _ _)

theorem State.units_prepareEnd (t : State) (len : Nat) (room : Word) (newEp : Option (Word → Word)) (tmp : Word) :
    t.SameUnits (prepareEnd len room newEp tmp t) := by
  cases newEp <;> constructor <;> simp [prepareEnd]

theorem State.prepareEnd_nextAfter (t : State) (len : Nat) (room : Word) (newEp : Option (Word → Word)) (tmp : Word) :
    t.NextAfter (prepareEnd len room newEp tmp t) len := by
  cases newEp <;> simp [prepareEnd, State.NextAfter]

theorem State.prepareEnd_mem (t : State) (len : Nat) (room : Word) (newEp : Option (Word → Word)) (tmp : Word) :
    (prepareEnd len room newEp tmp t).mem = t.mem := by
  cases newEp <;> simp [prepareEnd]

theorem State.prepareEnd_sp (t : State) (len : Nat) (room : Word) (newEp : Option (Word → Word)) (tmp : Word) :
    (prepareEnd len room newEp tmp t).Holds sp (tmp - room) := by
  have set := State.holds_setReg t sp (tmp - room)
  cases newEp with
  | none => exact State.holds_congr set (State.advance_reg ..)
  | some f => exact State.holds_congr (State.holds_setReg_ne _ set (by decide)) (State.advance_reg ..)

theorem State.prepareEnd_ep (t : State) (len : Nat) (room : Word) (f : Word → Word) (tmp : Word) :
    (prepareEnd len room (some f) tmp t).reg ep = f (tmp - room) :=
  (State.advance_reg ..).trans (State.holds_setReg (t.setReg sp (tmp - room)) ep _)

/-- R504, R506: registers stored below sp, then sp and perhaps ep written. -/
theorem pushRegs_completes {len : Nat} {mei : Reg → Word} {rs : List Reg} {room : Word} {newEp : Option (Word → Word)} {D : Reg → Prop}
    {P : State → Prop} (wf : s.memWf) (small : rs.length < 2 ^ 30)
    (permits : s.PermitsBlock (s.reg sp - BitVec.ofNat 32 (4 * rs.length)) rs.length .write)
    (h : exec i s = pushRegs mei s.reg rs (s.reg sp) s fun tmp t => .next (prepareEnd len room newEp tmp t)) (hsp : D sp)
    (hep : newEp.isSome → D ep)
    (post : ∀ f t, newEp = some f → t.reg ep = f (s.reg sp - BitVec.ofNat 32 (4 * rs.length) - room) → P t)
    (none : newEp = none → ∀ t, P t) :
    Completes i s len D (blockBytes (s.reg sp - BitVec.ofNat 32 (4 * rs.length)) rs.length) 0 fun t =>
      t.Holds sp (s.reg sp - BitVec.ofNat 32 (4 * rs.length) - room) ∧
        (∀ k r, rs.reverse[k]? = some r →
          t.readWord (blockAddress (s.reg sp - BitVec.ofNat 32 (4 * rs.length)) k) = s.reg r) ∧ P t := by
  obtain ⟨u, run, memOnly, -, outside, stored⟩ := State.pushRegs_spec mei s.reg rs (s.reg sp)
    (fun tmp t => .next (prepareEnd len room newEp tmp t)) wf small permits
  have next := State.prepareEnd_nextAfter u len room newEp (s.reg sp - BitVec.ofNat 32 (4 * rs.length))
  rw [State.NextAfter, memOnly.pc] at next
  refine ⟨_, h.trans run, next, (memOnly.frame outside).trans (State.frame_prepareEnd _ _ _ _ _ hsp hep),
    memOnly.units.trans (State.units_prepareEnd ..), State.prepareEnd_sp .., fun k r e => ?_, ?_⟩
  · rw [State.readWord_congr (State.prepareEnd_mem ..), stored k r e]
  · cases e : newEp with
    | none => exact none e _
    | some f => exact post f _ e (State.prepareEnd_ep ..)

theorem list12Regs_length (l : BitVec 12) : (list12Regs l).length ≤ 12 := by
  rw [list12Regs, List.length_map]
  exact List.length_filter_le ..

theorem regRange_length (h t : Reg) : (regRange h t).length ≤ 32 := by
  rw [regRange, List.length_map]
  exact (List.length_filter_le ..).trans_eq List.length_range

/-! ## Registers loaded from sp upward -/

/-- Registers loaded in order, `value k` into the one at place `k`, but those kept. -/
def State.loadRegs (keep : Reg → Bool) (value : Nat → Word) (rs : List Reg) (k : Nat) (t : State) : State :=
  (rs.zipIdx k).foldl (fun t p => if keep p.1 then t else t.setReg p.1 (value p.2)) t

section
variable {keep : Reg → Bool} {value : Nat → Word}

theorem State.loadRegs_cons (r : Reg) (rs : List Reg) (k : Nat) (t : State) : State.loadRegs keep value (r :: rs) k t =
    State.loadRegs keep value rs (k + 1) (if keep r then t else t.setReg r (value k)) := rfl

/-- Loading registers writes no other register and nothing else. -/
theorem State.loadRegs_keeps (rs : List Reg) (k : Nat) (t : State) : t.Frame (State.loadRegs keep value rs k t) (· ∈ rs) noByte 0 ∧
    t.SameUnits (State.loadRegs keep value rs k t) ∧ (State.loadRegs keep value rs k t).pc = t.pc := by
  induction rs generalizing k t with
  | nil => exact ⟨(State.Frame.refl t).mono (fun _ h => h.elim) (fun _ h => h) rfl, .refl t, rfl⟩
  | cons r rs ih =>
    obtain ⟨frame, units, pc⟩ := ih (k + 1) (if keep r then t else t.setReg r (value k))
    have wider := frame.mono (d' := (· ∈ r :: rs)) (m' := 0) (fun _ h => List.mem_cons_of_mem _ h) (fun _ h => h) rfl
    rw [State.loadRegs_cons]
    cases e : keep r with
    | true => exact ⟨by rw [e] at wider; exact wider, by rw [e] at units; exact units, by rw [e] at pc; exact pc⟩
    | false =>
      rw [e] at wider units pc
      exact ⟨(State.frame_setReg t r _ List.mem_cons_self).trans wider, (State.units_setReg t r _).trans units,
        pc.trans (State.setReg_pc ..)⟩

/-- Each register listed once holds its value. -/
theorem State.loadRegs_holds {rs : List Reg} (distinct : rs.Nodup) (k : Nat) (t : State) {n : Nat} {r : Reg}
    (place : rs[n]? = some r) (loaded : keep r = false) : (State.loadRegs keep value rs k t).Holds r (value (k + n)) := by
  induction rs generalizing k n t with
  | nil => cases place
  | cons x rs ih =>
    obtain ⟨first, rest⟩ := List.nodup_cons.mp distinct
    rw [State.loadRegs_cons]
    cases n with
    | zero =>
      obtain rfl : x = r := Option.some.inj place
      rw [loaded]
      exact State.holds_congr (State.holds_setReg t x _) ((State.loadRegs_keeps rs (k + 1) _).1.regs x first)
    | succ n =>
      have later := ih rest (k + 1) (if keep x then t else t.setReg x (value k)) place
      rwa [Nat.add_right_comm] at later

end

/-- R505, R507: what is true after the loads and the write of sp, and of whatever continues with the same registers. -/
theorem popRegs_loads {mei : Reg → Word} {keep : Reg → Bool} {rs : List Reg} {base : Word} {fin : State → State}
    (h : exec i s = popRegs mei keep rs.reverse base s fun tmp t => .next (fin (t.setReg sp tmp)))
    (permits : s.PermitsBlock base rs.length .read) (distinct : rs.Nodup) (kept : ∀ r ∈ rs, keep r = true → r = sp)
    (frame : ∀ t : State, t.Frame (fin t) noReg noByte 0 ∧ t.SameUnits (fin t)) :
    ∃ u, exec i s = .next (fin u) ∧ u.pc = s.pc ∧ s.Frame (fin u) (fun r => r = sp ∨ r ∈ rs) noByte 0 ∧ s.SameUnits (fin u) ∧
      (fin u).Holds sp (base + BitVec.ofNat 32 (4 * rs.length)) ∧
        ∀ k r, rs.reverse[k]? = some r → r ≠ sp → (fin u).Holds r (s.readWord (blockAddress base k)) := by
  rw [State.popRegs_eq mei keep rs.reverse base _ (by rwa [List.length_reverse]), List.length_reverse] at h
  have loads := State.loadRegs_keeps (keep := keep) (value := fun k => s.readWord (blockAddress base k)) rs.reverse 0 s
  obtain ⟨loadFrame, loadUnits, loadPc⟩ := loads
  refine ⟨_, h, (State.setReg_pc ..).trans loadPc, ?_, (loadUnits.trans (State.units_setReg ..)).trans (frame _).2, ?_, fun k r e ne => ?_⟩
  · have wider := loadFrame.mono (d' := fun r => r = sp ∨ r ∈ rs) (m' := 0)
      (fun _ m => .inr (List.mem_reverse.mp m)) (fun _ h => h) rfl
    refine (wider.trans (State.frame_setReg _ sp _ (.inl rfl))).trans ((frame _).1.mono (fun _ h => h.elim) (fun _ h => h) rfl)
  · exact State.holds_congr (State.holds_setReg _ sp _) ((frame _).1.regs sp id)
  · have member : r ∈ rs := List.mem_reverse.mp (List.mem_of_getElem? e)
    have loaded : keep r = false := Bool.eq_false_iff.mpr fun c => ne (kept r member c)
    have holds := State.loadRegs_holds (keep := keep) (value := fun k => s.readWord (blockAddress base k))
      (List.nodup_reverse.mpr distinct) 0 s e loaded
    rw [Nat.zero_add] at holds
    exact State.holds_congr (State.holds_setReg_ne _ holds ne) ((frame _).1.regs r id)

theorem list12Regs_nodup (l : BitVec 12) : (list12Regs l).Nodup := by
  have table : (list12Table.map (·.2)).Nodup := by decide
  exact table.sublist (List.filter_sublist.map _)

theorem regRange_nodup (h t : Reg) : (regRange h t).Nodup := by
  refine (List.nodup_range.filter _).map_on fun x hx y hy e => ?_
  have hx := List.mem_range.mp (List.mem_filter.mp hx).1
  have hy := List.mem_range.mp (List.mem_filter.mp hy).1
  have same := congrArg BitVec.toNat e
  rwa [BitVec.toNat_ofNat, BitVec.toNat_ofNat, Nat.mod_eq_of_lt hx, Nat.mod_eq_of_lt hy] at same

end Sys2Proof.Machine

open Sys2Proof.Machine

/-- Settles O17: each form is `pushRegs`, then `prepareEnd`. -/
theorem framePushesStoreAndMoveSp : Obligations.FramePushesStoreAndMoveSp := by
  intro s list12 imm5 imm16 imm32 reg1 reg3 wf
  have short : (list12Regs list12).length < 2 ^ 30 := (list12Regs_length list12).trans_lt (by decide)
  have prepares {i : Sys2Proof.Instr} {len : Nat} {newEp : Option (Sys2Proof.Word → Sys2Proof.Word)}
      (h : exec i s = s.prepare list12 imm5 len newEp) := h.trans (State.prepare_eq ..)
  rw [zextW_dispLow] at prepares
  have setsEp {i : Sys2Proof.Instr} {len : Nat} {f : Sys2Proof.Word → Sys2Proof.Word} {P : State → Prop}
      (h : exec i s = s.prepare list12 imm5 len (some f))
      (permits : s.PermitsBlock (s.reg sp - BitVec.ofNat 32 (4 * (list12Regs list12).length)) (list12Regs list12).length .write)
      (post : ∀ t, t.reg ep = f (s.reg sp - BitVec.ofNat 32 (4 * (list12Regs list12).length) - (imm5.setWidth 32 <<< 2)) → P t) :=
    pushRegs_completes (D := fun k => k = sp ∨ k = ep) wf short permits (prepares h) (.inl rfl) (fun _ => .inr rfl)
      (fun _ t e => by cases e; exact post t) (fun e => by cases e)
  have high : dispLow imm16 16 = imm16.setWidth 32 <<< 16 := by rw [← zextW_dispLow, zextW, BitVec.setWidth_eq]
  have pushsp : exec (.pushsp reg1 reg3) s = pushRegs (stackMei 4 13 true) s.reg (regRange reg1 reg3) (s.reg sp) s
      fun tmp t => .next (prepareEnd 4 0 none tmp t) := by
    have room (tmp : Sys2Proof.Word) : tmp - 0 = tmp := BitVec.sub_zero tmp
    simp only [prepareEnd, room]
    rfl
  refine ⟨fun permits => ?_, fun permits => setsEp (f := id) rfl permits fun t h => h,
    fun permits => setsEp (f := fun _ => imm16.signExtend 32) rfl permits fun t h => h,
    fun permits => setsEp (f := fun _ => dispLow imm16 16) rfl permits fun t h => h.trans high,
    fun permits => setsEp (f := fun _ => imm32) rfl permits fun t h => h, fun permits => ?_⟩
  · exact pushRegs_completes (newEp := none) wf short permits (prepares rfl) rfl (fun e => by cases e)
      (fun _ _ e => by cases e) fun _ _ => trivial
  · exact pushRegs_completes (newEp := none) wf ((regRange_length reg1 reg3).trans_lt (by decide)) permits
      pushsp rfl (fun e => by cases e) (fun _ _ e => by cases e) fun _ _ => trivial

/-- Settles O18: each form is `popRegs`, the write of sp, and the end. -/
theorem framePopsLoadAndMoveSp : Obligations.FramePopsLoadAndMoveSp := by
  intro s list12 imm5 reg1 reg3
  have listed (r : Sys2Proof.Reg) (_ : r ∈ list12Regs list12) (h : (fun _ => false) r = true) : r = sp := by cases h
  refine ⟨fun permits => ?_, fun permits => ?_, fun permits => ?_⟩
  · obtain ⟨u, run, pc, frame, units, holds⟩ := popRegs_loads (i := .disposeF1 list12 imm5) (fin := (·.advance 4))
      (by rw [← zextW_dispLow]; rfl) permits (list12Regs_nodup list12) listed
      fun t => ⟨State.frame_advance .., ⟨by simp, by simp, by simp, by simp⟩⟩
    exact ⟨_, run, by rw [State.NextAfter, State.advance_pc, pc], frame, units, holds⟩
  · obtain ⟨u, run, -, frame, units, holds⟩ := popRegs_loads (i := .disposeF2 list12 imm5 reg1) (fin := fun t => t.jump (t.reg reg1))
      (by rw [← zextW_dispLow]; rfl) permits (list12Regs_nodup list12) listed
      fun t => ⟨State.frame_jump .., ⟨by simp, by simp, by simp, by simp⟩⟩
    exact ⟨_, run, by simp, frame, units, holds⟩
  · obtain ⟨u, run, pc, frame, units, holds⟩ := popRegs_loads (i := .popsp reg1 reg3) (fin := (·.advance 4)) (by rfl) permits
      (regRange_nodup reg1 reg3) (fun r _ h => by simpa using h)
      fun t => ⟨State.frame_advance .., ⟨by simp, by simp, by simp, by simp⟩⟩
    exact ⟨_, run, by rw [State.NextAfter, State.advance_pc, pc], frame, units, holds⟩
end

section
/-!
PROOFS. Atomic access (43_special_stack_atomic.md R508 to R518).
-/

namespace Sys2Proof.Machine

variable {s : State} {reg1 reg2 reg3 : Reg}

/-- R508: the difference that CAXI compares by. -/
theorem subF_compare (a b : Word) : subF a b false =
    (a - b, ⟨decide (a.toNat < b.toNat), outOfRange (a.toInt - b.toInt), signFlag (a - b), decide (a = b)⟩) := by
  have none : (BitVec.ofBool false).setWidth 32 = (0 : Word) := rfl
  have zero : zeroFlag (a - b) = decide (a = b) := by rw [Bool.eq_iff_iff, zeroFlag_iff, decide_eq_true_eq, sub_eq_zero]
  simp only [subF, none, sub_zero, zero, Bool.toNat_false, Nat.add_zero, Nat.cast_zero]

theorem caxi_completes (wf : s.memWf) (may : s.MayAccess (s.reg reg1) 4 [.read, .write]) :
    Completes (.caxi reg1 reg2 reg3) s 4 (only reg3) (storedBytes (s.reg reg1) 4) 0xF fun t =>
      t.Holds reg3 (s.readWord (s.reg reg1)) ∧
        t.readWord (s.reg reg1) =
          (if s.reg reg2 = s.readWord (s.reg reg1) then s.reg reg3 else s.readWord (s.reg reg1)) ∧
        t.FlagsAre ((s.reg reg2).toNat < (s.readWord (s.reg reg1)).toNat)
          (overflows ((s.reg reg2).toInt - (s.readWord (s.reg reg1)).toInt))
          ((s.reg reg2 - s.readWord (s.reg reg1)).toInt < 0) (s.reg reg2 = s.readWord (s.reg reg1)) := by
  set old := s.readWord (s.reg reg1) with hold
  set x := s.reg reg2 with hx
  have run : exec (.caxi reg1 reg2 reg3) s = .next ((((s.writeWord (s.reg reg1) (if x = old then s.reg reg3 else old)).setReg reg3
      old).setFlags ⟨decide (x.toNat < old.toNat), outOfRange (x.toInt - old.toInt), signFlag (x - old), decide (x = old)⟩).advance
        4) := by
    show execCaxi reg1 reg2 reg3 s = _
    rw [execCaxi, State.access_may may]
    simp only [← hold, ← hx, subF_compare, sub_eq_zero]
  refine ⟨_, run, by simp [State.NextAfter], (((State.frame_writeWord wf _ _).trans (State.frame_setReg _ _ _ (only_self _))).trans
    (State.frame_setFlags _ _ rfl)).trans (State.frame_advance _ _), ⟨by simp, by simp, by simp, by simp⟩, ?_, ?_, ?_⟩
  · exact State.holds_congr (State.holds_setReg (s.writeWord (s.reg reg1) (if x = old then s.reg reg3 else old)) reg3 old) (by simp)
  · rw [State.readWord_congr (s := s.writeWord (s.reg reg1) (if x = old then s.reg reg3 else old)) (by simp),
      State.readWord_writeWord _ wf]
  · obtain ⟨cy, ov, sf, zf, -⟩ := State.setFlags_flags ((s.writeWord (s.reg reg1) (if x = old then s.reg reg3 else old)).setReg reg3 old)
      ⟨decide (x.toNat < old.toNat), outOfRange (x.toInt - old.toInt), signFlag (x - old), decide (x = old)⟩
    refine ⟨(Bool.eq_iff_iff.mp ?_).trans decide_eq_true_iff, (Bool.eq_iff_iff.mp ?_).trans (outOfRange_iff _),
      (Bool.eq_iff_iff.mp ?_).trans (signFlag_eq_true_iff _), (Bool.eq_iff_iff.mp ?_).trans decide_eq_true_iff⟩
    · simpa [State.cy] using cy
    · simpa [State.ov] using ov
    · simpa [State.sf] using sf
    · simpa [State.zf] using zf

/-- R510 to R512, R518 (a) -/
theorem loadLinked_links {i : Instr} {z : Size} {u : Bool} (h : exec i s = s.loadLinked z reg1 reg3) (sign : (z != .word) = u)
    (may : s.MayAccess (s.reg reg1) z.bytes [.read]) :
    ∃ t, exec i s = .next t ∧ s.NextAfter t 4 ∧ s.Frame t (only reg3) noByte 0 ∧ t.wr = s.wr ∧ t.sys = s.sys ∧ t.halt = s.halt ∧
      t.link = ⟨true, s.reg reg1, z.bytes⟩ ∧ t.Holds reg3 (s.Loaded (s.reg reg1) z u) := by
  subst sign
  have run : s.loadLinked z reg1 reg3 = .next ({ s.setReg reg3 (s.Loaded (s.reg reg1) z (z != Size.word)) with
      link := ⟨true, s.reg reg1, z.bytes⟩ }.advance 4) := by
    rw [State.loadLinked, State.access_may may, State.loaded_eq]
  have set := State.frame_setReg s reg3 (s.Loaded (s.reg reg1) z (z != Size.word)) (B := noByte) (m := 0) (only_self reg3)
  refine ⟨_, h.trans run, by simp [State.NextAfter], (set.trans (State.frame_link _ _)).trans (State.frame_advance _ _), by simp,
    by simp, by simp, by simp, ?_⟩
  exact State.holds_congr (State.holds_setReg s reg3 _) (by rw [State.advance_reg]; rfl)

theorem State.frame_dropLink (s : State) {D : Reg → Prop} {B : Word → Prop} {m : Word} : s.Frame s.dropLink D B m :=
  State.frame_link _ _

/-- R513 to R515, R518 (b), (c) -/
theorem storeConditional_stores {i : Instr} {z : Size} (wf : s.memWf) (h : exec i s = s.storeConditional z reg1 reg3)
    (may : s.MayAccess (s.reg reg1) z.bytes [.write]) :
    ∃ t, exec i s = .next t ∧ s.NextAfter t 4 ∧
      s.Frame t (only reg3) (fun b => s.link = ⟨true, s.reg reg1, z.bytes⟩ ∧ storedBytes (s.reg reg1) z.bytes b) 0 ∧ t.wr = s.wr ∧
        t.sys = s.sys ∧ t.halt = s.halt ∧ t.link.bit = false ∧
        (s.link = ⟨true, s.reg reg1, z.bytes⟩ → t.Holds reg3 1 ∧ t.Stands (s.reg reg1) z (s.reg reg3)) ∧
        (¬ s.link = ⟨true, s.reg reg1, z.bytes⟩ → t.Holds reg3 0) := by
  rw [State.storeConditional] at h
  by_cases linked : s.link = ⟨true, s.reg reg1, z.bytes⟩
  · have run := (h.trans (if_pos (State.linkMatches_iff.mpr linked))).trans (State.access_may may)
    have stored := State.frame_storeValue (D := only reg3) (m := 0) wf (s.reg reg1) z (s.reg reg3)
    obtain ⟨vectors, system, -, standby⟩ := State.units_storeValue (s := s) (s.reg reg1) z (s.reg reg3)
    refine ⟨_, run, by simp [State.NextAfter, storeAccess], ((((stored.mono (fun _ h => h) (fun _ h => ⟨linked, h⟩) rfl).trans
      (State.frame_setReg _ _ _ (only_self _))).trans (State.frame_dropLink _)).trans (State.frame_advance _ _)),
      by simpa [storeAccess] using vectors, by simpa [storeAccess] using system,
      by simpa [storeAccess] using standby, rfl, fun _ => ⟨?_, ?_⟩, fun no => absurd linked no⟩
    · exact State.holds_congr (State.holds_setReg (s.storeValue (s.reg reg1) z (s.reg reg3)) reg3 1) (by simp [storeAccess])
    · exact State.stands_congr (State.stands_storeValue wf (s.reg reg1) z (s.reg reg3)) (by simp [storeAccess])
  · have run := (h.trans (if_neg fun m => linked (State.linkMatches_iff.mp m))).trans (State.checked_ok (.inr may.1) may.2)
    have set := State.frame_setReg s reg3 0 (B := fun b => s.link = ⟨true, s.reg reg1, z.bytes⟩ ∧ storedBytes (s.reg reg1) z.bytes b)
      (m := 0) (only_self reg3)
    refine ⟨_, run, by simp [State.NextAfter], (set.trans (State.frame_dropLink _)).trans (State.frame_advance _ _), by simp, by simp,
      by simp, rfl, fun yes => absurd yes linked, fun _ => ?_⟩
    exact State.holds_congr (State.holds_setReg s reg3 0) (by simp)

end Sys2Proof.Machine

open Sys2Proof.Machine

/-- Settles O19. -/
theorem atomicAccessesExchangeAndLink : Obligations.AtomicAccessesExchangeAndLink :=
  ⟨fun _ _ _ _ wf may => caxi_completes wf may, fun s reg1 reg3 wf =>
    ⟨fun may => loadLinked_links (z := .byte) rfl rfl may, fun may => loadLinked_links (z := .half) rfl rfl may,
      fun may => loadLinked_links (z := .word) rfl rfl may, fun may => storeConditional_stores (z := .byte) wf rfl may,
      fun may => storeConditional_stores (z := .half) wf rfl may, fun may => storeConditional_stores (z := .word) wf rfl may,
      s.dropLink.advance 4, rfl, by simp [State.NextAfter], (State.frame_dropLink s).trans (State.frame_advance _ _), rfl, rfl, rfl,
      rfl⟩⟩
end

section
/-!
PROOFS. The return from an exception (60_exceptions.md R808), interrupt enable and standby (44_system.md R530, R531, R538, R539).
-/

namespace Sys2Proof.Machine

variable {s : State}

/-! ## The PSW as a context takes it -/

/-- R26: the writable bits of the host's PSW. -/
theorem State.pswMask_host (s : State) {i : Nat} (hi : i < 32) : (s.pswMask .host).getLsbD i =
    (decide (i < 8 ∨ i = 30 ∨ i = 15) || (decide (i = 16) && s.prod.hasFpu) || (decide (i = 17) && s.prod.hasFxu) ||
      (decide (20 ≤ i ∧ i < 26) && s.host.intcfg.getLsbD 1)) := by
  have all : ∀ fpu fxu epl : Bool, ∀ i < 32,
      ((0x400080FF : Word) ||| (if epl then (0x03F00000 : Word) else 0) |||
        ((if fpu then 0x10000 else 0) ||| (if fxu then 0x20000 else 0))).getLsbD i =
      (decide (i < 8 ∨ i = 30 ∨ i = 15) || (decide (i = 16) && fpu) || (decide (i = 17) && fxu) ||
        (decide (20 ≤ i ∧ i < 26) && epl)) := by decide
  exact all _ _ _ i hi

/-- R26, R128, R890: the writable bits of the guest's PSW. -/
theorem State.pswMask_guest (s : State) {i : Nat} (hi : i < 32) : (s.pswMask .guest).getLsbD i =
    (decide (i < 8 ∨ i = 30) || (decide (i = 16) && s.prod.hasFpu && s.sys.gmcfg.getLsbD 16) ||
      (decide (i = 17) && s.prod.hasFxu && s.sys.gmcfg.getLsbD 17) || (decide (20 ≤ i ∧ i < 26) && s.guest.intcfg.getLsbD 1)) := by
  have fixed : ∀ epl : Bool, ∀ i < 32, ((0x400000FF : Word) ||| (if epl then (0x03F00000 : Word) else 0)).getLsbD i =
      (decide (i < 8 ∨ i = 30) || (decide (20 ≤ i ∧ i < 26) && epl)) := by decide
  have units : ∀ fpu fxu : Bool, ∀ i < 32, ((if fpu then (0x10000 : Word) else 0) ||| (if fxu then 0x20000 else 0)).getLsbD i =
      ((decide (i = 16) && fpu) || (decide (i = 17) && fxu)) := by decide
  rw [State.pswMask, Ctx.eimaskMask, BitVec.getLsbD_or, fixed _ i hi, State.cuMask, BitVec.getLsbD_and, units _ _ i hi]
  by_cases fpu : i = 16
  · subst fpu
    simp only [decide_true, Bool.true_and, Nat.reduceEqDiff, decide_false, Bool.false_and, Bool.or_false]
    simp
  · by_cases fxu : i = 17
    · subst fxu
      simp only [decide_true, Bool.true_and, Nat.reduceEqDiff, decide_false, Bool.false_and, Bool.false_or]
      simp
    · simp [fpu, fxu]

/-- R26, R890: `State.fixPsw` is what a context's PSW takes. -/
theorem State.pswTakes_fixPsw (s : State) (m : Mode) (v : Word) : s.PswTakes m v (s.fixPsw m v) := by
  have fixed : ∀ i < 32, (0x8000 : Word).getLsbD i = decide (i = 15) := by decide
  intro i hi
  cases m with
  | host =>
    have zero : (0 : Word).getLsbD i = false := BitVec.getLsbD_zero
    have bit : (s.fixPsw .host v).getLsbD i = (v.getLsbD i && (s.pswMask .host).getLsbD i) := by
      rw [State.fixPsw, BitVec.getLsbD_or, BitVec.getLsbD_and, zero, Bool.or_false]
    rw [bit, State.pswMask_host s hi]
    split_ifs with low top fpu fxu mask
    · have writable : i < 8 ∨ i = 30 ∨ i = 15 := by omega
      simp [writable]
    · simp [top]
    · simp [fpu, Bool.and_comm]
    · simp [fxu, Bool.and_comm]
    · simp [low, top, fpu, fxu, mask, State.ctx, Bool.and_comm]
    · simp [not_or.mp low, top, fpu, fxu, mask]
  | guest =>
    have bit : (s.fixPsw .guest v).getLsbD i = ((v.getLsbD i && (s.pswMask .guest).getLsbD i) || decide (i = 15)) := by
      rw [State.fixPsw, BitVec.getLsbD_or, BitVec.getLsbD_and, fixed i hi]
    rw [bit, State.pswMask_guest s hi]
    split_ifs with low top fpu fxu mask
    · have below : i ≠ 15 := by omega
      simp [low, below]
    · simp [top]
    · simp only [fpu, decide_true, Bool.true_and]
      simp [Bool.and_comm]
    · simp only [fxu, decide_true, Bool.true_and]
      simp [Bool.and_comm]
    · simp [low, top, fpu, fxu, mask, State.ctx, Bool.and_comm]
    · simp [not_or.mp low, top, fpu, fxu, mask]

/-! ## ISPR -/

/-- A number less 1, both halved. -/
theorem pred_div_two (n : Nat) : (n - 1) / 2 = if n % 2 = 1 then n / 2 else n / 2 - 1 := by
  split <;> omega

/-- The lowest bit set is cleared, and no other. -/
theorem testBit_and_pred (n q : Nat) : (n &&& (n - 1)).testBit q = true ↔ n.testBit q = true ∧ ∃ p, p < q ∧ n.testBit p = true := by
  induction q generalizing n with
  | zero =>
    refine iff_of_false ?_ fun ⟨_, p, hp, _⟩ => absurd hp (by omega)
    rw [Nat.testBit_and, Nat.testBit_zero, Nat.testBit_zero, ← Bool.decide_and, decide_eq_true_eq]
    omega
  | succ q ih =>
    have halves : (n &&& (n - 1)).testBit (q + 1) = (n / 2 &&& (n - 1) / 2).testBit q := by
      rw [Nat.testBit_succ, Nat.and_div_two]
    rw [halves, pred_div_two, Nat.testBit_succ]
    by_cases odd : n % 2 = 1
    · rw [if_pos odd, Nat.and_self]
      exact ⟨fun h => ⟨h, 0, by omega, by simp [odd]⟩, fun h => h.1⟩
    · rw [if_neg odd, ih]
      refine and_congr_right fun _ => ⟨fun ⟨p, hp, h⟩ => ⟨p + 1, by omega, by rwa [Nat.testBit_succ]⟩, fun ⟨p, hp, h⟩ => ?_⟩
      cases p with
      | zero => simp [odd] at h
      | succ p => exact ⟨p, by omega, by rwa [Nat.testBit_succ] at h⟩

/-- R110: the highest priority is the lowest bit set. -/
theorem clearHighest_getLsbD (w : Word) (q : Nat) : (clearHighest w).getLsbD q = true ↔
    w.getLsbD q = true ∧ ∃ p, p < q ∧ w.getLsbD p = true := by
  by_cases zero : w = 0
  · subst zero
    refine iff_of_false ?_ fun h => ?_
    · simp [clearHighest]
    · simp at h
  · have value : (clearHighest w).toNat = w.toNat &&& (w.toNat - 1) := by
      have pred : (w - 1).toNat = w.toNat - 1 := by bv_omega
      rw [clearHighest, BitVec.toNat_and, pred]
    simp only [BitVec.getLsbD, value]
    exact testBit_and_pred _ _

/-! ## The return -/

/-- R808: the pc, PSW and PSWH saved at a level. -/
def Ctx.savedPc (c : Ctx) : Level → Word
  | .ei => c.eipc
  | .fe => c.fepc
@[inherit_doc Ctx.savedPc]
def Ctx.savedPsw (c : Ctx) : Level → Word
  | .ei => c.eipsw
  | .fe => c.fepsw

@[inherit_doc Ctx.savedPc]
def State.savedPswh (s : State) : Level → Word
  | .ei => s.sys.eipswh
  | .fe => s.sys.fepswh

/-- R808: the return ends an interrupt of the host. -/
def State.endsInterrupt (s : State) (l : Level) : Bool :=
  l == Level.ei && s.mode == Mode.host && !s.cur.psw.getLsbD 6 && !s.cur.intcfg.getLsbD 0 && !s.cur.intcfg.getLsbD 1

/-- R808: everything that a return changes. -/
theorem State.returnException_eq (s : State) (l : Level) : ∃ out, s.returnException l =
    { s.setCtx s.mode { s.cur with psw := s.fixPsw s.mode (s.cur.savedPsw l) } with
      sys := { s.sys with
        pswh := (s.returnException l).sys.pswh
        ispr := if s.endsInterrupt l then clearHighest s.sys.ispr else s.sys.ispr }
      pc := evenPc (s.cur.savedPc l)
      link := { s.link with bit := false }
      out := out } := by
  cases ep : s.cur.psw.getLsbD 6 with
  | true =>
    refine ⟨s.out, ?_⟩
    simp only [State.returnException, State.endsInterrupt, ep, if_true]
    cases l <;> simp [State.dropLink, Ctx.savedPsw, Ctx.savedPc]
  | false =>
    refine ⟨s.out ++ [.endOfHandling], ?_⟩
    simp only [State.returnException, State.endsInterrupt, ep, Bool.false_eq_true, if_false]
    cases l <;> simp [State.dropLink, State.emit, Ctx.savedPsw, Ctx.savedPc]

/-- R808: the three conditions on the bits of ISPR. -/
theorem State.endsInterrupt_iff (s : State) (l : Level) : s.endsInterrupt l = true ↔
    l = .ei ∧ s.mode = .host ∧ s.cur.psw.getLsbD 6 = false ∧ s.cur.intcfg.getLsbD 0 = false ∧ s.cur.intcfg.getLsbD 1 = false := by
  simp only [State.endsInterrupt, Bool.and_eq_true, beq_iff_eq, Bool.not_eq_true', and_assoc]

theorem ispr_after_return (w : Word) (ends : Bool) (q : Nat) : (if ends then clearHighest w else w).getLsbD q = true ↔
    w.getLsbD q = true ∧ (ends = true → ∃ p, p < q ∧ w.getLsbD p = true) := by
  cases ends
  · simp
  · simp only [if_true, clearHighest_getLsbD, true_implies]

/-- R808, R532, R533: what a return gives. -/
theorem State.returns_restore {i : Instr} (hum : s.um = false) (l : Level)
    (h : exec i s = s.supervisor (.next (s.returnException l))) :
    ∃ t, exec i s = .next t ∧ t.pc = evenPc (s.cur.savedPc l) ∧ s.PswTakes s.mode (s.cur.savedPsw l) (t.ctx s.mode).psw ∧
      (∀ r, r ≠ .psw → (t.ctx s.mode).get r = s.cur.get r) ∧ (∀ k, k ≠ s.mode → t.ctx k = s.ctx k) ∧
      t.sys = { s.sys with pswh := t.sys.pswh, ispr := t.sys.ispr } ∧
      t.sys.pswh = (if s.mode = .host ∧ s.hve = true then s.savedPswh l &&& 0x80000700 else s.sys.pswh) ∧
      (∀ q, q < 32 → (t.sys.ispr.getLsbD q = true ↔ s.sys.ispr.getLsbD q = true ∧
        ((l = .ei ∧ s.mode = .host ∧ s.cur.psw.getLsbD 6 = false ∧ s.cur.intcfg.getLsbD 0 = false ∧ s.cur.intcfg.getLsbD 1 = false) →
          ∃ p, p < q ∧ s.sys.ispr.getLsbD p = true))) ∧
      t.link.bit = false ∧ (∀ r, t.reg r = s.reg r) ∧ t.wr = s.wr ∧ (∀ a, t.readByte a = s.readByte a) ∧
      t.mpu = s.mpu ∧ t.cnt = s.cnt ∧ t.halt = s.halt ∧ t.prod = s.prod := by
  obtain ⟨out, e⟩ := s.returnException_eq l
  have run : exec i s = .next (s.returnException l) := h.trans (by rw [State.supervisor, hum]; rfl)
  have ctx (k : Mode) : (s.returnException l).ctx k =
      if k = s.mode then { s.cur with psw := s.fixPsw s.mode (s.cur.savedPsw l) } else s.ctx k := by
    rw [← State.setCtx_ctx, e]
    cases k <;> rfl
  have used := (ctx s.mode).trans (if_pos rfl)
  have pc := congrArg State.pc e
  have link := congrArg (fun t => t.link.bit) e
  have gpr := (congrArg State.gpr e).trans (State.setCtx_gpr ..)
  have wr := (congrArg State.wr e).trans (State.setCtx_wr ..)
  have mem := (congrArg State.mem e).trans (State.setCtx_mem ..)
  have mpu := (congrArg State.mpu e).trans (State.setCtx_mpu ..)
  have cnt := (congrArg State.cnt e).trans (State.setCtx_cnt ..)
  have halt := (congrArg State.halt e).trans (State.setCtx_halt ..)
  have prod := (congrArg State.prod e).trans (State.setCtx_prod ..)
  have ispr : (s.returnException l).sys.ispr = if s.endsInterrupt l then clearHighest s.sys.ispr else s.sys.ispr :=
    congrArg (fun t => t.sys.ispr) e
  have sys := congrArg State.sys e
  have pswh : _ = if _ then s.savedPswh l &&& _ else _ := s.returnException_pswh l
  simp only [Bool.and_eq_true, beq_iff_eq] at pswh
  generalize s.returnException l = t at *
  refine ⟨t, run, pc, used ▸ s.pswTakes_fixPsw _ _, fun r ne => ?_, fun k ne => (ctx k).trans (if_neg ne), ?_, pswh, fun q _ => ?_, link,
    fun r => ?_, wr, fun a => ?_, mpu, cnt, halt, prod⟩
  · rw [used]
    cases r
    case psw => exact absurd rfl ne
    all_goals rfl
  · rw [sys]
  · rw [ispr, ← s.endsInterrupt_iff l]
    exact ispr_after_return _ _ q
  · rw [State.reg, gpr]
    rfl
  · rw [State.readByte, mem]
    rfl

end Sys2Proof.Machine

open Sys2Proof.Machine

/-- Settles O22: both instructions are `State.returnException`. -/
theorem returnsRestoreTheSavedContext : Obligations.ReturnsRestoreTheSavedContext := by
  intro s hum
  have ei := State.returns_restore hum .ei (i := .eiret) rfl
  have fe := State.returns_restore hum .fe (i := .feret) rfl
  simp only [true_and] at ei
  simp only [reduceCtorEq, false_and, false_implies, and_true] at fe
  dsimp only
  simp only [true_and, false_and, false_implies, and_true]
  exact ⟨ei, fe⟩
end

section
/-!
PROOFS. Interrupt enable and standby (44_system.md R530, R531, R538, R539; 60_exceptions.md R831, R832).
-/

namespace Sys2Proof.Machine

variable {s : State}

/-- R530, R531 -/
theorem writeId_completes {i : Instr} {b : Bool} (h : exec i s = s.writeId b) (may : s.um = false ∨ s.sys.mctl.getLsbD 0 = true) :
    Completes i s 4 noReg noByte 0x20 fun t => t.psw.getLsbD 5 = b := by
  have run : s.writeId b = .next ((s.setPsw (putBit s.psw 5 b)).advance 4) := by
    rw [State.writeId]
    rcases may with um | uic
    · rw [um, Bool.and_false]
      rfl
    · rw [uic]
      rfl
  refine ⟨_, h.trans run, by simp [State.NextAfter],
    (State.frame_setPsw s _ (m := 0x20) (putBit_outside _ 5 (by omega) _)).trans (State.frame_advance _ _),
    ⟨by simp, by simp, by simp, by simp⟩, ?_⟩
  dsimp only
  rw [State.advance_psw, State.setPsw_psw, putBit_getLsbD _ _ _ _ (by omega), if_pos rfl]

/-- R538, R539 -/
theorem standby_stands {i : Instr} {h : Halt} (run : exec i s = .next { s.advance 4 with halt := h }) :
    ∃ t, exec i s = .next t ∧ s.NextAfter t 4 ∧ s.Frame t noReg noByte 0 ∧ t.wr = s.wr ∧ t.sys = s.sys ∧ t.link = s.link ∧ t.halt = h :=
  ⟨_, run, State.advance_pc s 4, (State.frame_advance s 4).trans (State.frame_halt _ _), rfl, rfl, rfl, rfl⟩

/-- A step that HALT or SNOOZE holds keeps the program, and a memory that others may have written. -/
theorem held_step (h : step s = .next (s.begin.finish false s.begin.pause)) {w : Halt} (halt : s.begin.pause = { s.begin with halt := w }) :
    ∃ t, step s = .next t ∧ t.halt = w ∧ t.pc = s.pc ∧ t.gpr = s.gpr ∧ t.wr = s.wr ∧ t.host = s.host ∧ t.guest = s.guest ∧
      t.sys = s.sys ∧ t.mpu = s.mpu ∧ t.mem = s.begin.mem := by
  rw [halt] at h
  obtain ⟨c, a, n, e⟩ := s.begin.finish_eq false { s.begin with halt := w }
  rw [e] at h
  exact ⟨_, h, rfl, s.begin_pc, s.begin_gpr, s.begin_wr, s.begin_host, s.begin_guest, s.begin_sys, s.begin_mpu, rfl⟩

/-- R806 (b): a step that HALT or SNOOZE holds, where no reset takes it. -/
theorem step_of_asleep (reset : s.begin.env.reset = false) (h : s.begin.wake = none) :
    step s = .next (s.begin.finish false s.begin.pause) := by
  simp only [step, reset, h, Bool.false_eq_true, if_false]

/-- R806 (b): a step of a core that runs or is released. -/
theorem step_of_awake (reset : s.begin.env.reset = false) {t : State} (h : s.begin.wake = some t) : step s = t.runStep := by
  simp only [step, reset, h, Bool.false_eq_true, if_false]

theorem halted_step (halt : s.halt = .halted) (reset : s.begin.env.reset = false) :
    (s.begin.releases = false → ∃ t, step s = .next t ∧ t.halt = .halted ∧ t.pc = s.pc ∧ t.gpr = s.gpr ∧ t.wr = s.wr ∧
      t.host = s.host ∧ t.guest = s.guest ∧ t.sys = s.sys ∧ t.mpu = s.mpu ∧ t.mem = s.begin.mem) ∧
    (s.begin.releases = true → step s = { s.begin with halt := .running }.runStep) := by
  have halt : s.begin.halt = .halted := s.begin_halt.trans halt
  have wake : s.begin.wake = if s.begin.releases then some { s.begin with halt := .running } else none := by
    rw [State.wake, halt]
  refine ⟨fun no => held_step ?_ ?_, fun yes => ?_⟩
  · exact step_of_asleep reset (by rw [wake, no]; rfl)
  · have stays : s.begin.pause = s.begin := by rw [State.pause, halt]
    rw [stays, ← halt]
  · exact step_of_awake reset (by rw [wake, yes]; rfl)

theorem snoozing_step {n : Nat} (halt : s.halt = .snoozing n) (reset : s.begin.env.reset = false) :
    (s.begin.releases = false → n ≠ 0 → ∃ t, step s = .next t ∧ t.halt = .snoozing (n - 1) ∧ t.pc = s.pc ∧ t.gpr = s.gpr ∧
      t.wr = s.wr ∧ t.host = s.host ∧ t.guest = s.guest ∧ t.sys = s.sys ∧ t.mpu = s.mpu ∧ t.mem = s.begin.mem) ∧
    (s.begin.releases = true ∨ n = 0 → step s = { s.begin with halt := .running }.runStep) := by
  have halt : s.begin.halt = .snoozing n := s.begin_halt.trans halt
  have wake : s.begin.wake = if s.begin.releases || n == 0 then some { s.begin with halt := .running } else none := by
    rw [State.wake, halt]
  refine ⟨fun no some => held_step ?_ ?_, fun yes => ?_⟩
  · exact step_of_asleep reset (by rw [wake, no, Bool.false_or, if_neg (by simpa using some)])
  · rw [State.pause, halt]
  · exact step_of_awake reset (by rw [wake, if_pos (by simpa using yes)])

/-! ## What releases a core that stands by -/

/-- R831: a request is bound to host mode, to the partition in use, or allowed in the background. -/
def State.Meant (s : State) (guest : Option (BitVec 3)) (background : Bool) : Prop :=
  guest = none ∨ (s.mode = .guest ∧ (guest = some s.gpid ∨ background = true))

/-- R831: the kinds of a request, by its partition. -/
theorem State.isSome_kind {guest : Option (BitVec 3)} {background : Bool} {a b c : IntKind} :
    (match guest with
      | none => some a
      | some g =>
        match s.mode with
        | .host => none
        | .guest => if g = s.gpid then some b else if background then some c else none).isSome = true ↔ s.Meant guest background := by
  unfold State.Meant
  cases guest with
  | none => simp
  | some g =>
    cases m : s.mode with
    | host => simp
    | guest => by_cases own : g = s.gpid <;> cases background <;> simp [own]

theorem State.feKind_isSome (q : FeRequest) : (s.feKind q).isSome = true ↔ s.Meant q.guest q.background := State.isSome_kind

theorem State.eiKind_isSome (q : EiRequest) : (s.eiKind q).isSome = true ↔ s.Meant q.guest q.background := State.isSome_kind

theorem isSome_bind {α β : Type} (x : Option α) (f : α → Option β) : (x.bind f).isSome = true ↔ ∃ a, x = some a ∧ (f a).isSome = true := by
  cases x <;> simp

/-- R831, R832: what releases a core. -/
theorem State.releases_iff (s : State) : s.releases = true ↔
    s.env.fenmi = true ∨ (∃ q, s.env.fe = some q ∧ s.Meant q.guest q.background) ∨
      (∃ q, s.env.ei = some q ∧ s.Meant q.guest q.background) ∨
        ∃ q, s.env.syserr = some q ∧ q.pending = false ∧ (q.guest = true → s.mode = .guest) := by
  simp only [State.releases, Bool.or_eq_true, isSome_bind, State.feKind_isSome, State.eiKind_isSome, Option.any_eq_true,
    Bool.and_eq_true, Bool.not_eq_true', State.syserrOccurs_iff, or_assoc]
  refine or_congr_right (or_congr_right (or_congr_right (exists_congr fun q => and_congr_right fun _ => and_congr_right fun p => ?_)))
  simp only [p, true_implies]

end Sys2Proof.Machine

open Sys2Proof.Machine

/-- Settles O23. -/
theorem interruptEnableAndStandby : Obligations.InterruptEnableAndStandby := by
  refine ⟨fun s => ⟨fun may => writeId_completes rfl may, fun may => writeId_completes rfl may, fun um => ?_, standby_stands rfl⟩,
    ⟨fun s halt reset => halted_step halt reset, fun s n halt reset => snoozing_step halt reset⟩, fun s => ?_⟩
  · exact standby_stands (show s.supervisor _ = _ by rw [State.supervisor, um]; rfl)
  · have mode : s.begin.mode = s.mode := by simp [State.mode, State.hve]
    have gpid : s.begin.gpid = s.gpid := by simp [State.gpid]
    have released := s.begin.releases_iff
    simpa only [State.Meant, mode, gpid] using released
end

section
/-!
PROOFS. The numbers and the authorities of the system registers (11_sysregs.md R70, R71, R158, R195, R196).
-/

namespace Sys2Proof.Machine

/-! ## Numbers -/

/-- R195: every register but RDBCR, with its numbers. -/
def fixedNumbers : List (Nat × Nat × SReg) :=
  numbers0 ++ numbers1 ++ numbers2 ++ numbers3to5 ++ numbers9 ++ numbers10to13 ++
    (List.finRange 8).flatMap fun n =>
      [(24 + n.val, 5, SReg.mpid n), (n.val, 14, .pmctrl n), (16 + n.val, 14, .pmcount n), (n.val, 15, .pmsubcnd n)]

theorem numbered_iff (p : Product) (regID selID : Nat) (r : SReg) : Numbered p regID selID r ↔
    (regID, selID, r) ∈ fixedNumbers ∨ (selID = 13 ∧ regID = p.rdbcrRegid.toNat ∧ regID ≠ 12 ∧ r = .rdbcr) := by
  simp only [Numbered, fixedNumbers, List.mem_append, List.mem_flatMap, List.mem_finRange, true_and, List.mem_cons, Prod.mk.injEq,
    List.not_mem_nil, or_false, or_assoc]
  have swap (n : Fin 8) : (selID = 5 ∧ regID = 24 + n ∧ r = .mpid n ∨ selID = 14 ∧ regID = n ∧ r = .pmctrl n ∨
      selID = 14 ∧ regID = 16 + n ∧ r = .pmcount n ∨ selID = 15 ∧ regID = n ∧ r = .pmsubcnd n) ↔
      (regID = 24 + n ∧ selID = 5 ∧ r = .mpid n ∨ regID = n ∧ selID = 14 ∧ r = .pmctrl n ∨
        regID = 16 + n ∧ selID = 14 ∧ r = .pmcount n ∨ regID = n ∧ selID = 15 ∧ r = .pmsubcnd n) := by
    simp only [and_left_comm]
  simp only [swap]

/-- The register that a pair of numbers names in the table. -/
def namedRegister (regID selID : Nat) : Option SReg :=
  (fixedNumbers.find? fun e => e.1 == regID && e.2.1 == selID).map (·.2.2)

/-- No two rows have the same numbers. -/
theorem fixedNumbers_distinct : fixedNumbers.Pairwise fun a b => (a.1, a.2.1) ≠ (b.1, b.2.1) := by decide +kernel

theorem find?_numbers {l : List (Nat × Nat × SReg)} (distinct : l.Pairwise fun a b => (a.1, a.2.1) ≠ (b.1, b.2.1))
    (regID selID : Nat) (r : SReg) :
    (l.find? fun e => e.1 == regID && e.2.1 == selID).map (·.2.2) = some r ↔ (regID, selID, r) ∈ l := by
  induction l with
  | nil => simp
  | cons e l ih =>
    obtain ⟨first, rest⟩ := List.pairwise_cons.mp distinct
    obtain ⟨x, y, k⟩ := e
    rw [List.find?_cons]
    by_cases here : x = regID ∧ y = selID
    · obtain ⟨rfl, rfl⟩ := here
      simp only [beq_self_eq_true, Bool.and_self, Option.map_some, Option.some.injEq, List.mem_cons, Prod.mk.injEq, true_and]
      exact ⟨fun h => .inl h.symm, fun h => h.elim Eq.symm fun m => (first (x, y, r) m rfl).elim⟩
    · have other : (x == regID && y == selID) = false := by simpa using here
      rw [other]
      dsimp only
      rw [ih rest]
      refine ⟨.tail _, fun h => ?_⟩
      rcases List.mem_cons.mp h with e | m
      · cases e
        exact absurd ⟨rfl, rfl⟩ here
      · exact m

theorem namedRegister_iff (regID selID : Nat) (r : SReg) : namedRegister regID selID = some r ↔ (regID, selID, r) ∈ fixedNumbers :=
  find?_numbers fixedNumbers_distinct regID selID r

/-- R195: `sregOf` reads the table, for every product. -/
theorem sregOf_table : ∀ selID : BitVec 5, selID ≠ 13 → ∀ regID : BitVec 5,
    sregOf .default regID selID = namedRegister regID.toNat selID.toNat := by
  decide +kernel

theorem sregOf_product (p q : Product) {regID selID : BitVec 5} (h : selID ≠ 13) : sregOf p regID selID = sregOf q regID selID := by
  have plain : plainReg p selID.toNat regID.toNat = plainReg q selID.toNat regID.toNat := by
    have other : selID.toNat ≠ 13 := fun e => h (BitVec.eq_of_toNat_eq e)
    generalize selID.toNat = a at *
    generalize regID.toNat = b
    unfold plainReg
    split <;> first | rfl | exact absurd rfl other
  simp only [sregOf, plain]

/-- R196: the two registers with selID 13. -/
theorem sregOf_13 (p : Product) (regID : BitVec 5) : sregOf p regID 13 =
    if regID.toNat = 12 then some .l1rcfg else if regID.toNat = p.rdbcrRegid.toNat then some .rdbcr else none := rfl

theorem namedRegister_13 : ∀ regID : BitVec 5, namedRegister regID.toNat 13 = if regID.toNat = 12 then some .l1rcfg else none := by
  decide +kernel

/-- R195, R196: the registers and their numbers. -/
theorem sregOf_iff_numbered (p : Product) (regID selID : BitVec 5) (r : SReg) :
    sregOf p regID selID = some r ↔ Numbered p regID.toNat selID.toNat r := by
  rw [numbered_iff, ← namedRegister_iff]
  by_cases h : selID = 13
  · subst h
    rw [sregOf_13, show (13 : BitVec 5).toNat = 13 from rfl, namedRegister_13]
    by_cases fixed : regID.toNat = 12
    · simp [fixed]
    · rw [if_neg fixed, if_neg fixed]
      simp only [reduceCtorEq, false_or, true_and, ne_eq, fixed, not_false_eq_true]
      by_cases shared : regID.toNat = p.rdbcrRegid.toNat
      · rw [if_pos shared]
        exact ⟨fun e => ⟨shared, (Option.some.inj e).symm⟩, fun h => congrArg some h.2.symm⟩
      · rw [if_neg shared]
        exact iff_of_false nofun fun h => shared h.1
  · have other : selID.toNat ≠ 13 := fun e => h (BitVec.eq_of_toNat_eq e)
    rw [sregOf_product p .default h, sregOf_table selID h]
    simp [other]

/-! ## Existence, coprocessors and authorities -/

theorem SReg.absent_iff (r : SReg) (hve : Bool) : r.absent hve = true ↔ ¬ r.Exists hve := by
  cases r <;> cases hve <;> simp [SReg.absent, SReg.Exists, SReg.classB]

theorem SReg.coproc_iff (r : SReg) (n : Nat) : r.coproc = some n ↔ r.OfCoprocessor n := by
  cases r <;> simp [SReg.coproc, SReg.OfCoprocessor, eq_comm]

/-- R158: the counter channel that a register belongs to. -/
def SReg.channel? : SReg → Option (Fin 8)
  | .pmctrl n | .pmcount n | .pmsubcnd n => some n
  | _ => none

/-- R195: the registers that need UM, and HV while HVE = 1, only. -/
theorem SReg.auth_plain (r : SReg) (h : r.channel? = none) : ∀ hve w : Bool,
    (r.auth hve w = .um ↔ r ∈ openRegisters ∨ (w = false ∧ r ∈ readableRegisters)) ∧
    (r.auth hve w = .um ∨ r.auth hve w = .sv ∨ r.auth hve w = .hv) ∧
    (r.auth true w = .hv ↔ r ∈ hvRegisters ∨ (∃ c, r = .gm c) ∨ (w = true ∧ r ∈ hvWrittenRegisters)) := by
  have gm (c : CtxReg) : (∃ d, SReg.gm c = .gm d) ↔ True := by simp
  have noGm (h : ∀ c, r ≠ .gm c) : (∃ c, r = .gm c) ↔ False := by simpa using h
  cases r
  case pmctrl | pmcount | pmsubcnd => cases h
  case gm c =>
    rw [gm]
    cases c <;> decide
  case orig c =>
    rw [noGm nofun]
    cases c <;> decide
  case mpid n =>
    rw [noGm nofun]
    clear h gm noGm
    revert n
    decide
  all_goals
    rw [noGm nofun]
    decide

variable {s : State}

theorem State.hasAuth_hv (hve : s.hve = true) : s.hasAuth .hv = true ↔ s.um = false ∧ s.mode = .host := by
  simp [State.hasAuth, State.isHv, hve, and_comm]

/-- R70, R158: the authority of a register, as its lists say. -/
theorem State.hasAuth_iff (s : State) (r : SReg) (w : Bool) : s.hasAuth (r.auth s.hve w) = true ↔ s.MayReach r w := by
  have channel (n : Fin 8) : s.hasAuth (.channel n) = true ↔
      (s.mode = .guest → s.cnt.pmgmctrl.getLsbD n = true) ∧ (s.um = true → s.cnt.pmumctrl.getLsbD n = true) := by
    rw [State.hasAuth]
    cases s.mode <;> cases s.um <;> cases s.cnt.pmgmctrl.getLsbD n <;> cases s.cnt.pmumctrl.getLsbD n <;> decide
  have plain (h : r.channel? = none) : s.hasAuth (r.auth s.hve w) = true ↔ r ∈ openRegisters ∨ (w = false ∧ r ∈ readableRegisters) ∨
      (s.um = false ∧ (s.hve = true ∧ (r ∈ hvRegisters ∨ (∃ c, r = .gm c) ∨ (w = true ∧ r ∈ hvWrittenRegisters)) → s.mode = .host)) := by
    obtain ⟨open_, kinds, raised⟩ := r.auth_plain h s.hve w
    rw [← or_assoc, ← open_, ← raised]
    cases hve : s.hve with
    | false =>
      rw [hve] at kinds
      rcases kinds with e | e | e <;> simp [e, State.hasAuth, hve]
    | true =>
      rw [hve] at kinds
      rcases kinds with e | e | e
      · simp [e, State.hasAuth]
      · simp [e, State.hasAuth]
      · rw [e, State.hasAuth_hv hve]
        simp
  cases r
  case pmctrl n | pmcount n | pmsubcnd n => exact channel n
  all_goals exact plain rfl

/-! ## LDSR and STSR without the permission -/

variable {regID selID : BitVec 5} {reg2 : Reg} {w : Bool}

/-- LDSR for a write, STSR for a read. -/
def srInstr (w : Bool) (regID selID : BitVec 5) (reg2 : Reg) : Instr := if w then .ldsr regID selID reg2 else .stsr regID selID reg2

theorem sr_pie (h : s.srAccess regID selID w = .pie) : Takes (srInstr w regID selID reg2) s .fe s.prod.causePie s.pc 0xA0 s.mode
    noCtxReg := by
  cases w
  · exact takes_pie (stsr_pie h reg2)
  · exact takes_pie (ldsr_pie h reg2)

theorem sr_ucpop {n : Nat} (h : s.srAccess regID selID w = .ucpop n) :
    Takes (srInstr w regID selID reg2) s .fe (BitVec.ofNat 32 (0x80 + n)) s.pc 0x80 s.mode noCtxReg := by
  rw [BitVec.ofNat_add]
  refine State.raise_takes ?_
  cases w
  · show execStsr regID selID reg2 s = _
    rw [execStsr, h]
    rfl
  · show execLdsr regID selID reg2 s = _
    rw [execLdsr, h]
    rfl

end Sys2Proof.Machine

open Sys2Proof.Machine

/-- Settles O25. -/
theorem registerNumbersAndAuthorities : Obligations.RegisterNumbersAndAuthorities := by
  refine ⟨sregOf_iff_numbered, fun s regID selID reg2 w => ⟨fun undefined => ?_, fun r numbered exists_ => ?_⟩⟩
  · have access := State.srAccess_undefined (s := s) (regID := regID) (selID := selID) (w := w) fun r named =>
      (r.absent_iff s.hve).mpr fun e => undefined r e ((sregOf_iff_numbered ..).mp named)
    refine ⟨fun um => ?_, fun um => ?_⟩
    · rw [um] at access
      exact ⟨access, sr_pie access⟩
    · rw [um] at access
      exact access
  · have named := (sregOf_iff_numbered s.prod regID selID r).mpr numbered
    have present : r.absent s.hve = false := Bool.eq_false_iff.mpr fun a => (r.absent_iff s.hve).mp a exists_
    refine ⟨fun n ⟨unit, off⟩ => ?_, fun usable => ?_⟩
    · have access := State.srAccess_unusable (w := w) named present ((r.coproc_iff n).mpr unit) off
      exact ⟨access, sr_ucpop access⟩
    · have access := State.srAccess_usable (w := w) named present fun n unit =>
        Bool.of_not_eq_false fun off => usable n ⟨(r.coproc_iff n).mp unit, off⟩
      refine ⟨fun may => ?_, fun may => ?_⟩
      · rw [access, if_pos ((s.hasAuth_iff r w).mpr may)]
      · rw [if_neg fun h => may ((s.hasAuth_iff r w).mp h)] at access
        exact ⟨access, sr_pie access⟩
end

section
/-!
PROOFS. LDSR and STSR complete where the access is permitted (44_system.md R540, R541).
-/

namespace Sys2Proof.Machine

variable {s t u : State}

/-! ## What a write to a system register keeps -/

/-- `t` is `s` but for the system registers, the MPU, the counters and the model's counter of free values. -/
def State.RegsOnly (s t : State) : Prop :=
  t = { s with host := t.host, guest := t.guest, sys := t.sys, mpu := t.mpu, cnt := t.cnt, free := t.free }

theorem State.RegsOnly.refl (s : State) : s.RegsOnly s := rfl

theorem State.RegsOnly.trans (h : s.RegsOnly t) (k : t.RegsOnly u) : s.RegsOnly u := by
  unfold State.RegsOnly at *
  rw [h] at k
  exact k

theorem State.RegsOnly.pc (h : s.RegsOnly t) : t.pc = s.pc := by rw [h]

theorem State.RegsOnly.sameProgram (h : s.RegsOnly t) : s.SameProgram t := by
  rw [h]
  exact ⟨fun _ => rfl, rfl, fun _ => rfl, rfl, rfl, rfl⟩

/-- The program goes on after an instruction that writes system registers only. -/
theorem State.RegsOnly.advance (h : s.RegsOnly t) (n : Nat) : s.NextAfter (t.advance n) n ∧ s.SameProgram (t.advance n) := by
  refine ⟨by rw [State.NextAfter, State.advance_pc, h.pc], ?_⟩
  obtain ⟨regs, vectors, bytes, link, standby, product⟩ := h.sameProgram
  exact ⟨regs, vectors, bytes, link, standby, product⟩

theorem State.RegsOnly.setCtx (m : Mode) (c : Ctx) : s.RegsOnly (s.setCtx m c) := by cases m <;> rfl

theorem State.RegsOnly.writeHost (x : CtxReg) (v : Word) : s.RegsOnly (s.writeHost x v) := by
  cases x
  case spid | mpm =>
    simp only [State.writeHost]
    split <;> rfl
  all_goals rfl

theorem State.RegsOnly.writeGuestOwn (x : CtxReg) (v : Word) : s.RegsOnly (s.writeGuestOwn x v) := by
  cases x
  case spid | mpm =>
    simp only [State.writeGuestOwn]
    split <;> rfl
  all_goals rfl

theorem State.RegsOnly.writeGuestFromHost (x : CtxReg) (v : Word) : s.RegsOnly (s.writeGuestFromHost x v) := by
  cases x <;> rfl

theorem State.RegsOnly.writeEntry (e : Nat) (r : EntryReg) (v : Word) : s.RegsOnly (s.writeEntry e r v) := by
  unfold State.writeEntry
  split <;> rfl

theorem State.RegsOnly.writeHvcfg (v : Word) : s.RegsOnly (s.writeHvcfg v) := by
  simp only [State.writeHvcfg]
  split
  · split <;> rfl
  · rfl

theorem State.RegsOnly.writeSr (r : SReg) (v : Word) : s.RegsOnly (s.writeSr r v) := by
  cases r
  case orig x =>
    simp only [State.writeSr]
    split
    · exact .writeHost x v
    · exact .writeGuestOwn x v
  case gm x => exact .writeGuestFromHost x v
  case hvcfg => exact .writeHvcfg v
  case mpla | mpua | mpat => exact .writeEntry _ _ _
  case ispr | mpbk | mpid =>
    simp only [State.writeSr]
    split <;> rfl
  all_goals rfl

theorem State.RegsOnly.ldsrWrite (r : SReg) (v : Word) : s.RegsOnly (s.ldsrWrite r v) := by
  unfold State.ldsrWrite
  split
  · exact .setCtx _ _
  · exact .writeSr r v

/-! ## LDSR and STSR -/

section
variable {regID selID : BitVec 5} {reg2 : Reg}

theorem ldsr_run {r : SReg} (h : s.srAccess regID selID true = .reg r) :
    exec (.ldsr regID selID reg2) s = .next ((s.ldsrWrite r (s.reg reg2)).advance 4) := by
  show execLdsr regID selID reg2 s = _
  simp only [execLdsr, h]

theorem ldsr_undefined (h : s.srAccess regID selID true = .undefined) : exec (.ldsr regID selID reg2) s = .next (s.advance 4) := by
  show execLdsr regID selID reg2 s = _
  simp only [execLdsr, h]

theorem stsr_run {r : SReg} (h : s.srAccess regID selID false = .reg r) :
    exec (.stsr regID selID reg2) s = s.plain reg2 (s.readSr r) 4 := by
  show execStsr regID selID reg2 s = _
  simp only [execStsr, h, State.plain]

theorem stsr_undefined (h : s.srAccess regID selID false = .undefined) :
    exec (.stsr regID selID reg2) s = .next (((s.setReg reg2 (Config.freeWord s.free)).skipFree 1).advance 4) := by
  show execStsr regID selID reg2 s = _
  simp only [execStsr, h]

end

/-- R26, R28: PSW has authority UM and no coprocessor. -/
theorem State.srAccess_psw (s : State) : s.srAccess 5 0 true = .reg (.orig .psw) := by
  rw [State.srAccess_usable (r := .orig .psw) rfl rfl nofun]
  rfl

end Sys2Proof.Machine

open Sys2Proof.Machine

/-- Settles O26. -/
theorem systemRegisterAccessesComplete : Obligations.SystemRegisterAccessesComplete := by
  refine ⟨fun s regID selID reg2 => ⟨fun r h => State.plain_completes (stsr_run h), fun h => ?_, fun r h => ?_, fun h => ?_⟩,
    fun s reg2 => ⟨fun um => ?_, fun um => ?_⟩⟩
  · exact ⟨_, stsr_undefined h, by simp [State.NextAfter],
      ((State.frame_setReg s _ _ (only_self _)).trans (State.frame_skipFree _ _)).trans (State.frame_advance _ _),
      ⟨by simp, by simp, by simp, by simp⟩, trivial⟩
  · exact ⟨_, ldsr_run h, (State.RegsOnly.ldsrWrite r (s.reg reg2)).advance 4⟩
  · exact .advance (ldsr_undefined h)
  · have run := ldsr_run (reg2 := reg2) s.srAccess_psw
    rw [State.ldsrWrite, if_pos ⟨rfl, um⟩] at run
    refine ⟨_, run, by simp [State.NextAfter],
      (State.frame_setPsw s _ (m := 0x1F) (putMasked_outside ..)).trans (State.frame_advance _ _), ⟨by simp, by simp, by simp, by simp⟩,
      fun i small => ?_⟩
    have low : ∀ i < 5, (0x1F : Sys2Proof.Word).getLsbD i = true := by decide
    rw [State.advance_psw, State.setPsw_psw, putMasked_getLsbD, low i small, if_pos rfl]
  · have run := ldsr_run (reg2 := reg2) s.srAccess_psw
    have write : s.ldsrWrite (.orig .psw) (s.reg reg2) =
        s.setCtx s.mode { s.cur with psw := s.fixPsw s.mode (s.reg reg2) } := by
      rw [State.ldsrWrite, if_neg fun h => by rw [um] at h; exact Bool.false_ne_true h.2, State.writeSr]
      unfold State.cur
      cases s.mode <;> rfl
    have ctx := State.setCtx_ctx s s.mode { s.cur with psw := s.fixPsw s.mode (s.reg reg2) }
    have used := (ctx s.mode).trans (if_pos rfl)
    rw [← write] at ctx used
    obtain ⟨next, program⟩ := (State.RegsOnly.ldsrWrite (s := s) (.orig .psw) (s.reg reg2)).advance 4
    have sys : (s.ldsrWrite (.orig .psw) (s.reg reg2)).sys = s.sys := by rw [write, State.setCtx_sys]
    have mpu : (s.ldsrWrite (.orig .psw) (s.reg reg2)).mpu = s.mpu := by rw [write, State.setCtx_mpu]
    refine ⟨_, run, next, program, sys, mpu, ?_, fun r ne => ?_, fun k other => (State.advance_ctx ..).trans ((ctx k).trans (if_neg other))⟩
    · rw [State.advance_ctx, used]
      exact s.pswTakes_fixPsw _ _
    · rw [State.advance_ctx, used]
      cases r
      case psw => exact absurd rfl ne
      all_goals rfl
end

section
/-!
PROOFS. What LDSR gives to one register, and that it keeps the others (11_sysregs.md R72 to R107).
-/

namespace Sys2Proof.Machine

variable {s t : State} {r : SReg} {v w : Word}

/-! ## A register written, the others kept -/

/-- `t` is `s` with `w` in the register `r`: no register but it and the `shared` ones reads otherwise. -/
structure State.Gives (s t : State) (r : SReg) (w : Word) (shared : SReg → Prop) : Prop where
  value : t.readSr r = w
  others : ∀ k, k ≠ r → ¬ shared k → t.readSr k = s.readSr k
  host : s.mode = .guest → t.host = s.host
  banks : r ∉ [SReg.mpla, .mpua, .mpat] → t.mpu.bank0 = s.mpu.bank0 ∧ t.mpu.bank1 = s.mpu.bank1

theorem State.Gives.mono {shared wider : SReg → Prop} (h : s.Gives t r w shared) (le : ∀ k, shared k → wider k) : s.Gives t r w wider :=
  ⟨h.value, fun k ne not => h.others k ne fun e => not (le k e), h.host, h.banks⟩

/-- A write that changes nothing. -/
theorem State.Gives.nothing (s : State) (r : SReg) (shared : SReg → Prop) : s.Gives s r (s.readSr r) shared :=
  ⟨rfl, fun _ _ _ => rfl, fun _ => rfl, fun _ => ⟨rfl, rfl⟩⟩

theorem State.srAccess_present {a b : BitVec 5} {write : Bool} (h : s.srAccess a b write = .reg r) : r.absent s.hve = false := by
  unfold State.srAccess at h
  split at h
  · split at h <;> cases h
  · next k present =>
    have same : k = r := by
      split at h
      · cases h
      · split at h
        · exact SrAccess.reg.inj h
        · cases h
    subst same
    simpa using (Option.filter_eq_some_iff.mp present).2

theorem State.advance_readSr (t : State) (n : Nat) (k : SReg) : (t.advance n).readSr k = t.readSr k := by
  cases k <;> rfl

/-- LDSR gives what `State.writeSr` does. -/
theorem State.Gives.ldsr {regID selID : BitVec 5} {reg2 : Reg} {shared : SReg → Prop} (access : s.srAccess regID selID true = .reg r)
    (ne : r ≠ .orig .psw) (h : s.Gives (s.writeSr r (s.reg reg2)) r w shared) :
    exec (.ldsr regID selID reg2) s = .next ((s.writeSr r (s.reg reg2)).advance 4) ∧
      s.NextAfter ((s.writeSr r (s.reg reg2)).advance 4) 4 ∧ s.SameProgram ((s.writeSr r (s.reg reg2)).advance 4) ∧
      s.Gives ((s.writeSr r (s.reg reg2)).advance 4) r w shared := by
  have run := ldsr_run (reg2 := reg2) access
  rw [State.ldsrWrite, if_neg fun e => ne e.1] at run
  obtain ⟨next, program⟩ := (State.RegsOnly.writeSr (s := s) r (s.reg reg2)).advance 4
  exact ⟨run, next, program, (State.advance_readSr ..).trans h.value,
    fun k other not => (State.advance_readSr ..).trans (h.others k other not), h.host, h.banks⟩

theorem LdsrGives.of_writeSr {x : Word → Word} {shared : SReg → Prop} {post : Word → State → Prop} (ne : r ≠ .orig .psw)
    (h : s.hasAuth (r.auth s.hve true) = true → r.absent s.hve = false →
      ∀ v, s.Gives (s.writeSr r v) r (x v) shared ∧ post v ((s.writeSr r v).advance 4)) : LdsrGives s r x shared post := by
  intro regID selID reg2 access
  obtain ⟨gives, holds⟩ := h (State.srAccess_hasAuth access) (State.srAccess_present access) (s.reg reg2)
  obtain ⟨run, next, program, value, others, host, banks⟩ := gives.ldsr access ne
  exact ⟨_, run, next, program, value, others, host, banks, holds⟩

/-! ## IMSR -/

/-- What the masks of the requests presented depend on: of the guest context only in guest mode. -/
structure State.SameMasks (s t : State) : Prop where
  env : t.env = s.env
  mode : t.mode = s.mode
  ispr : t.sys.ispr = s.sys.ispr
  psw : t.host.psw = s.host.psw
  intcfg : t.host.intcfg = s.host.intcfg
  plmr : t.host.plmr = s.host.plmr
  guest : s.mode = .guest → t.gpid = s.gpid ∧ t.guest.psw = s.guest.psw ∧ t.guest.plmr = s.guest.plmr

theorem State.SameMasks.eiKind (h : s.SameMasks t) (q : EiRequest) : t.eiKind q = s.eiKind q := by
  unfold State.eiKind
  rw [h.mode]
  cases m : s.mode with
  | host => rfl
  | guest => rw [(h.guest m).1]

theorem State.SameMasks.feKind (h : s.SameMasks t) (q : FeRequest) : t.feKind q = s.feKind q := by
  unfold State.feKind
  rw [h.mode]
  cases m : s.mode with
  | host => rfl
  | guest => rw [(h.guest m).1]

/-- R831: a guest's kind is one of guest mode. -/
theorem State.eiKind_guest {q : EiRequest} {k : IntKind} (h : s.eiKind q = some k) (ne : k ≠ .eiint) : s.mode = .guest := by
  unfold State.eiKind at h
  cases g : q.guest with
  | none => rw [g] at h; exact absurd (Option.some.inj h).symm ne
  | some g' =>
    cases m : s.mode with
    | guest => rfl
    | host => rw [g, m] at h; cases h

theorem State.feKind_guest {q : FeRequest} {k : IntKind} (h : s.feKind q = some k) (ne : k ≠ .feint) : s.mode = .guest := by
  unfold State.feKind at h
  cases g : q.guest with
  | none => rw [g] at h; exact absurd (Option.some.inj h).symm ne
  | some g' =>
    cases m : s.mode with
    | guest => rfl
    | host => rw [g, m] at h; cases h

theorem State.SameMasks.imsrEi (h : s.SameMasks t) (q : EiRequest) : t.imsrEi q = s.imsrEi q := by
  have prio : t.hostPrioMasks = s.hostPrioMasks := by
    unfold State.hostPrioMasks Ctx.eimask
    rw [h.intcfg, h.psw, h.ispr]
  have plm : t.host.plm = s.host.plm := by rw [Ctx.plm, h.plmr]; rfl
  have idb : t.host.idBit = s.host.idBit := by rw [Ctx.idBit, h.psw]; rfl
  have np : t.host.npBit = s.host.npBit := by rw [Ctx.npBit, h.psw]; rfl
  unfold State.imsrEi
  rw [h.eiKind q, prio, plm, idb, np, h.mode]
  cases e : s.eiKind q with
  | none => rfl
  | some k =>
    by_cases own : k = .eiint
    · subst own
      rfl
    · obtain ⟨-, psw, plmr⟩ := h.guest (State.eiKind_guest e own)
      have gEimask : t.guest.eimask = s.guest.eimask := by rw [Ctx.eimask, psw]; rfl
      have gPlm : t.guest.plm = s.guest.plm := by rw [Ctx.plm, plmr]; rfl
      have gIdb : t.guest.idBit = s.guest.idBit := by rw [Ctx.idBit, psw]; rfl
      have gNp : t.guest.npBit = s.guest.npBit := by rw [Ctx.npBit, psw]; rfl
      rw [gEimask, gPlm, gIdb, gNp]

theorem State.SameMasks.imsrFe (h : s.SameMasks t) (q : FeRequest) : t.imsrFe q = s.imsrFe q := by
  have idb : t.host.idBit = s.host.idBit := by rw [Ctx.idBit, h.psw]; rfl
  have np : t.host.npBit = s.host.npBit := by rw [Ctx.npBit, h.psw]; rfl
  unfold State.imsrFe
  rw [h.feKind q, idb, np, h.mode]
  cases e : s.feKind q with
  | none => rfl
  | some k =>
    by_cases own : k = .feint
    · subst own
      rfl
    · have gNp : t.guest.npBit = s.guest.npBit := by
        rw [Ctx.npBit, (h.guest (State.feKind_guest e own)).2.1]
        rfl
      rw [gNp]

/-- R111: IMSR shows the masks of the requests. -/
theorem State.SameMasks.imsr (h : s.SameMasks t) : t.imsr = s.imsr := by
  rw [State.imsr, State.imsr, h.env, funext h.imsrEi, funext h.imsrFe]

/-! ## The registers of a context -/

/-- One context register replaced, in the context in use. -/
theorem State.Gives.own {x : CtxReg} {c : Ctx} {also : List SReg} (value : c.get x = w)
    (same : ∀ y, y ≠ x → SReg.orig y ∉ also ∨ s.mode = .guest → c.get y = s.cur.get y)
    (masks : (c.psw = s.cur.psw ∧ c.plmr = s.cur.plmr ∧ (s.mode = .host → c.intcfg = s.cur.intcfg)) ∨
      (SReg.imsr ∈ also ∧ SReg.icsr ∈ also)) :
    s.Gives (s.setCtx s.mode c) (.orig x) w fun k => (s.mode = .guest ∧ k = .gm x) ∨ k ∈ also := by
  have cur : (s.setCtx s.mode c).cur = c := by rw [State.cur, State.setCtx_mode, State.setCtx_ctx_same]
  have imsr (h : c.psw = s.cur.psw ∧ c.plmr = s.cur.plmr ∧ (s.mode = .host → c.intcfg = s.cur.intcfg)) :
      (s.setCtx s.mode c).imsr = s.imsr := by
    obtain ⟨psw, plmr, intcfg⟩ := h
    have mode := State.setCtx_mode (s := s) s.mode c
    unfold State.cur at psw plmr intcfg
    cases m : s.mode with
    | host =>
      rw [m] at psw plmr intcfg mode
      exact State.SameMasks.imsr ⟨rfl, mode.trans m.symm, rfl, psw, intcfg rfl, plmr, fun g => by rw [m] at g; cases g⟩
    | guest =>
      rw [m] at psw plmr mode
      exact State.SameMasks.imsr ⟨rfl, mode.trans m.symm, rfl, rfl, rfl, rfl, fun _ => ⟨rfl, psw, plmr⟩⟩
  refine ⟨?_, fun k ne not => ?_, fun g => by rw [g]; rfl, fun _ => by rw [State.setCtx_mpu]; exact ⟨rfl, rfl⟩⟩
  · rw [State.readSr, cur, value]
  · obtain ⟨copy, listed⟩ := not_or.mp not
    cases k
    case orig y =>
      rw [State.readSr, cur]
      exact same y (fun e => ne (e ▸ rfl)) (.inl listed)
    case gm y =>
      cases m : s.mode with
      | host => rfl
      | guest =>
        have kept := same y (fun e => copy ⟨m, e ▸ rfl⟩) (.inr m)
        rwa [State.cur, m] at kept
    case imsr => exact imsr (masks.resolve_right fun h => listed h.1)
    case icsr => exact congrArg (· &&& 1) (imsr (masks.resolve_right fun h => listed h.2))
    all_goals
      cases s.mode <;> rfl

/-- One register of the guest context replaced from host mode. -/
theorem State.Gives.guestCopy {x : CtxReg} {c : Ctx} (hm : s.mode = .host) (value : c.get x = w)
    (same : ∀ y, y ≠ x → c.get y = s.guest.get y) : s.Gives { s with guest := c } (.gm x) w fun _ => False := by
  have mode : State.mode { s with guest := c } = .host := hm
  have imsr : State.imsr { s with guest := c } = s.imsr :=
    State.SameMasks.imsr ⟨rfl, rfl, rfl, rfl, rfl, rfl, fun g => by rw [hm] at g; cases g⟩
  refine ⟨value, fun k ne _ => ?_, fun _ => rfl, fun _ => ⟨rfl, rfl⟩⟩
  cases k
  case orig y => rw [State.readSr, State.readSr, State.cur, State.cur, mode, hm]; rfl
  case gm y => exact same y fun e => ne (e ▸ rfl)
  case imsr => exact imsr
  case icsr => exact congrArg (· &&& 1) imsr
  all_goals rfl

theorem Ctx.writePlain_other (c : Ctx) (x : CtxReg) (v : Word) {y : CtxReg} (ne : y ≠ x) : (c.writePlain x v).get y = c.get y := by
  cases x <;> cases y <;> first | rfl | exact absurd rfl ne

/-- The context registers that take a mask of their own in both contexts. -/
def plainContext : List (CtxReg × Word) :=
  [(.eipc, 0xFFFFFFFF), (.fepc, 0xFFFFFFFF), (.eiic, 0xFFFFFFFF), (.feic, 0xFFFFFFFF), (.eiwr, 0xFFFFFFFF), (.fewr, 0xFFFFFFFF),
    (.ebase, 0xFFFFFE03), (.intbp, 0xFFFFFE00), (.mea, 0xFFFFFFFF), (.mei, 0xF01F0F3F), (.svlock, 1), (.plmr, 0x3F)]

theorem and_allBits (v : Word) : v = v &&& 0xFFFFFFFF := (BitVec.and_allOnes (x := v)).symm

theorem Ctx.writePlain_value (c : Ctx) (v : Word) : ∀ p ∈ plainContext, (c.writePlain p.1 v).get p.1 = v &&& p.2 := by
  simp only [plainContext, List.forall_mem_cons]
  and_intros
  all_goals
    first
    | rfl
    | exact and_allBits v
    | exact fun _ h => absurd h List.not_mem_nil

/-- The registers of a context with a rule of their own. -/
def guardedContext : List CtxReg := [.psw, .spid, .spidlist, .peid, .intcfg, .mpm]

theorem plainContext_unguarded : ∀ p ∈ plainContext, p.1 ∉ guardedContext := by decide

theorem State.writeSr_own {x : CtxReg} (h : x ∉ guardedContext) (v : Word) :
    s.writeSr (.orig x) v = s.setCtx s.mode (s.cur.writePlain x v) := by
  unfold State.writeSr State.cur
  cases s.mode <;> cases x <;> first | rfl | exact absurd (by decide) h

theorem State.writeSr_guestCopy {x : CtxReg} (h : x ∉ guardedContext) (v : Word) :
    s.writeSr (.gm x) v = { s with guest := s.guest.writePlain x v } := by
  cases x <;> first | rfl | exact absurd (by decide) h

/-- A plain register of the context in use. -/
theorem State.Gives.ownPlain {x : CtxReg} {also : List SReg} (h : x ∉ guardedContext) (value : (s.cur.writePlain x v).get x = w)
    (masks : x = .plmr → SReg.imsr ∈ also ∧ SReg.icsr ∈ also) :
    s.Gives (s.writeSr (.orig x) v) (.orig x) w fun k => (s.mode = .guest ∧ k = .gm x) ∨ k ∈ also := by
  rw [State.writeSr_own h]
  refine .own value (fun y ne _ => s.cur.writePlain_other x v ne) ?_
  by_cases plmr : x = .plmr
  · exact .inr (masks plmr)
  · refine .inl ⟨s.cur.writePlain_other x v (y := .psw) fun e => h (by rw [← e]; decide),
      s.cur.writePlain_other x v (y := .plmr) (Ne.symm plmr), fun _ => s.cur.writePlain_other x v (y := .intcfg) fun e => h ?_⟩
    rw [← e]
    decide

/-! ## The registers that exist once -/

/-- The registers that exist once and take the bits of a mask. -/
def plainOnce : List (SReg × Word) :=
  [(.ctpc, 0xFFFFFFFF), (.ctpsw, 0x1F), (.ctbp, 0xFFFFFFFE), (.fpepc, 0xFFFFFFFE), (.sccfg, 0xFF), (.scbp, 0xFFFFFFFC), (.mctl, 1),
    (.snzcfg, 0xFF), (.hvsb, 0xFFFFFFFF), (.rbcr0, 0x1FFFF), (.rbcr1, 0xFFFF), (.rbnr, 0x3F), (.rbip, 0xFFFFFFF0), (.dbgen, 0x1FF),
    (.eipswh, 0x80000700), (.fepswh, 0x80000700), (.mca, 0xFFFFFFFF), (.mcs, 0xFFFFFFFF), (.mci, 0x1F), (.fxxc, 0x3F3F3F3F),
    (.fxxp, 0x1F1F1F1F), (.tsctrl, 1), (.pmumctrl, 0xFF), (.pmgmctrl, 0xFF), (.ictagl, 0xFFFFFFFF), (.ictagh, 0xFFFFFFFF),
    (.icdatl, 0xFFFFFFFF), (.icdath, 0xFFFFFFFF), (.icctrl, 0xFFFFFFFF), (.iccfg, 0xFFFFFFFF), (.icerr, 0xFFFFFFFF),
    (.lscfg, 0xFFFFFFFF), (.l1rcfg, 0xFFFFFFFF), (.rdbcr, 0xFFFFFFFF)]

theorem plainOnce_value (s : State) (v : Word) : ∀ p ∈ plainOnce, (s.writeSr p.1 v).readSr p.1 = v &&& p.2 := by
  simp only [plainOnce, List.forall_mem_cons]
  and_intros
  all_goals
    first
    | rfl
    | exact and_allBits v
    | exact fun _ h => absurd h List.not_mem_nil

theorem plainOnce_others (s : State) (v : Word) : ∀ p ∈ plainOnce, ∀ k, k ≠ p.1 → (s.writeSr p.1 v).readSr k = s.readSr k := by
  simp only [plainOnce, List.forall_mem_cons]
  and_intros
  all_goals
    first
    | exact fun _ h => absurd h List.not_mem_nil
    | exact fun k ne => by cases k <;> first | rfl | exact absurd rfl ne

theorem plainOnce_contexts (s : State) (v : Word) : ∀ p ∈ plainOnce, (s.writeSr p.1 v).host = s.host ∧
    (s.writeSr p.1 v).guest = s.guest ∧ (s.writeSr p.1 v).mpu.bank0 = s.mpu.bank0 ∧ (s.writeSr p.1 v).mpu.bank1 = s.mpu.bank1 := by
  simp only [plainOnce, List.forall_mem_cons]
  and_intros
  all_goals
    first
    | rfl
    | exact fun _ h => absurd h List.not_mem_nil

theorem State.Gives.once {p : SReg × Word} (h : p ∈ plainOnce) (v : Word) :
    s.Gives (s.writeSr p.1 v) p.1 (v &&& p.2) fun _ => False := by
  obtain ⟨host, -, banks⟩ := plainOnce_contexts s v p h
  exact ⟨plainOnce_value s v p h, fun k ne _ => plainOnce_others s v p h k ne, fun _ => host, fun _ => banks⟩

theorem plmr_not_plain (mask : Word) : (SReg.orig .plmr, mask) ∉ plainRegisters := by simp [plainRegisters]

/-- The registers of O27 are of the one kind or of the other. -/
theorem plainRegisters_kinds : ∀ p ∈ plainRegisters, (∃ q ∈ plainContext, p = (.orig q.1, q.2)) ∨ p ∈ plainOnce := by decide

end Sys2Proof.Machine

open Sys2Proof.Machine

/-- Settles O27: a plain register is one of the context in use or exists once. -/
theorem ldsrReachesOneRegister : Obligations.LdsrReachesOneRegister := by
  intro s regID selID reg2 r mask plain access
  rcases plainRegisters_kinds _ plain with ⟨⟨x, m⟩, own, e⟩ | once
  · obtain ⟨rfl, rfl⟩ := Prod.mk.inj e
    have unguarded := plainContext_unguarded _ own
    have write := State.writeSr_own (s := s) unguarded (s.reg reg2)
    have gives : s.Gives (s.writeSr (.orig x) (s.reg reg2)) (.orig x) (s.reg reg2 &&& mask)
        fun k => (s.mode = .guest ∧ k = .gm x) ∨ k ∈ [] :=
      .ownPlain unguarded (Ctx.writePlain_value s.cur _ _ own) fun e => absurd plain (by rw [e]; exact plmr_not_plain mask)
    obtain ⟨run, next, program, value, others, host, banks⟩ := gives.ldsr access fun e => unguarded (by cases e; exact List.mem_cons_self)
    have mpu := banks (by simp)
    refine ⟨_, run, next, program, value, fun k ne copy => others k ne ?_, fun hm => ?_, host, mpu⟩
    · rintro (⟨guest, e⟩ | none)
      · exact copy x rfl guest e
      · cases none
    · show (s.writeSr (.orig x) (s.reg reg2)).guest = s.guest
      rw [write, hm]
      rfl
  · obtain ⟨run, next, program, value, others, host, banks⟩ := (State.Gives.once once (s.reg reg2)).ldsr access fun e => by
      cases e; exact absurd once (by simp [plainOnce])
    obtain ⟨-, guest, mpu⟩ := plainOnce_contexts s (s.reg reg2) _ once
    exact ⟨_, run, next, program, value, fun k ne _ => others k ne id, fun _ => guest, host, mpu⟩
end

section
/-!
PROOFS. LDSR to the registers with a rule of their own: those of the contexts, the counters and the read-only ones (11_sysregs.md R73 to
R128).
-/

namespace Sys2Proof.Machine

variable {s : State} {v w : Word}

/-! ## Rules of one register -/

theorem LdsrGives.of_gives {r : SReg} {x : Word → Word} {shared : SReg → Prop} (ne : r ≠ .orig .psw)
    (h : ∀ v, s.Gives (s.writeSr r v) r (x v) shared) : LdsrGives s r x shared fun _ _ => True :=
  .of_writeSr ne fun _ _ v => ⟨h v, trivial⟩

/-- R122, R195: a guest copy is written from host mode. -/
theorem State.guestCopy_host {x : CtxReg} (auth : s.hasAuth ((SReg.gm x).auth s.hve true) = true)
    (present : (SReg.gm x).absent s.hve = false) : s.mode = .host := by
  have hve : s.hve = true := Bool.of_not_eq_false fun e => by rw [SReg.absent, e] at present; cases present
  exact ((State.hasAuth_hv hve).mp auth).2

theorem LdsrGives.of_guestCopy {x : CtxReg} {f : Word → Word} {post : Word → State → Prop}
    (h : s.mode = .host → ∀ v, s.Gives (s.writeSr (.gm x) v) (.gm x) (f v) (fun _ => False) ∧ post v ((s.writeSr (.gm x) v).advance 4)) :
    LdsrGives s (.gm x) f (fun _ => False) post :=
  .of_writeSr nofun fun auth present => h (State.guestCopy_host auth present)

/-- A guest copy that takes a mask of its own. -/
theorem State.Gives.guestPlain {x : CtxReg} (hm : s.mode = .host) (h : x ∉ guardedContext) (value : (s.guest.writePlain x v).get x = w) :
    s.Gives (s.writeSr (.gm x) v) (.gm x) w fun _ => False := by
  rw [State.writeSr_guestCopy h]
  exact .guestCopy hm value fun y ne => s.guest.writePlain_other x v ne

/-- R74: EIMASK of a saved PSW can be other than 0 only with EPL = 1. -/
theorem Ctx.savedPswMask_eq (c : Ctx) : c.savedPswMask = if c.intcfg.getLsbD 1 then 0x43F380FF else 0x400380FF := by
  rw [Ctx.savedPswMask, Ctx.eimaskMask]
  cases c.intcfg.getLsbD 1 <;> rfl

theorem savedPsw_value (c : Ctx) (v : Word) : ∀ x ∈ [CtxReg.eipsw, .fepsw],
    (c.writePlain x v).get x = v &&& if c.intcfg.getLsbD 1 then 0x43F380FF else 0x400380FF := by
  rw [← c.savedPswMask_eq]
  simp only [List.forall_mem_cons]
  exact ⟨rfl, rfl, fun _ h => absurd h List.not_mem_nil⟩

theorem guestCopies_kinds : ∀ p ∈ guestCopies,
    (∃ q ∈ plainContext, p = (.gm q.1, q.2)) ∨ p = (.gm .peid, 0x1F) ∨ p = (.gm .mpm, 7) := by decide

theorem spidBits (v : Word) : (v.extractLsb' 0 5).toNat = v.toNat % 32 := by simp [BitVec.extractLsb'_toNat]

/-- R90: SPID takes a value of the list. -/
theorem Ctx.writeSpid_spid (c : Ctx) (list v : Word) :
    (c.writeSpid list v).spid = if list.getLsbD (v.toNat % 32) then v &&& 0x1F else c.spid := by
  rw [Ctx.writeSpid, spidBits]
  split <;> rfl

theorem Ctx.writeSpid_other (c : Ctx) (list v : Word) {y : CtxReg} (ne : y ≠ .spid) : (c.writeSpid list v).get y = c.get y := by
  unfold Ctx.writeSpid
  split
  · cases y <;> first | rfl | exact absurd rfl ne
  · rfl

theorem putMasked_swap (w m v : Word) : putMasked w m v = v &&& m ||| w &&& ~~~m := BitVec.or_comm ..

/-- R71 to R128: the registers that LDSR does not change. -/
def readOnlyRegisters : List SReg := [.orig .spidlist, .orig .peid, .pswh, .rbase, .pid, .bmid, .imsr, .icsr, .fxinfo]

theorem writeSr_readOnly (s : State) (v : Word) : ∀ r ∈ readOnlyRegisters, s.writeSr r v = s := by
  have own (x : CtxReg) (h : s.writeHost x v = s) (g : s.writeGuestOwn x v = s) : s.writeSr (.orig x) v = s := by
    unfold State.writeSr
    cases s.mode
    · exact h
    · exact g
  simp only [readOnlyRegisters, List.forall_mem_cons]
  exact ⟨own _ rfl rfl, own _ rfl rfl, rfl, rfl, rfl, rfl, rfl, rfl, rfl, fun _ h => absurd h List.not_mem_nil⟩

theorem fullWords_once : ∀ r ∈ [SReg.ictagl, .ictagh, .icdatl, .icdath, .icctrl, .iccfg, .icerr, .lscfg, .l1rcfg, .rdbcr],
    (r, (0xFFFFFFFF : Word)) ∈ plainOnce := by decide

theorem lowWord_append (hi lo : Word) : (hi ++ lo).extractLsb' 0 32 = lo := by
  refine BitVec.eq_of_getLsbD_eq fun i small => ?_
  rw [BitVec.getLsbD_extractLsb', BitVec.getLsbD_append]
  simp [small]

theorem highWord_append (hi lo : Word) : (hi ++ lo).extractLsb' 32 32 = hi := by
  refine BitVec.eq_of_getLsbD_eq fun i small => ?_
  rw [BitVec.getLsbD_extractLsb', BitVec.getLsbD_append]
  simp [small]

theorem tscountl_gives (s : State) (v : Word) : s.Gives (s.writeSr .tscountl v) .tscountl v fun _ => False := by
  refine ⟨lowWord_append _ _, fun k ne _ => ?_, fun _ => rfl, fun _ => ⟨rfl, rfl⟩⟩
  cases k
  case tscountl => exact absurd rfl ne
  case tscounth => exact highWord_append _ _
  all_goals rfl

theorem tscounth_gives (s : State) (v : Word) : s.Gives (s.writeSr .tscounth v) .tscounth v fun _ => False := by
  refine ⟨highWord_append _ _, fun k ne _ => ?_, fun _ => rfl, fun _ => ⟨rfl, rfl⟩⟩
  cases k
  case tscounth => exact absurd rfl ne
  case tscountl => exact lowWord_append _ _
  all_goals rfl

/-- R155, R156: the registers of one counter channel. -/
theorem counter_gives (s : State) (n : Fin 8) (v : Word) :
    s.Gives (s.writeSr (.pmctrl n) v) (.pmctrl n) (v &&& if s.hve then 0x01FFFF03 else 0x0000FF03) (fun _ => False) ∧
      s.Gives (s.writeSr (.pmcount n) v) (.pmcount n) v (fun _ => False) ∧
      s.Gives (s.writeSr (.pmsubcnd n) v) (.pmsubcnd n) v fun _ => False := by
  have same (x : Vector Word 8) (w : Word) : (x.set n w)[n] = w := Vector.getElem_set_self ..
  have other (x : Vector Word 8) (w : Word) {k : Fin 8} (ne : k ≠ n) : (x.set n w)[k] = x[k] :=
    Vector.getElem_set_ne _ _ fun e => ne (Fin.ext e.symm)
  refine ⟨⟨same _ _, fun k ne _ => ?_, fun _ => rfl, fun _ => ⟨rfl, rfl⟩⟩, ⟨same _ _, fun k ne _ => ?_, fun _ => rfl, fun _ => ⟨rfl, rfl⟩⟩,
    ⟨same _ _, fun k ne _ => ?_, fun _ => rfl, fun _ => ⟨rfl, rfl⟩⟩⟩
  · cases k
    case pmctrl k => exact other _ _ fun e => ne (e ▸ rfl)
    all_goals rfl
  · cases k
    case pmcount k => exact other _ _ fun e => ne (e ▸ rfl)
    all_goals rfl
  · cases k
    case pmsubcnd k => exact other _ _ fun e => ne (e ▸ rfl)
    all_goals rfl

/-! ## The context in use -/

/-- R90, R99: SPID in the context in use. -/
theorem spid_gives (s : State) (v : Word) : s.Gives (s.writeSr (.orig .spid) v) (.orig .spid)
    (if s.cur.svlock.getLsbD 0 = false ∧ s.cur.spidlist.getLsbD (v.toNat % 32) = true then v &&& 0x1F else s.cur.spid)
    fun k => (s.mode = .guest ∧ k = .gm .spid) ∨ k ∈ [] := by
  have write : s.writeSr (.orig .spid) v = s.setCtx s.mode (if s.locked then s.cur else s.cur.writeSpid s.cur.spidlist v) := by
    have kept : s = s.setCtx s.mode s.cur := by unfold State.cur; cases s.mode <;> rfl
    cases lock : s.locked
    · unfold State.writeSr State.writeHost State.writeGuestOwn State.cur
      rw [lock]
      cases s.mode <;> rfl
    · unfold State.writeSr State.writeHost State.writeGuestOwn
      rw [lock]
      cases m : s.mode <;> rw [m] at kept <;> exact kept
  rw [write]
  cases lock : s.cur.svlock.getLsbD 0
  · have free : s.locked = false := lock
    rw [free]
    simp only [Bool.false_eq_true, if_false, true_and]
    exact .own (Ctx.writeSpid_spid ..) (fun y ne _ => Ctx.writeSpid_other _ _ _ ne)
      (.inl ⟨Ctx.writeSpid_other _ _ _ (y := .psw) nofun, Ctx.writeSpid_other _ _ _ (y := .plmr) nofun,
        fun _ => Ctx.writeSpid_other _ _ _ (y := .intcfg) nofun⟩)
  · have closed : s.locked = true := lock
    rw [closed]
    simp only [if_true, Bool.true_eq_false, false_and, if_false]
    exact .own rfl (fun y _ _ => rfl) (.inl ⟨rfl, rfl, fun _ => rfl⟩)

/-- R108, R125: MPM in the context in use. -/
theorem mpm_gives (s : State) (v : Word) : s.Gives (s.writeSr (.orig .mpm) v) (.orig .mpm)
    (if s.cur.svlock.getLsbD 0 then s.cur.mpm else if s.mode = .host then v &&& 3 else v &&& 3 ||| s.cur.mpm &&& 0xFFFFFFFC)
    fun k => (s.mode = .guest ∧ k = .gm .mpm) ∨ k ∈ [] := by
  have write : s.writeSr (.orig .mpm) v = s.setCtx s.mode { s.cur with mpm :=
      (if s.cur.svlock.getLsbD 0 then s.cur.mpm else if s.mode = .host then v &&& 3 else v &&& 3 ||| s.cur.mpm &&& 0xFFFFFFFC) } := by
    unfold State.writeSr State.writeHost State.writeGuestOwn State.locked
    cases lock : s.cur.svlock.getLsbD 0
    · unfold State.cur
      cases s.mode
      · rfl
      · exact congrArg (fun w => { s with guest := { s.guest with mpm := w } }) (putMasked_swap ..)
    · unfold State.cur
      cases s.mode <;> rfl
  rw [write]
  exact .own rfl (fun y ne _ => by cases y <;> first | rfl | exact absurd rfl ne) (.inl ⟨rfl, rfl, fun _ => rfl⟩)

theorem guestIntcfg_gives (hm : s.mode = .guest) (v : Word) : s.Gives (s.writeSr (.orig .intcfg) v) (.orig .intcfg)
    (v &&& 0x003F0000 ||| s.cur.intcfg &&& 0xFFC0FFFF) fun k => (s.mode = .guest ∧ k = .gm .intcfg) ∨ k ∈ [] := by
  have write : s.writeSr (.orig .intcfg) v = s.setCtx s.mode { s.cur with intcfg := v &&& 0x003F0000 ||| s.cur.intcfg &&& 0xFFC0FFFF } := by
    unfold State.writeSr State.cur
    rw [hm]
    exact congrArg (fun w => { s with guest := { s.guest with intcfg := w } }) (putMasked_swap ..)
  rw [write]
  exact .own rfl (fun y ne _ => by cases y <;> first | rfl | exact absurd rfl ne) (.inl ⟨rfl, rfl, fun h => by rw [hm] at h; cases h⟩)

/-- R113: bit 1 of INTCFG is EPL. -/
theorem hostIntcfg_epl (mh2 : Bool) (v : Word) : (hostIntcfg mh2 v).getLsbD 1 = (mh2 && v.getLsbD 1) := by
  have high : (0x003F0000 : Word).getLsbD 1 = false := rfl
  have two : (2 : Word).getLsbD 1 = true := rfl
  have one : (1 : Word).getLsbD 1 = false := rfl
  unfold hostIntcfg
  dsimp only
  rw [BitVec.getLsbD_or, BitVec.getLsbD_and, high, Bool.and_false, Bool.false_or]
  cases mh2 && v.getLsbD 1
  · rw [if_neg Bool.false_ne_true, BitVec.getLsbD_and, one, Bool.and_false]
  · rw [if_pos rfl, two]

/-- R113, R73: the host's INTCFG, and the EIMASK fields that EPL = 0 clears. -/
theorem hostIntcfg_gives (hm : s.mode = .host) (v : Word) :
    s.Gives (s.writeSr (.orig .intcfg) v) (.orig .intcfg) (v &&& 0x003F0000 ||| if s.isMh2 && v.getLsbD 1 then 2 else v &&& 1)
      (fun k => (s.mode = .guest ∧ k = .gm .intcfg) ∨ k ∈ [.orig .psw, .orig .eipsw, .orig .fepsw, .imsr, .icsr]) ∧
    (s.writeSr (.orig .intcfg) v).host = Ctx.dropEimask { s.host with intcfg := hostIntcfg s.isMh2 v } := by
  have write : s.writeSr (.orig .intcfg) v = s.setCtx s.mode (Ctx.dropEimask { s.cur with intcfg := hostIntcfg s.isMh2 v }) := by
    unfold State.writeSr State.cur
    rw [hm]
    rfl
  have intcfg (c : Ctx) : c.dropEimask.intcfg = c.intcfg := by unfold Ctx.dropEimask; split <;> rfl
  refine ⟨?_, ?_⟩
  · rw [write]
    refine .own (intcfg _) (fun y ne kept => ?_) (.inr ⟨by decide, by decide⟩)
    have listed : SReg.orig y ∉ [SReg.orig .psw, .orig .eipsw, .orig .fepsw, .imsr, .icsr] :=
      kept.resolve_right fun h => by rw [hm] at h; cases h
    unfold Ctx.dropEimask
    split <;> cases y <;> first | rfl | exact absurd rfl ne | exact absurd (by decide) listed
  · rw [write, hm, State.cur, hm]
    rfl

theorem Ctx.dropEimask_psws (c : Ctx) : c.dropEimask.psw = (if c.intcfg.getLsbD 1 then c.psw else c.psw &&& 0xFC0FFFFF) ∧
    c.dropEimask.eipsw = (if c.intcfg.getLsbD 1 then c.eipsw else c.eipsw &&& 0xFC0FFFFF) ∧
    c.dropEimask.fepsw = (if c.intcfg.getLsbD 1 then c.fepsw else c.fepsw &&& 0xFC0FFFFF) := by
  unfold Ctx.dropEimask
  split <;> exact ⟨rfl, rfl, rfl⟩

end Sys2Proof.Machine
end

section
/-!
PROOFS. LDSR to HVCFG, GMCFG, ISPR and the MPU (11_sysregs.md R103, R104, R110, 21_mpu.md R251 to R259).
-/

namespace Sys2Proof.Machine

variable {s t : State} {v w : Word}

/-! ## HVCFG, GMCFG, ISPR -/

/-- Registers that no context, PSWH or request holds: read alike where the rest is alike. -/
theorem State.readSr_hostMode {shared : SReg → Prop} {r : SReg} (hs : s.mode = .host) (ht : t.mode = .host) (host : t.host = s.host)
    (env : t.env = s.env) (ispr : t.sys.ispr = s.sys.ispr)
    (rest : ∀ k, k ≠ r → ¬ shared k → (∀ c, k ≠ .orig c) → k ≠ .imsr → k ≠ .icsr → t.readSr k = s.readSr k) :
    ∀ k, k ≠ r → ¬ shared k → t.readSr k = s.readSr k := by
  have imsr : t.imsr = s.imsr :=
    State.SameMasks.imsr ⟨env, ht.trans hs.symm, ispr, by rw [host], by rw [host], by rw [host], fun g => by rw [hs] at g; cases g⟩
  intro k ne not
  cases k
  case orig c => rw [State.readSr, State.readSr, State.cur, State.cur, hs, ht, State.ctx, State.ctx, host]
  case imsr => exact imsr
  case icsr => exact congrArg (· &&& 1) imsr
  all_goals exact rest _ ne not nofun nofun nofun

theorem State.mode_congr (hve : t.hve = s.hve) (pswh : t.sys.pswh = s.sys.pswh) : t.mode = s.mode := by
  rw [State.mode, State.mode, hve, pswh]

/-- R103, R195: HVCFG is written from host mode. -/
theorem State.raised_host (auth : s.hasAuth (if s.hve then .hv else .sv) = true) : s.mode = .host := by
  cases hve : s.hve
  · simp [State.mode, hve]
  · rw [hve, if_pos rfl] at auth
    exact ((State.hasAuth_hv hve).mp auth).2

theorem hvcfg_gives (hm : s.mode = .host) (v : Word) :
    s.Gives (s.writeSr .hvcfg v) .hvcfg (if s.hasHv = true ∧ v.getLsbD 0 = true then 1 else 0)
      fun k => k.classB ∨ k = .mpcfg ∨ k = .mcr := by
  have zeroHost {u : State} (h : u.sys.pswh = 0) : u.mode = .host := by
    have bit : (0 : Word).getLsbD 31 = false := rfl
    rw [State.mode, h, bit, Bool.and_false]
    rfl
  show s.Gives (s.writeHvcfg v) _ _ _
  unfold State.writeHvcfg
  cases new : s.hasHv && v.getLsbD 0
  · have off : ¬ (s.hasHv = true ∧ v.getLsbD 0 = true) := fun h => by rw [h.1, h.2] at new; cases new
    rw [if_neg off]
    refine ⟨rfl, State.readSr_hostMode hm (zeroHost rfl) rfl rfl rfl fun k ne not noCtx noImsr noIcsr => ?_, fun _ => rfl,
      fun _ => ⟨rfl, rfl⟩⟩
    cases k
    case hvcfg => exact absurd rfl ne
    case orig c => exact absurd rfl (noCtx c)
    case imsr => exact absurd rfl noImsr
    case icsr => exact absurd rfl noIcsr
    case pswh => exact absurd (.inl (.inr (by decide))) not
    case mpcfg => exact absurd (.inr (.inl rfl)) not
    case mcr => exact absurd (.inr (.inr rfl)) not
    all_goals rfl
  · have on : s.hasHv = true ∧ v.getLsbD 0 = true := by simpa using new
    rw [if_pos on]
    cases hve : s.hve
    · refine ⟨rfl, State.readSr_hostMode hm (zeroHost rfl) rfl rfl rfl fun k ne not noCtx noImsr noIcsr => ?_, fun _ => rfl,
        fun _ => ⟨rfl, rfl⟩⟩
      cases k
      case hvcfg => exact absurd rfl ne
      case orig c => exact absurd rfl (noCtx c)
      case imsr => exact absurd rfl noImsr
      case icsr => exact absurd rfl noIcsr
      case gm c => exact absurd (.inl (.inl ⟨c, rfl⟩)) not
      case pswh | eipswh | fepswh | gmcfg | hvsb | dbgen | pmgmctrl => exact absurd (.inl (.inr (by decide))) not
      all_goals rfl
    · have on : State.hve { s with sys := { s.sys with hvcfg := 1 } } = s.hve :=
        (show (1 : Word).getLsbD 0 = true by decide).trans hve.symm
      have mode := (State.mode_congr on rfl).trans hm
      refine ⟨rfl, State.readSr_hostMode hm mode rfl rfl rfl fun k ne not noCtx noImsr noIcsr => ?_, fun _ => rfl, fun _ => ⟨rfl, rfl⟩⟩
      cases k
      case hvcfg => exact absurd rfl ne
      case orig c => exact absurd rfl (noCtx c)
      case imsr => exact absurd rfl noImsr
      case icsr => exact absurd rfl noIcsr
      all_goals rfl

/-- R71, R103, 21_mpu.md R259: what HVE does to the rest. -/
theorem hvcfg_effects (s : State) (v : Word) : if s.hasHv = true ∧ v.getLsbD 0 = true then
      (s.writeHvcfg v).mpu = s.mpu ∧ if s.hve then (s.writeHvcfg v).guest = s.guest ∧
        (s.writeHvcfg v).sys = { s.sys with hvcfg := 1 } ∧ (s.writeHvcfg v).cnt = s.cnt else (s.writeHvcfg v).sys.pswh = 0
    else (s.writeHvcfg v).guest = s.guest ∧ (s.writeHvcfg v).cnt = s.cnt ∧
      (s.writeHvcfg v).sys = { s.sys with hvcfg := 0, pswh := 0 } ∧
      (s.writeHvcfg v).mpu = { s.mpu with mpcfg := s.mpu.mpcfg &&& 0xFFFFC0FF, mcr := s.mpu.mcr &&& 0x13F } := by
  unfold State.writeHvcfg
  cases new : s.hasHv && v.getLsbD 0
  · have off : ¬ (s.hasHv = true ∧ v.getLsbD 0 = true) := fun h => by rw [h.1, h.2] at new; cases new
    rw [if_neg off]
    exact ⟨rfl, rfl, rfl, rfl⟩
  · have on : s.hasHv = true ∧ v.getLsbD 0 = true := by simpa using new
    rw [if_pos on]
    cases s.hve
    · exact ⟨rfl, rfl⟩
    · exact ⟨rfl, rfl, rfl, rfl⟩

/-- R104 -/
theorem gmcfg_gives (hm : s.mode = .host) (v : Word) : s.Gives (s.writeSr .gmcfg v) .gmcfg (v &&& 0x00030013) (· = .gm .psw) := by
  have mode : (s.writeGmcfg v).mode = .host := hm
  refine ⟨rfl, State.readSr_hostMode hm mode rfl rfl rfl fun k ne not noCtx noImsr noIcsr => ?_, fun _ => rfl, fun _ => ⟨rfl, rfl⟩⟩
  cases k
  case gmcfg => exact absurd rfl ne
  case orig c => exact absurd rfl (noCtx c)
  case imsr => exact absurd rfl noImsr
  case icsr => exact absurd rfl noIcsr
  case gm c =>
    cases c
    case psw => exact absurd rfl not
    all_goals rfl
  all_goals rfl

/-- R110 -/
theorem ispr_gives (s : State) (v : Word) : s.Gives (s.writeSr .ispr v) .ispr
    (if s.cur.intcfg.getLsbD 0 then v &&& 0xFFFF else s.sys.ispr) (· ∈ [.imsr, .icsr]) := by
  show s.Gives (if s.cur.intcfg.getLsbD 0 then { s with sys := { s.sys with ispr := v &&& 0xFFFF } } else s) _ _ _
  cases s.cur.intcfg.getLsbD 0
  · exact .nothing s .ispr _
  · refine ⟨rfl, fun k ne not => ?_, fun _ => rfl, fun _ => ⟨rfl, rfl⟩⟩
    cases k
    case ispr => exact absurd rfl ne
    case imsr | icsr => exact absurd (by decide) not
    all_goals rfl

/-! ## The MPU -/

/-- Only registers of the MPU differ. -/
theorem State.Gives.mpu {m : Mpu} {r : SReg} {shared : SReg → Prop}
    (value : State.readSr { s with mpu := m } r = w)
    (others : ∀ k, k ≠ r → ¬ shared k → k ∈ [SReg.mpcfg, .mca, .mcs, .mcr, .mci, .mpidx, .mpbk, .mpla, .mpua, .mpat] ∨ (∃ n, k = .mpid n) →
      State.readSr { s with mpu := m } k = s.readSr k)
    (banks : r ∉ [SReg.mpla, .mpua, .mpat] → m.bank0 = s.mpu.bank0 ∧ m.bank1 = s.mpu.bank1) :
    s.Gives { s with mpu := m } r w shared := by
  refine ⟨value, fun k ne not => ?_, fun _ => rfl, banks⟩
  cases k
  case mpid n => exact others _ ne not (.inr ⟨n, rfl⟩)
  case mpcfg | mca | mcs | mcr | mci | mpidx | mpbk | mpla | mpua | mpat => exact others _ ne not (.inl (by decide))
  all_goals rfl

theorem mpcfg_gives (s : State) (v : Word) : s.Gives (s.writeSr .mpcfg v) .mpcfg
    (s.mpu.mpcfg &&& 0xFFFFC0FF ||| if s.hve then v &&& 0x3F00 else 0) fun _ => False := by
  refine .mpu ?_ (fun k ne _ h => ?_) fun _ => ⟨rfl, rfl⟩
  · show putMasked s.mpu.mpcfg 0x3F00 (if s.hve then v else 0) = _
    cases s.hve
    · exact congrArg (s.mpu.mpcfg &&& 0xFFFFC0FF ||| ·) BitVec.zero_and
    · rfl
  · cases k <;> first | rfl | exact absurd rfl ne

theorem mcr_gives (s : State) (v : Word) : s.Gives (s.writeSr .mcr v) .mcr (v &&& if s.hve then 0x3F3F013F else 0x13F) fun _ => False := by
  refine .mpu rfl (fun k ne _ h => ?_) fun _ => ⟨rfl, rfl⟩
  cases k <;> first | rfl | exact absurd rfl ne

theorem Mpu.index_eq (m : Mpu) : m.index = m.mpidx.toNat % 32 := spidBits m.mpidx

/-- R253: the window shows the entry selected. -/
theorem mpidx_gives (s : State) (v : Word) : s.Gives (s.writeSr .mpidx v) .mpidx (v &&& 0x1F) (· ∈ [.mpla, .mpua, .mpat]) ∧
    (s.writeSr .mpidx v).mpu.index = v.toNat % 32 := by
  refine ⟨.mpu rfl (fun k ne not h => ?_) fun _ => ⟨rfl, rfl⟩, ?_⟩
  · cases k
    case mpidx => exact absurd rfl ne
    case mpla | mpua | mpat => exact absurd (by decide) not
    all_goals rfl
  · have low : (v &&& 0x1F).toNat = v.toNat % 32 := by
      rw [BitVec.toNat_and]
      exact Nat.and_two_pow_sub_one_eq_mod _ 5
    exact (Mpu.index_eq _).trans (show (v &&& 0x1F).toNat % 32 = _ by rw [low, Nat.mod_mod])

/-- R254: the window shows the bank selected. -/
theorem mpbk_gives (s : State) (v : Word) : s.Gives (s.writeSr .mpbk v) .mpbk
    (if s.cur.svlock.getLsbD 0 then s.mpu.mpbk else if s.prod.mpuTwoBanks then v &&& 1 else 0) (· ∈ [.mpla, .mpua, .mpat]) ∧
    (s.cur.svlock.getLsbD 0 = true → (s.writeSr .mpbk v).mpu = s.mpu) := by
  show s.Gives (if s.locked then s else { s with mpu := { s.mpu with mpbk := if s.prod.mpuTwoBanks then v &&& 1 else 0 } }) _ _ _ ∧
    (_ → (if s.locked then s else { s with mpu := { s.mpu with mpbk := if s.prod.mpuTwoBanks then v &&& 1 else 0 } }).mpu = s.mpu)
  unfold State.locked
  cases s.cur.svlock.getLsbD 0
  · refine ⟨.mpu rfl (fun k ne not h => ?_) fun _ => ⟨rfl, rfl⟩, nofun⟩
    cases k
    case mpbk => exact absurd rfl ne
    case mpla | mpua | mpat => exact absurd (by decide) not
    all_goals rfl
  · exact ⟨.nothing s .mpbk _, fun _ => rfl⟩

theorem mpid_gives (s : State) (n : Fin 8) (v : Word) : s.Gives (s.writeSr (.mpid n) v) (.mpid n)
    (if s.cur.svlock.getLsbD 0 then s.mpu.mpid[n] else v &&& 0x1F) fun _ => False := by
  show s.Gives (if s.locked then s else { s with mpu := { s.mpu with mpid := s.mpu.mpid.set n (v &&& 0x1F) } }) _ _ _
  unfold State.locked
  cases s.cur.svlock.getLsbD 0
  · refine .mpu (Vector.getElem_set_self ..) (fun k ne _ h => ?_) fun _ => ⟨rfl, rfl⟩
    cases k
    case mpid k => exact Vector.getElem_set_ne n.isLt k.isLt fun e => ne (congrArg SReg.mpid (Fin.ext e.symm))
    all_goals rfl
  · exact .nothing s (.mpid n) _

/-! ## The entries -/

/-- R255: an entry replaced, and the others. -/
theorem Mpu.setEntry_entry (m : Mpu) {n : Nat} (small : n < 32) (x : MpuEntry) (e : Nat) :
    (m.setEntry n x).entry e = if e = n then x else m.entry e := by
  have get (b : Vector MpuEntry 32) : (b.setIfInBounds n x)[e]?.getD ⟨0, 0, 0⟩ = if e = n then x else b[e]?.getD ⟨0, 0, 0⟩ := by
    rw [Vector.getElem?_setIfInBounds]
    by_cases same : n = e
    · subst same
      simp [small]
    · rw [if_neg same, if_neg (Ne.symm same)]
  unfold Mpu.entry Mpu.setEntry Mpu.bank
  cases bank : m.mpbk.getLsbD 0
  · simp only [Bool.false_eq_true, if_false, bank]
    exact get _
  · simp only [if_true, bank]
    exact get _

/-- R256, R258: the entry is locked, or a host management entry in guest mode. -/
theorem State.mayWriteEntry_iff (s : State) (e : Nat) : s.mayWriteEntry e = true ↔
    ¬ (s.cur.svlock.getLsbD 0 = true ∨ (s.mode = .guest ∧ s.FirstHostEntry ≤ e)) := by
  simp only [State.mayWriteEntry, State.locked, Mpu.inLayer, State.firstHostEntry_eq, Bool.and_eq_true, Bool.not_eq_true', not_or,
    Bool.not_eq_true, Bool.and_eq_false_iff, beq_eq_false_iff_ne, decide_eq_false_iff_not, not_and_or, ne_eq]

end Sys2Proof.Machine
end

section
/-!
PROOFS. LDSR to a register of an MPU entry and to MCC (21_mpu.md R253 to R260).
-/

namespace Sys2Proof.Machine

variable {s t : State} {v w : Word}

/-! ## The window of an entry -/

/-- R253: the registers that show the entry of MPIDX. -/
def EntryReg.sreg : EntryReg → SReg
  | .mpla => .mpla
  | .mpua => .mpua
  | .mpat => .mpat

/-- R255: the writable bits of a register of an entry. -/
def EntryReg.mask : EntryReg → Word
  | .mpat => 0xFFFFC0BF
  | _ => 0xFFFFFFFC

theorem MpuEntry.get_put (e : MpuEntry) (r k : EntryReg) (v : Word) : (e.put r v).get k = if k = r then v &&& r.mask else e.get k := by
  cases r <;> cases k <;> rfl

theorem Mpu.setEntry_keeps (m : Mpu) (n : Nat) (x : MpuEntry) :
    m.setEntry n x = { m with bank0 := (m.setEntry n x).bank0, bank1 := (m.setEntry n x).bank1 } ∧
      if m.mpbk.getLsbD 0 then (m.setEntry n x).bank0 = m.bank0 else (m.setEntry n x).bank1 = m.bank1 := by
  unfold Mpu.setEntry
  cases m.mpbk.getLsbD 0 <;> exact ⟨rfl, rfl⟩

theorem readSr_entry (s : State) (r : EntryReg) : s.readSr r.sreg = (s.mpu.entry s.mpu.index).get r := by
  cases r <;> rfl

/-- R255, R256: one register of the entry that MPIDX selects. -/
theorem entry_gives (s : State) (r : EntryReg) (v : Word) :
    let n := s.mpu.mpidx.toNat % 32
    let closed : Prop := s.cur.svlock.getLsbD 0 = true ∨ (s.mode = .guest ∧ s.FirstHostEntry ≤ n)
    (∀ x : Word, (closed → x = (s.mpu.entry n).get r) → (¬ closed → x = v &&& r.mask) →
      s.Gives (s.writeSr r.sreg v) r.sreg x fun _ => False) ∧
    (∀ e, e ≠ n → (s.writeSr r.sreg v).mpu.entry e = s.mpu.entry e) ∧
    if s.mpu.mpbk.getLsbD 0 then (s.writeSr r.sreg v).mpu.bank0 = s.mpu.bank0 else (s.writeSr r.sreg v).mpu.bank1 = s.mpu.bank1 := by
  intro n closed
  have index : s.mpu.index = n := Mpu.index_eq _
  have small : n < 32 := Nat.mod_lt _ (by omega)
  have write : s.writeSr r.sreg v = s.writeEntry n r v := by
    rw [← index]
    cases r <;> rfl
  have window : r.sreg ∈ [SReg.mpla, .mpua, .mpat] := by cases r <;> decide
  rw [write]
  unfold State.writeEntry
  by_cases may : closed
  · have locked : s.mayWriteEntry n = false := Bool.eq_false_iff.mpr fun h => (s.mayWriteEntry_iff n).mp h may
    rw [locked]
    refine ⟨fun x kept _ => ?_, fun _ _ => rfl, by split <;> rfl⟩
    rw [kept may, ← index, ← readSr_entry]
    exact .nothing s r.sreg _
  · rw [if_pos ((s.mayWriteEntry_iff n).mpr may)]
    obtain ⟨rest, bank⟩ := s.mpu.setEntry_keeps n ((s.mpu.entry n).put r v)
    have entry := s.mpu.setEntry_entry small ((s.mpu.entry n).put r v)
    have same : (s.mpu.setEntry n ((s.mpu.entry n).put r v)).index = n := by
      rw [rest]
      exact index
    refine ⟨fun x _ given => .mpu ?_ (fun k ne _ listed => ?_) fun h => absurd window h, fun e ne => (entry e).trans (if_neg ne), bank⟩
    · rw [readSr_entry]
      show ((s.mpu.setEntry n _).entry (s.mpu.setEntry n _).index).get r = _
      rw [same, entry, if_pos rfl, MpuEntry.get_put, if_pos rfl, given may]
    · have other (q : EntryReg) (ne : q ≠ r) :
          State.readSr { s with mpu := s.mpu.setEntry n ((s.mpu.entry n).put r v) } q.sreg = s.readSr q.sreg := by
        rw [readSr_entry, readSr_entry]
        show ((s.mpu.setEntry n _).entry (s.mpu.setEntry n _).index).get q = _
        rw [same, entry, if_pos rfl, MpuEntry.get_put, if_neg ne, index]
      cases k
      case mpla => exact other .mpla fun e => ne (by rw [← e]; rfl)
      case mpua => exact other .mpua fun e => ne (by rw [← e]; rfl)
      case mpat => exact other .mpat fun e => ne (by rw [← e]; rfl)
      case mpcfg | mca | mcs | mcr | mci | mpidx | mpbk | mpid =>
        simp only [State.readSr]
        rw [rest]
      all_goals rfl

/-! ## The setting check -/

/-- R260: the three results of a layer for one privilege. -/
theorem checkRaw_bit (stated : s.prod.mpuMatch = .stated) (sel : Nat → Bool) (user : Bool) :
    ∀ p ∈ [(2, AccessKind.exec), (1, .write), (0, .read)], (s.checkRaw sel user).getLsbD p.1 = true ↔
      s.SomeEntryAllows (fun n => sel n = true) s.mpu.mca.toNat (s.mpu.mca.toNat + s.mpu.mcs.toNat - 1) p.2 user
        (s.mpu.mci.toNat % 32) := by
  have bits (x w r : Bool) : (BitVec.ofBool x ++ BitVec.ofBool w ++ BitVec.ofBool r).getLsbD 2 = x ∧
      (BitVec.ofBool x ++ BitVec.ofBool w ++ BitVec.ofBool r).getLsbD 1 = w ∧
      (BitVec.ofBool x ++ BitVec.ofBool w ++ BitVec.ofBool r).getLsbD 0 = r := by revert x w r; decide
  have allows (k : AccessKind) := Mpu.setAllows_stated (s := s) (lo := s.mpu.mca.toNat)
    (hi := s.mpu.mca.toNat + s.mpu.mcs.toNat - 1) (k := k) (user := user) (sel := sel) (c := { s.host with spid := s.mpu.mci })
  simp only [List.forall_mem_cons, State.checkRaw, stated, bits]
  exact ⟨allows .exec, allows .write, allows .read, fun _ h => absurd h List.not_mem_nil⟩

theorem layer_bit {off x : Bool} {raw : BitVec 3} {j : Nat} (small : j < 3) :
    (if off then (7 : BitVec 3) else if x then 0 else raw).getLsbD j = true ↔ off = true ∨ (x = false ∧ raw.getLsbD j = true) := by
  have all : ∀ j < 3, (7 : BitVec 3).getLsbD j = true := by decide
  have no : ∀ j < 3, (0 : BitVec 3).getLsbD j = false := by decide
  cases off <;> cases x <;> simp only [Bool.false_eq_true, if_false, if_true, all j small, no j small, true_or, false_or, true_and,
    reduceCtorEq, false_and]

/-- R260: the fields of MCR. -/
theorem mcrValue_bits (ov : Bool) (hs hu gs gu a b : BitVec 3) : ∀ j < 3,
    (mcrValue ov hs hu gs gu a b).getLsbD (3 + j) = a.getLsbD j ∧ (mcrValue ov hs hu gs gu a b).getLsbD j = b.getLsbD j ∧
    (mcrValue ov hs hu gs gu a b).getLsbD (27 + j) = hs.getLsbD j ∧ (mcrValue ov hs hu gs gu a b).getLsbD (24 + j) = hu.getLsbD j ∧
    (mcrValue ov hs hu gs gu a b).getLsbD (19 + j) = gs.getLsbD j ∧ (mcrValue ov hs hu gs gu a b).getLsbD (16 + j) = gu.getLsbD j := by
  intro j small
  unfold mcrValue
  simp only [BitVec.getLsbD_setWidth, BitVec.getLsbD_append]
  interval_cases j <;> simp

theorem mcrValue_ov (ov : Bool) (hs hu gs gu a b : BitVec 3) : (mcrValue ov hs hu gs gu a b).getLsbD 8 = ov := by
  unfold mcrValue
  simp only [BitVec.getLsbD_setWidth, BitVec.getLsbD_append]
  simp

theorem mcrValue_reserved (ov : Bool) (hs hu gs gu a b : BitVec 3) : mcrValue ov hs hu gs gu a b &&& 0xC0C0FEC0 = 0 := by
  refine BitVec.eq_of_getLsbD_eq fun i small => ?_
  unfold mcrValue
  simp only [BitVec.getLsbD_and, BitVec.getLsbD_setWidth, BitVec.getLsbD_append]
  interval_cases i <;> simp

theorem checkCrosses_iff (m : Mpu) : m.checkCrosses = true ↔ 2 ^ 32 ≤ m.mca.toNat + m.mcs.toNat - 1 ∨
    (m.mca.toNat ≤ 0x7FFFFFFF ∧ 0x7FFFFFFF < m.mca.toNat + m.mcs.toNat - 1) := by
  simp only [Mpu.checkCrosses, Bool.or_eq_true, Bool.and_eq_true, decide_eq_true_eq]

/-- R260: a layer permits a kind of access: it is off, or does not check the supervisor, or an entry allows it. -/
def State.CheckOk (s : State) (on svp : Bool) (sel : Nat → Prop) (k : AccessKind) (user : Bool) : Prop :=
  on = false ∨ (user = false ∧ svp = false) ∨ (¬ s.mpu.checkCrosses = true ∧
    s.SomeEntryAllows sel s.mpu.mca.toNat (s.mpu.mca.toNat + s.mpu.mcs.toNat - 1) k user (s.mpu.mci.toNat % 32))

/-- R260: the bits of one layer for one privilege. -/
theorem checkOk_bit (stated : s.prod.mpuMatch = .stated) {on svp off x user : Bool} {sel : Nat → Bool} {sel' : Nat → Prop}
    (h : off = true ↔ on = false ∨ (user = false ∧ svp = false)) (same : ∀ n, sel n = true ↔ sel' n)
    (crosses : on = true → x = s.mpu.checkCrosses) :
    ∀ p ∈ [(2, AccessKind.exec), (1, .write), (0, .read)],
      (if off then (7 : BitVec 3) else if x then 0 else s.checkRaw sel user).getLsbD p.1 = true ↔ s.CheckOk on svp sel' p.2 user := by
  intro p listed
  have small : p.1 < 3 := by revert p; decide
  have selected : (fun n => sel n = true) = sel' := funext fun n => propext (same n)
  rw [layer_bit small, h, checkRaw_bit stated sel user p listed, selected, State.CheckOk, or_assoc]
  cases on
  · simp
  · rw [crosses rfl, Bool.not_eq_true]

section
variable {ov : Bool} {a b c d : BitVec 3} {A B C D : Prop} {j : Nat}

/-- R260: the fields of MCR in host mode. -/
theorem mcr_hostFields {hve : Bool} (small : j < 3) (ha : a.getLsbD j = true ↔ A) (hb : b.getLsbD j = true ↔ B) :
    let w := if hve then mcrValue ov a b 7 7 a b else mcrValue ov 0 0 0 0 a b
    (w.getLsbD (3 + j) = true ↔ A ∧ True) ∧ (w.getLsbD j = true ↔ B ∧ True) ∧
    (w.getLsbD (27 + j) = true ↔ hve = true ∧ A) ∧ (w.getLsbD (24 + j) = true ↔ hve = true ∧ B) ∧
    (w.getLsbD (19 + j) = true ↔ hve = true ∧ True) ∧ (w.getLsbD (16 + j) = true ↔ hve = true ∧ True) := by
  have all : ∀ j < 3, (7 : BitVec 3).getLsbD j = true := by decide
  have no : (0 : BitVec 3).getLsbD j = false := BitVec.getLsbD_zero
  cases hve
  · simp only [Bool.false_eq_true, if_false, mcrValue_bits _ _ _ _ _ _ _ j small, ha, hb, no, and_true, false_and, and_self]
  · simp only [if_true, mcrValue_bits _ _ _ _ _ _ _ j small, ha, hb, all j small, and_true, true_and, and_self]

/-- R260: the fields of MCR in guest mode. -/
theorem mcr_guestFields (small : j < 3) (ha : a.getLsbD j = true ↔ A) (hb : b.getLsbD j = true ↔ B) (hc : c.getLsbD j = true ↔ C)
    (hd : d.getLsbD j = true ↔ D) :
    let w := mcrValue ov a b c d (a &&& c) (b &&& d)
    (w.getLsbD (3 + j) = true ↔ A ∧ C) ∧ (w.getLsbD j = true ↔ B ∧ D) ∧ (w.getLsbD (27 + j) = true ↔ A) ∧
    (w.getLsbD (24 + j) = true ↔ B) ∧ (w.getLsbD (19 + j) = true ↔ C) ∧ (w.getLsbD (16 + j) = true ↔ D) := by
  simp only [mcrValue_bits _ _ _ _ _ _ _ j small, BitVec.getLsbD_and, Bool.and_eq_true, ha, hb, hc, hd, and_self]

end

theorem checkResult_stores (stated : s.prod.mpuMatch = .stated) : s.CheckStores s.checkResult := by
  have supervisor {on svp x : Bool} {sel : Nat → Bool} {sel' : Nat → Prop} := checkOk_bit (s := s) (on := on) (svp := svp) (x := x)
    (sel := sel) (sel' := sel') (user := false) stated (off := !on || !svp) (by simp)
  have user {on svp x : Bool} {sel : Nat → Bool} {sel' : Nat → Prop} := checkOk_bit (s := s) (on := on) (svp := svp) (x := x)
    (sel := sel) (sel' := sel') (user := true) stated (off := !on) (by simp)
  have always {on x : Bool} {sel : Nat → Bool} {sel' : Nat → Prop} := checkOk_bit (s := s) (on := on) (svp := true) (x := x)
    (sel := sel) (sel' := sel') (user := false) stated (off := !on) (by simp)
  have place : ∀ p ∈ [(2, AccessKind.exec), (1, .write), (0, .read)], p.1 < 3 := by decide
  unfold State.CheckStores State.checkResult
  cases m : s.mode with
  | host =>
    have sel (n : Nat) : (!s.hve || s.mpu.inLayer .host n) = true ↔ s.hve = false ∨ s.FirstHostEntry ≤ n := by
      simp [Mpu.inLayer, State.firstHostEntry_eq]
    have cur : s.cur = s.host := by rw [State.cur, m]; rfl
    dsimp only
    rw [← checkCrosses_iff]
    refine ⟨fun j k listed => ?_, ?_, ?_⟩
    · have hs := supervisor (on := s.host.mpe) (svp := s.host.svp) sel (x := s.host.mpe && s.mpu.checkCrosses) (fun h => by rw [h]; rfl)
        (j, k) listed
      have hu := user (on := s.host.mpe) (svp := s.host.svp) sel (x := s.host.mpe && s.mpu.checkCrosses) (fun h => by rw [h]; rfl)
        (j, k) listed
      have small := place _ listed
      exact mcr_hostFields small hs hu
    · split <;> simp only [mcrValue_ov, cur, Bool.and_eq_true, and_comm, reduceCtorEq, false_and, or_false]
    · split <;> exact mcrValue_reserved ..
  | guest =>
    dsimp only
    rw [← checkCrosses_iff]
    have cur : s.cur = s.guest := by rw [State.cur, m]; rfl
    have hve : s.hve = true := by
      cases e : s.hve
      · rw [State.mode, e] at m
        cases m
      · rfl
    have host (n : Nat) : s.mpu.inLayer .host n = true ↔ s.hve = false ∨ s.FirstHostEntry ≤ n := by
      simp [Mpu.inLayer, State.firstHostEntry_eq, hve]
    have guest (n : Nat) : s.mpu.inLayer .guest n = true ↔ n < s.FirstHostEntry := by simp [Mpu.inLayer, State.firstHostEntry_eq]
    refine ⟨fun j k listed => ?_, ?_, mcrValue_reserved ..⟩
    · have gs := supervisor (on := s.guest.mpe) (svp := s.guest.svp) guest
        (x := (s.guest.mpe || s.guest.gmpe) && s.mpu.checkCrosses) (fun h => by rw [h]; rfl) (j, k) listed
      have gu := user (on := s.guest.mpe) (svp := s.guest.svp) guest
        (x := (s.guest.mpe || s.guest.gmpe) && s.mpu.checkCrosses) (fun h => by rw [h]; rfl) (j, k) listed
      have hs := always (on := s.guest.gmpe) host
        (x := (s.guest.mpe || s.guest.gmpe) && s.mpu.checkCrosses) (fun h => by rw [h, Bool.or_true]; rfl) (j, k) listed
      have hu := user (on := s.guest.gmpe) (svp := true) host
        (x := (s.guest.mpe || s.guest.gmpe) && s.mpu.checkCrosses) (fun h => by rw [h, Bool.or_true]; rfl) (j, k) listed
      have fields := mcr_guestFields (ov := (s.guest.mpe || s.guest.gmpe) && s.mpu.checkCrosses) (place _ listed) hs hu gs gu
      obtain ⟨f1, f2, f3, f4, f5, f6⟩ := fields
      exact ⟨f1, f2, f3.trans (and_iff_right hve).symm, f4.trans (and_iff_right hve).symm, f5.trans (and_iff_right hve).symm,
        f6.trans (and_iff_right hve).symm⟩
    · simp only [mcrValue_ov, cur, Bool.and_eq_true, Bool.or_eq_true, true_and, and_comm]

theorem mcc_gives (s : State) (v : Word) : s.Gives (s.writeSr .mcc v) .mcc 0 (· = .mcr) := by
  refine .mpu rfl (fun k ne not h => ?_) fun _ => ⟨rfl, rfl⟩
  cases k <;> first | rfl | exact absurd rfl ne | exact absurd rfl not

end Sys2Proof.Machine
end

section
/-!
PROOFS. LDSR to FPSR and FXSR and to the registers that show a part of them (11_sysregs.md R180 to R188).
-/

namespace Sys2Proof.Machine

variable {s : State} {v w : Word}

/-- R182 to R186: a register that shows bits of another one: `place k` is the bit that bit `k` shows, `source j` the bit that shows
bit `j`. -/
structure IsView (see : Word → Word) (put : Word → Word → Word) (mask : Word) (place source : Nat → Option Nat) : Prop where
  see_bit : ∀ w k, k < 32 → (see w).getLsbD k = (place k).elim false w.getLsbD
  put_bit : ∀ w v j, j < 32 → (put w v).getLsbD j = (source j).elim (w.getLsbD j) v.getLsbD
  inverse : ∀ k j, k < 32 ∧ place k = some j ↔ j < 32 ∧ source j = some k
  covered : ∀ k, k < 32 → mask.getLsbD k = (place k).isSome

namespace IsView

variable {see : Word → Word} {put : Word → Word → Word} {mask : Word} {place source : Nat → Option Nat}

theorem see_iff (h : IsView see put mask place source) (w : Word) {k : Nat} (small : k < 32) :
    (see w).getLsbD k = true ↔ ∃ j, place k = some j ∧ w.getLsbD j = true := by
  rw [h.see_bit w k small]
  cases place k <;> simp

/-- What was written is what is then shown. -/
theorem see_put (h : IsView see put mask place source) (w v : Word) : see (put w v) = v &&& mask := by
  refine BitVec.eq_of_getLsbD_eq fun k small => ?_
  rw [h.see_bit _ k small, BitVec.getLsbD_and, h.covered k small]
  cases at_k : place k with
  | none => exact (Bool.and_false _).symm
  | some j =>
    obtain ⟨small_j, back⟩ := (h.inverse k j).mp ⟨small, at_k⟩
    show (put w v).getLsbD j = _
    rw [h.put_bit w v j small_j, back]
    exact (Bool.and_true _).symm

theorem put_stated (h : IsView see put mask place source) (w v : Word) (j : Nat) (small : j < 32) :
    ((∀ k, k < 32 → place k ≠ some j) → (put w v).getLsbD j = w.getLsbD j) ∧
      ∀ k, k < 32 → place k = some j → (put w v).getLsbD j = v.getLsbD k := by
  rw [h.put_bit w v j small]
  refine ⟨fun free => ?_, fun k small_k shown => ?_⟩
  · cases at_j : source j with
    | none => rfl
    | some k =>
      obtain ⟨small_k, shown⟩ := (h.inverse k j).mpr ⟨small, at_j⟩
      exact absurd shown (free k small_k)
  · rw [((h.inverse k j).mp ⟨small_k, shown⟩).2]
    rfl

/-- A write through one view leaves what another one shows. -/
theorem see_put_other {see' : Word → Word} {put' : Word → Word → Word} {mask' : Word} {place' source' : Nat → Option Nat}
    (h : IsView see put mask place source) (other : IsView see' put' mask' place' source')
    (apart : ∀ k, k < 32 → (place' k).bind source = none) (w v : Word) : see' (put w v) = see' w := by
  refine BitVec.eq_of_getLsbD_eq fun k small => ?_
  rw [other.see_bit _ k small, other.see_bit _ k small]
  cases at_k : place' k with
  | none => rfl
  | some j =>
    have free : source j = none := by simpa [at_k] using apart k small
    have small_j : j < 32 := ((other.inverse k j).mp ⟨small, at_k⟩).1
    exact (h.put_bit w v j small_j).trans (by rw [free]; rfl)

end IsView

/-- R182, R186: the bit that a bit of the status view shows, and the bit that shows a bit. -/
def statusPlace (k : Nat) : Option Nat := if k < 5 then some k else if k = 5 then some 22 else if 8 ≤ k ∧ k < 14 then some (k + 2) else none
@[inherit_doc statusPlace]
def statusSource (j : Nat) : Option Nat :=
  if j < 5 then some j else if j = 22 then some 5 else if 10 ≤ j ∧ j < 16 then some (j - 2) else none

/-- R184, R188: the same for the configuration view. -/
def configPlace (k : Nat) : Option Nat := if k < 5 then some (k + 5) else if 8 ≤ k ∧ k < 10 then some (k + 10) else none
@[inherit_doc configPlace]
def configSource (j : Nat) : Option Nat := if 5 ≤ j ∧ j < 10 then some (j - 5) else if 18 ≤ j ∧ j < 20 then some (j - 10) else none

/-- R183: the same for the condition bits. -/
def conditionPlace (k : Nat) : Option Nat := if k < 8 then some (k + 24) else none
@[inherit_doc conditionPlace]
def conditionSource (j : Nat) : Option Nat := if 24 ≤ j ∧ j < 32 then some (j - 24) else none

theorem status_isView : IsView statusView putStatus 0x3F3F statusPlace statusSource where
  see_bit w k small := by
    simp only [statusView, BitVec.getLsbD_setWidth, BitVec.getLsbD_append, BitVec.getLsbD_extractLsb', BitVec.getLsbD_zero]
    interval_cases k <;> simp [statusPlace]
  put_bit w v j small := by
    simp only [putStatus, putMasked_getLsbD]
    interval_cases j <;> simp [statusSource]
  inverse k j := by
    unfold statusPlace statusSource
    grind
  covered := by decide

theorem config_isView : IsView configView putConfig 0x31F configPlace configSource where
  see_bit w k small := by
    simp only [configView, BitVec.getLsbD_setWidth, BitVec.getLsbD_append, BitVec.getLsbD_extractLsb', BitVec.getLsbD_zero]
    interval_cases k <;> simp [configPlace]
  put_bit w v j small := by
    simp only [putConfig, putMasked_getLsbD]
    interval_cases j <;> simp [configSource]
  inverse k j := by
    unfold configPlace configSource
    grind
  covered := by decide

/-- R183: the condition bits of FPSR. -/
def conditionView (w : Word) : Word := (w.extractLsb' 24 8).setWidth 32

def putCondition (w v : Word) : Word := putMasked w 0xFF000000 (v <<< 24)

theorem condition_isView : IsView conditionView putCondition 0xFF
    conditionPlace conditionSource where
  see_bit w k small := by
    interval_cases k <;> simp [conditionView, conditionPlace]
  put_bit w v j small := by
    simp only [putCondition, putMasked_getLsbD]
    interval_cases j <;> simp [conditionSource]
  inverse k j := by
    unfold conditionPlace conditionSource
    grind
  covered := by decide

/-! ## FPSR and FXSR -/

theorem fpsr_gives (s : State) (v : Word) : s.Gives (s.writeSr .fpsr v) .fpsr (v &&& 0xFFCEFFFF ||| 0x00200000)
    (· ∈ [.fpst, .fpcc, .fpcfg]) := by
  refine ⟨rfl, fun k ne not => ?_, fun _ => rfl, fun _ => ⟨rfl, rfl⟩⟩
  cases k
  case fpsr => exact absurd rfl ne
  case fpst | fpcc | fpcfg => exact absurd (by decide) not
  all_goals rfl

theorem fxsr_gives (s : State) (v : Word) : s.Gives (s.writeSr .fxsr v) .fxsr (v &&& 0x00CEFFFF ||| 0x00200000)
    (· ∈ [.fxst, .fxcfg]) := by
  refine ⟨rfl, fun k ne not => ?_, fun _ => rfl, fun _ => ⟨rfl, rfl⟩⟩
  cases k
  case fxsr => exact absurd rfl ne
  case fxst | fxcfg => exact absurd (by decide) not
  all_goals rfl

/-- FPSR changed so that the views but one show what they did. -/
theorem State.Gives.fpsrView {w : Word} {r : SReg} {x : Word}
    (value : State.readSr { s with sys := { s.sys with fpsr := w } } r = x)
    (others : ∀ k ∈ [SReg.fpst, .fpcc, .fpcfg], k ≠ r → State.readSr { s with sys := { s.sys with fpsr := w } } k = s.readSr k) :
    s.Gives { s with sys := { s.sys with fpsr := w } } r x (· = .fpsr) := by
  refine ⟨value, fun k ne not => ?_, fun _ => rfl, fun _ => ⟨rfl, rfl⟩⟩
  cases k
  case fpsr => exact absurd rfl not
  case fpst | fpcc | fpcfg => exact others _ (by decide) ne
  all_goals rfl

theorem State.Gives.fxsrView {w : Word} {r : SReg} {x : Word}
    (value : State.readSr { s with sys := { s.sys with fxsr := w } } r = x)
    (others : ∀ k ∈ [SReg.fxst, .fxcfg], k ≠ r → State.readSr { s with sys := { s.sys with fxsr := w } } k = s.readSr k) :
    s.Gives { s with sys := { s.sys with fxsr := w } } r x (· = .fxsr) := by
  refine ⟨value, fun k ne not => ?_, fun _ => rfl, fun _ => ⟨rfl, rfl⟩⟩
  cases k
  case fxsr => exact absurd rfl not
  case fxst | fxcfg => exact others _ (by decide) ne
  all_goals rfl

theorem fpst_gives (s : State) (v : Word) : s.Gives (s.writeSr .fpst v) .fpst (v &&& 0x3F3F) (· = .fpsr) := by
  have cc := status_isView.see_put_other condition_isView (by decide) s.sys.fpsr v
  have cfg := status_isView.see_put_other config_isView (by decide) s.sys.fpsr v
  refine .fpsrView (status_isView.see_put _ v) fun k listed ne => ?_
  simp only [List.mem_cons, List.not_mem_nil, or_false] at listed
  obtain rfl | rfl | rfl := listed
  · exact absurd rfl ne
  · exact cc
  · exact cfg

theorem fpcc_gives (s : State) (v : Word) : s.Gives (s.writeSr .fpcc v) .fpcc (v &&& 0xFF) (· = .fpsr) := by
  have st := condition_isView.see_put_other status_isView (by decide) s.sys.fpsr v
  have cfg := condition_isView.see_put_other config_isView (by decide) s.sys.fpsr v
  refine .fpsrView (condition_isView.see_put _ v) fun k listed ne => ?_
  simp only [List.mem_cons, List.not_mem_nil, or_false] at listed
  obtain rfl | rfl | rfl := listed
  · exact st
  · exact absurd rfl ne
  · exact cfg

theorem fpcfg_gives (s : State) (v : Word) : s.Gives (s.writeSr .fpcfg v) .fpcfg (v &&& 0x31F) (· = .fpsr) := by
  have st := config_isView.see_put_other status_isView (by decide) s.sys.fpsr v
  have cc := config_isView.see_put_other condition_isView (by decide) s.sys.fpsr v
  refine .fpsrView (config_isView.see_put _ v) fun k listed ne => ?_
  simp only [List.mem_cons, List.not_mem_nil, or_false] at listed
  obtain rfl | rfl | rfl := listed
  · exact st
  · exact cc
  · exact absurd rfl ne

theorem fxst_gives (s : State) (v : Word) : s.Gives (s.writeSr .fxst v) .fxst (v &&& 0x3F3F) (· = .fxsr) := by
  have cfg := status_isView.see_put_other config_isView (by decide) s.sys.fxsr v
  refine .fxsrView (status_isView.see_put _ v) fun k listed ne => ?_
  simp only [List.mem_cons, List.not_mem_nil, or_false] at listed
  obtain rfl | rfl := listed
  · exact absurd rfl ne
  · exact cfg

theorem fxcfg_gives (s : State) (v : Word) : s.Gives (s.writeSr .fxcfg v) .fxcfg (v &&& 0x31F) (· = .fxsr) := by
  have st := config_isView.see_put_other status_isView (by decide) s.sys.fxsr v
  refine .fxsrView (config_isView.see_put _ v) fun k listed ne => ?_
  simp only [List.mem_cons, List.not_mem_nil, or_false] at listed
  obtain rfl | rfl := listed
  · exact st
  · exact absurd rfl ne

/-- A register that shows a part of another one: what it reads as, and what a write to it does to the other. -/
theorem LdsrGives.of_view {see : Word → Word} {put : Word → Word → Word} {mask : Word} {place source : Nat → Option Nat}
    (view : IsView see put mask place source) {r base : SReg} {get : State → Word} (ne : r ≠ .orig .psw)
    (shows : s.readSr r = see (get s)) (gives : ∀ v, s.Gives (s.writeSr r v) r (v &&& mask) (· = base))
    (wrote : ∀ v, get ((s.writeSr r v).advance 4) = put (get s) v) :
    (∀ k, k < 32 → ((s.readSr r).getLsbD k = true ↔ ∃ j, place k = some j ∧ (get s).getLsbD j = true)) ∧
      LdsrGives s r (· &&& mask) (· = base) fun v t => ∀ j, j < 32 →
        ((∀ k, k < 32 → place k ≠ some j) → (get t).getLsbD j = (get s).getLsbD j) ∧
          ∀ k, k < 32 → place k = some j → (get t).getLsbD j = v.getLsbD k := by
  refine ⟨fun k small => ?_, .of_writeSr ne fun _ _ v => ⟨gives v, fun j small => ?_⟩⟩
  · rw [shows]
    exact view.see_iff _ small
  · rw [wrote]
    exact view.put_stated _ v j small

end Sys2Proof.Machine
end

section
/-!
PROOFS. LDSR to the locked, shared, guest, MPU, counter and read-only registers (44_system.md R540).
-/

namespace Sys2Proof.Machine

variable {s : State}

/-! ## Guest copies -/

theorem guestCopies_given : ∀ p ∈ guestCopies, LdsrGives s p.1 (· &&& p.2) (fun _ => False) fun _ _ => True := by
  intro p listed
  obtain ⟨⟨x, m⟩, plain, rfl⟩ | rfl | rfl := guestCopies_kinds p listed
  · exact .of_guestCopy fun hm v => ⟨.guestPlain hm (plainContext_unguarded _ plain) (Ctx.writePlain_value s.guest v _ plain), trivial⟩
  · exact .of_guestCopy fun hm v => ⟨.guestCopy hm rfl fun y ne => by cases y <;> first | rfl | exact absurd rfl ne, trivial⟩
  · exact .of_guestCopy fun hm v => ⟨.guestCopy hm rfl fun y ne => by cases y <;> first | rfl | exact absurd rfl ne, trivial⟩

theorem guestSavedPsw_given : ∀ r ∈ [SReg.gm .eipsw, .gm .fepsw],
    LdsrGives s r (· &&& if s.guest.intcfg.getLsbD 1 then 0x43F380FF else 0x400380FF) (fun _ => False) fun _ _ => True := by
  have given : ∀ x ∈ [CtxReg.eipsw, .fepsw], x ∉ guardedContext →
      LdsrGives s (.gm x) (· &&& if s.guest.intcfg.getLsbD 1 then 0x43F380FF else 0x400380FF) (fun _ => False) fun _ _ => True :=
    fun x listed free => .of_guestCopy fun hm v => ⟨.guestPlain hm free (savedPsw_value s.guest v x listed), trivial⟩
  intro r listed
  simp only [List.mem_cons, List.not_mem_nil, or_false] at listed
  obtain rfl | rfl := listed
  · exact given _ (by decide) (by decide)
  · exact given _ (by decide) (by decide)

theorem guestSpidlist_given : LdsrGives s (.gm .spidlist) (· &&& s.host.spidlist) (fun _ => False) fun _ _ => True :=
  .of_guestCopy fun hm v => ⟨.guestCopy hm rfl fun y ne => by cases y <;> first | rfl | exact absurd rfl ne, trivial⟩

theorem guestSpid_given : LdsrGives s (.gm .spid)
    (fun v => if s.host.spidlist.getLsbD (v.toNat % 32) then v &&& 0x1F else s.guest.spid) (fun _ => False) fun _ _ => True :=
  .of_guestCopy fun hm _ => ⟨.guestCopy hm (Ctx.writeSpid_spid ..) fun _ ne => Ctx.writeSpid_other _ _ _ ne, trivial⟩

theorem guestPsw_given : LdsrGives s (.gm .psw) (s.fixPsw .guest) (fun _ => False) fun v t => s.PswTakes .guest v t.guest.psw :=
  .of_guestCopy fun hm v =>
    ⟨.guestCopy hm rfl fun y ne => by cases y <;> first | rfl | exact absurd rfl ne, s.pswTakes_fixPsw .guest v⟩

theorem guestIntcfg_given : LdsrGives s (.gm .intcfg) (fun v => v &&& 0x003F0000 ||| s.guest.intcfg &&& 0xFFC0FFFF)
    (fun _ => False) fun _ _ => True :=
  .of_guestCopy fun hm _ => ⟨.guestCopy hm (putMasked_swap ..) fun y ne => by cases y <;> first | rfl | exact absurd rfl ne, trivial⟩

/-! ## Registers that exist once -/

theorem readOnly_given : ∀ r ∈ readOnlyRegisters, LdsrGives s r (fun _ => s.readSr r) (fun _ => False) fun _ _ => True := by
  intro r listed
  refine .of_gives (fun e => ?_) fun v => ?_
  · rw [e] at listed
    exact absurd listed (by decide)
  · rw [writeSr_readOnly s v r listed]
    exact .nothing s r _

theorem fullWords_given : ∀ r ∈ [SReg.tscountl, .tscounth, .ictagl, .ictagh, .icdatl, .icdath, .icctrl, .iccfg, .icerr, .lscfg, .l1rcfg,
    .rdbcr],
    LdsrGives s r (fun v => v) (fun _ => False) fun _ _ => True := by
  rw [List.forall_mem_cons, List.forall_mem_cons]
  refine ⟨.of_gives nofun (tscountl_gives s), .of_gives nofun (tscounth_gives s), fun r listed => .of_gives (fun e => ?_) fun v => ?_⟩
  · rw [e] at listed
    exact absurd listed (by decide)
  · have gives := State.Gives.once (s := s) (fullWords_once r listed) v
    rw [← and_allBits] at gives
    exact gives

/-! ## Registers of the context in use -/

/-- R73 to R125: a register of the context in use. -/
theorem LdsrGives.of_own {x : CtxReg} {also : List SReg} {f : Word → Word} (ne : x ≠ .psw)
    (h : ∀ v, s.Gives (s.writeSr (.orig x) v) (.orig x) (f v) fun k => (s.mode = .guest ∧ k = .gm x) ∨ k ∈ also) :
    LdsrGives s (.orig x) f (fun k => (s.mode = .guest ∧ k = .gm x) ∨ k ∈ also) fun _ _ => True :=
  .of_gives (fun e => ne (by cases e; rfl)) h

theorem ownSavedPsw_given : ∀ x ∈ [CtxReg.eipsw, .fepsw],
    LdsrGives s (.orig x) (· &&& if s.cur.intcfg.getLsbD 1 then 0x43F380FF else 0x400380FF)
      (fun k => (s.mode = .guest ∧ k = .gm x) ∨ k ∈ []) fun _ _ => True := by
  have unguarded : ∀ x ∈ [CtxReg.eipsw, .fepsw], x ∉ guardedContext ∧ x ≠ .psw ∧ x ≠ .plmr := by decide
  intro x listed
  obtain ⟨free, ne, other⟩ := unguarded x listed
  exact .of_own ne fun v => .ownPlain free (savedPsw_value s.cur v x listed) fun e => absurd e other

theorem hostIntcfg_given (hm : s.mode = .host) : LdsrGives s (.orig .intcfg)
    (fun v => v &&& 0x003F0000 ||| if s.isMh2 && v.getLsbD 1 then 2 else v &&& 1)
    (fun k => (s.mode = .guest ∧ k = .gm .intcfg) ∨ k ∈ [.orig .psw, .orig .eipsw, .orig .fepsw, .imsr, .icsr]) fun v t =>
      let kept (w : Word) : Word := if s.isMh2 && v.getLsbD 1 then w else w &&& 0xFC0FFFFF
      t.host.psw = kept s.cur.psw ∧ t.host.eipsw = kept s.cur.eipsw ∧ t.host.fepsw = kept s.cur.fepsw := by
  refine .of_writeSr nofun fun _ _ v => ?_
  obtain ⟨gives, wrote⟩ := hostIntcfg_gives hm v
  have cur : s.cur = s.host := by rw [State.cur, hm]; rfl
  obtain ⟨psw, eipsw, fepsw⟩ := Ctx.dropEimask_psws { s.host with intcfg := hostIntcfg s.isMh2 v }
  rw [hostIntcfg_epl] at psw eipsw fepsw
  have host : ((s.writeSr (.orig .intcfg) v).advance 4).host = _ := wrote
  rw [host, cur]
  exact ⟨gives, psw, eipsw, fepsw⟩

/-! ## The modes -/

theorem hvcfg_given : LdsrGives s .hvcfg (fun v => if s.hasHv = true ∧ v.getLsbD 0 = true then 1 else 0)
    (fun k => k.classB ∨ k = .mpcfg ∨ k = .mcr) fun v t =>
      if s.hasHv = true ∧ v.getLsbD 0 = true then
        t.mpu = s.mpu ∧ if s.hve then t.guest = s.guest ∧ t.sys = { s.sys with hvcfg := 1 } ∧ t.cnt = s.cnt else t.sys.pswh = 0
      else t.guest = s.guest ∧ t.cnt = s.cnt ∧ t.sys = { s.sys with hvcfg := 0, pswh := 0 } ∧
        t.mpu = { s.mpu with mpcfg := s.mpu.mpcfg &&& 0xFFFFC0FF, mcr := s.mpu.mcr &&& 0x13F } :=
  .of_writeSr nofun fun auth _ v => ⟨hvcfg_gives (State.raised_host auth) v, hvcfg_effects s v⟩

theorem gmcfg_given : LdsrGives s .gmcfg (· &&& 0x00030013) (· = .gm .psw)
    fun v t => t.guest.psw = s.guest.psw &&& (v &&& 0x00030000 ||| 0xFFFCFFFF) := by
  refine .of_writeSr nofun fun auth present v => ⟨gmcfg_gives ?_ v, ?_⟩
  · have hve : s.hve = true := Bool.of_not_eq_false fun e => by rw [SReg.absent, e] at present; cases present
    exact ((State.hasAuth_hv hve).mp auth).2
  · show s.guest.psw &&& (v &&& 0x00030013 &&& 0x00030000 ||| 0xFFFCFFFF) = _
    rw [BitVec.and_assoc]
    rfl

/-! ## The MPU -/

theorem mpidx_given : LdsrGives s .mpidx (· &&& 0x1F) (· ∈ [.mpla, .mpua, .mpat]) fun v t =>
    t.readSr .mpla = (s.mpu.entry (v.toNat % 32)).mpla ∧ t.readSr .mpua = (s.mpu.entry (v.toNat % 32)).mpua ∧
      t.readSr .mpat = (s.mpu.entry (v.toNat % 32)).mpat := by
  refine .of_writeSr nofun fun _ _ v => ?_
  obtain ⟨gives, index⟩ := mpidx_gives s v
  refine ⟨gives, ?_⟩
  have shows (r : EntryReg) : ((s.writeSr .mpidx v).advance 4).readSr r.sreg = (s.mpu.entry (v.toNat % 32)).get r :=
    (readSr_entry _ r).trans (congrArg (fun n => (s.mpu.entry n).get r) index)
  exact ⟨shows .mpla, shows .mpua, shows .mpat⟩

theorem mpbk_given : LdsrGives s .mpbk
    (fun v => if s.cur.svlock.getLsbD 0 then s.mpu.mpbk else if s.prod.mpuTwoBanks then v &&& 1 else 0) (· ∈ [.mpla, .mpua, .mpat])
    fun _ t => s.cur.svlock.getLsbD 0 = true → t.mpu = s.mpu :=
  .of_writeSr nofun fun _ _ v => mpbk_gives s v

theorem entry_given (r : EntryReg) :
    let n := s.mpu.mpidx.toNat % 32
    let closed : Prop := s.cur.svlock.getLsbD 0 = true ∨ (s.mode = .guest ∧ s.FirstHostEntry ≤ n)
    ∀ x : Word → Word, (∀ v, closed → x v = (s.mpu.entry n).get r) → (∀ v, ¬ closed → x v = v &&& r.mask) →
      LdsrGives s r.sreg x (fun _ => False) fun _ t => (∀ e, e ≠ n → t.mpu.entry e = s.mpu.entry e) ∧
        if s.mpu.mpbk.getLsbD 0 then t.mpu.bank0 = s.mpu.bank0 else t.mpu.bank1 = s.mpu.bank1 := by
  intro n closed x kept given
  refine .of_writeSr (fun e => by cases r <;> cases e) fun _ _ v => ?_
  obtain ⟨gives, others, bank⟩ := entry_gives s r v
  exact ⟨gives _ (kept v) (given v), others, bank⟩

theorem mcc_given : LdsrGives s .mcc (fun _ => 0) (· = .mcr) fun _ t => s.prod.mpuMatch = .stated → s.CheckStores t.mpu.mcr :=
  .of_writeSr nofun fun _ _ v => ⟨mcc_gives s v, checkResult_stores⟩

end Sys2Proof.Machine

open Sys2Proof.Machine

/-- Settles O28, register by register. -/
theorem ldsrKeepsGuardsAndLayouts : Obligations.LdsrKeepsGuardsAndLayouts := by
  refine ⟨fun s => ⟨fun r m listed => guestCopies_given (r, m) listed, guestSavedPsw_given, guestSpidlist_given, guestSpid_given,
      guestPsw_given, guestIntcfg_given, readOnly_given, fullWords_given, fun n => ?_⟩, fun s => ?_, fun s => ⟨hvcfg_given, gmcfg_given,
      .of_gives nofun (ispr_gives s)⟩, fun s => ?_, fun s => ⟨.of_gives nofun (fpsr_gives s), .of_gives nofun (fxsr_gives s),
      ?_, ?_, ?_, ?_, ?_⟩⟩
  · exact ⟨.of_gives nofun fun v => (counter_gives s n v).1, .of_gives nofun fun v => (counter_gives s n v).2.1,
      .of_gives nofun fun v => (counter_gives s n v).2.2⟩
  · refine ⟨ownSavedPsw_given, .of_own nofun (spid_gives s), .of_own nofun fun v => ?_, .of_own nofun fun v => ?_,
      .of_own nofun (mpm_gives s), fun hm => .of_own nofun (guestIntcfg_gives hm), hostIntcfg_given⟩
    · exact .ownPlain (by decide) rfl nofun
    · exact .ownPlain (by decide) rfl fun _ => by decide
  · exact ⟨.of_gives nofun (mpcfg_gives s), mpidx_given, mpbk_given,
      entry_given .mpla _ (fun _ h => if_pos h) fun _ h => if_neg h, entry_given .mpua _ (fun _ h => if_pos h) fun _ h => if_neg h,
      entry_given .mpat _ (fun _ h => if_pos h) fun _ h => if_neg h, fun k => .of_gives nofun (mpid_gives s k), mcc_given,
      .of_gives nofun (mcr_gives s)⟩
  · exact LdsrGives.of_view (r := .fpst) (get := (·.sys.fpsr)) status_isView nofun rfl (fpst_gives s) fun _ => rfl
  · exact LdsrGives.of_view (r := .fxst) (get := (·.sys.fxsr)) status_isView nofun rfl (fxst_gives s) fun _ => rfl
  · exact LdsrGives.of_view (r := .fpcfg) (get := (·.sys.fpsr)) config_isView nofun rfl (fpcfg_gives s) fun _ => rfl
  · exact LdsrGives.of_view (r := .fxcfg) (get := (·.sys.fxsr)) config_isView nofun rfl (fxcfg_gives s) fun _ => rfl
  · exact LdsrGives.of_view (r := .fpcc) (get := (·.sys.fpsr)) condition_isView nofun rfl (fpcc_gives s) fun _ => rfl
end

section
/-!
PROOFS. The block transfers of the MPU entries (44_system.md R542, R543).
-/

namespace Sys2Proof.Machine

variable {s t : State}

/-! ## A transfer that is permitted -/

/-- Where every word is permitted, all of them are transferred. -/
theorem wordChain_runs {n : Nat} {place : Nat → Word} {kind : AccessKind} {block : Bool} {mei : Nat → Word} {f : Nat → State → State}
    {fin : State → Out} (permits : s.PermitsTransfer n place kind f) (during : ∀ j, j ≤ n → s.During (after s f j)) :
    wordChain place kind block mei f fin n 0 s = fin (after s f n) := by
  have reach : ∀ k, k ≤ n → wordChain place kind block mei f fin n 0 s = wordChain place kind block mei f fin (n - k) k (after s f k) := by
    intro k hk
    induction k with
    | zero => rfl
    | succ k ih =>
      rw [ih (by omega), show n - k = n - (k + 1) + 1 by omega, wordChain, after_succ]
      refine State.access_ok (.inl rfl) ?_
      rw [(during k (by omega)).um]
      exact permits k (by omega)
  have done := reach n le_rfl
  rwa [Nat.sub_self] at done

/-- Words loaded, every one permitted; the words are those of the memory at the start. -/
theorem loadBlock_runs {α : Type} {xs : List α} {a : Word} {itype : BitVec 5} {fin : State → Out} (d : α) {put : State → α → Word → State}
    (keeps : ∀ t, s.During t → ∀ x ∈ xs, ∀ v, t.During (put t x v) ∧ (put t x v).mem = t.mem)
    (permits : s.PermitsTransfer xs.length (blockAddress a) .read fun k t => put t (xs.getD k d) (s.readWord (blockAddress a k))) :
    loadBlock itype put xs a s fin =
      fin (after s (fun k t => put t (xs.getD k d) (s.readWord (blockAddress a k))) xs.length) := by
  have item (k : Nat) (hk : k < xs.length) : xs.getD k d ∈ xs := by
    rw [List.getD_eq_getElem _ _ hk]
    exact List.getElem_mem hk
  have kept := after_keeps (s := s) (n := xs.length) (f := fun k t => put t (xs.getD k d) (t.readWord (blockAddress a k)))
    (fun t => s.During t ∧ t.mem = s.mem) ⟨.refl s, rfl⟩ fun k hk t ⟨during, mem⟩ =>
      have word := keeps t during _ (item k hk) (t.readWord (blockAddress a k))
      ⟨during.trans word.1, word.2.trans mem⟩
  have same : ∀ k, k ≤ xs.length → after s (fun k t => put t (xs.getD k d) (s.readWord (blockAddress a k))) k =
      after s (fun k t => put t (xs.getD k d) (t.readWord (blockAddress a k))) k := after_congr fun k hk => by
    rw [State.readWord_congr (kept k hk.le).2]
  rw [loadBlock_chain d, wordChain_runs (fun j hj => ?_) fun j hj => (kept j hj).1, same _ le_rfl]
  rw [← same j hj.le]
  exact permits j hj

/-! ## The entries -/

/-- The place of a register in its entry. -/
def EntryReg.place : EntryReg → Nat
  | .mpla => 0
  | .mpua => 1
  | .mpat => 2

/-- The register at a place of its entry. -/
def EntryReg.at (k : Nat) : EntryReg := if k % 3 = 0 then .mpla else if k % 3 = 1 then .mpua else .mpat

theorem EntryReg.at_place (k : Nat) : (EntryReg.at k).place = k % 3 := by
  unfold EntryReg.at
  split
  · next h => exact h.symm
  · split
    · next h => exact h.symm
    · show 2 = k % 3
      omega

theorem EntryReg.place_inj {q r : EntryReg} : q.place = r.place ↔ q = r := by cases q <;> cases r <;> decide

/-- `t` is `s` but for the entries of the bank in use. -/
structure State.EntriesOnly (s t : State) : Prop where
  rest : t = { s with mpu := { s.mpu with bank0 := t.mpu.bank0, bank1 := t.mpu.bank1 } }
  bank : if s.mpu.mpbk.getLsbD 0 then t.mpu.bank0 = s.mpu.bank0 else t.mpu.bank1 = s.mpu.bank1

namespace State.EntriesOnly

theorem refl (s : State) : s.EntriesOnly s := ⟨rfl, by split <;> rfl⟩

theorem mayWriteEntry (h : s.EntriesOnly t) (e : Nat) : t.mayWriteEntry e = s.mayWriteEntry e := by
  rw [h.rest]
  rfl

theorem writeEntry (h : s.EntriesOnly t) (e : Nat) (r : EntryReg) (v : Word) : s.EntriesOnly (t.writeEntry e r v) := by
  unfold State.writeEntry
  split
  · obtain ⟨rest, bank⟩ := t.mpu.setEntry_keeps e ((t.mpu.entry e).put r v)
    have tail := h.rest
    have same := congrArg (fun u : State => u.mpu.mpbk) tail
    dsimp only at same
    refine ⟨?_, ?_⟩
    · rw [h.rest] at rest ⊢
      rw [rest]
    · have kept := h.bank
      rw [same] at bank
      cases on : s.mpu.mpbk.getLsbD 0
      · rw [on] at bank kept
        exact bank.trans kept
      · rw [on] at bank kept
        exact bank.trans kept
  · exact h

end State.EntriesOnly

theorem State.writeEntry_get (t : State) {n : Nat} (small : n < 32) (r : EntryReg) (v : Word) (e : Nat) (q : EntryReg) :
    ((t.writeEntry n r v).mpu.entry e).get q =
      if e = n ∧ q = r ∧ t.mayWriteEntry n = true then v &&& r.mask else (t.mpu.entry e).get q := by
  unfold State.writeEntry
  cases may : t.mayWriteEntry n
  · simp
  · show ((t.mpu.setEntry n _).entry e).get q = _
    rw [Mpu.setEntry_entry _ small]
    by_cases same : e = n
    · subst same
      rw [if_pos rfl, MpuEntry.get_put]
      simp
    · simp [same]

/-- R542: word `k` of the block is for this entry and register. -/
def entryLoad (s : State) (eh : BitVec 5) (a : Word) (k : Nat) (t : State) : State :=
  t.writeEntry (eh.toNat + k / 3) (EntryReg.at k) (s.readWord (blockAddress a k))

/-- R542: the entries after some words. -/
theorem after_entryLoad (eh et : BitVec 5) (a : Word) (k : Nat) (bound : k ≤ 3 * (et.toNat + 1 - eh.toNat)) :
    s.EntriesOnly (after s (entryLoad s eh a) k) ∧ ∀ (e : Nat) (q : EntryReg), ((after s (entryLoad s eh a) k).mpu.entry e).get q =
      if eh.toNat ≤ e ∧ 3 * (e - eh.toNat) + q.place < k ∧ s.mayWriteEntry e = true then
        s.readWord (blockAddress a (3 * (e - eh.toNat) + q.place)) &&& q.mask
      else (s.mpu.entry e).get q := by
  induction k with
  | zero => exact ⟨.refl s, fun e q => (if_neg fun h => by omega).symm⟩
  | succ k ih =>
    obtain ⟨entries, held⟩ := ih (by omega)
    have small : eh.toNat + k / 3 < 32 := by
      have := et.isLt
      omega
    rw [after_succ]
    refine ⟨entries.writeEntry _ _ _, fun e q => ?_⟩
    rw [entryLoad, State.writeEntry_get _ small, entries.mayWriteEntry, held e q]
    have third : q.place < 3 := by cases q <;> decide
    by_cases here : e = eh.toNat + k / 3 ∧ q = EntryReg.at k
    · obtain ⟨rfl, rfl⟩ := here
      have place := EntryReg.at_place k
      have number : 3 * (eh.toNat + k / 3 - eh.toNat) + (EntryReg.at k).place = k := by omega
      rw [number]
      cases s.mayWriteEntry (eh.toNat + k / 3) <;> simp
    · have other : ¬ (e = eh.toNat + k / 3 ∧ q = EntryReg.at k ∧ s.mayWriteEntry (eh.toNat + k / 3) = true) :=
        fun h => here ⟨h.1, h.2.1⟩
      have apart : eh.toNat ≤ e → 3 * (e - eh.toNat) + q.place ≠ k := fun le eq => by
        have place := EntryReg.at_place k
        exact here ⟨by omega, EntryReg.place_inj.mp (by omega)⟩
      have same : (eh.toNat ≤ e ∧ 3 * (e - eh.toNat) + q.place < k ∧ s.mayWriteEntry e = true) ↔
          (eh.toNat ≤ e ∧ 3 * (e - eh.toNat) + q.place < k + 1 ∧ s.mayWriteEntry e = true) :=
        ⟨fun ⟨le, lt, may⟩ => ⟨le, by omega, may⟩, fun ⟨le, lt, may⟩ => ⟨le, by have := apart le; omega, may⟩⟩
      rw [if_neg other]
      simp only [same]

/-- R543: the block written out of a bank. -/
theorem entryRegs_get? {eh et : BitVec 5} {e : Nat} (low : eh.toNat ≤ e) (high : e ≤ et.toNat) (q : EntryReg) :
    (entryRegs eh et)[3 * (e - eh.toNat) + q.place]? = some (e, q) := by
  have third : q.place < 3 := by cases q <;> decide
  have inside : 3 * (e - eh.toNat) + q.place < (entryRegs eh et).length := by
    rw [entryRegs_length]
    omega
  have got := entryRegs_getD inside (e, q)
  rw [List.getD_eq_getElem _ _ inside] at got
  rw [List.getElem?_eq_getElem inside, got]
  have quotient : eh.toNat + (3 * (e - eh.toNat) + q.place) / 3 = e := by omega
  have register : EntryReg.at (3 * (e - eh.toNat) + q.place) = q := EntryReg.place_inj.mp ((EntryReg.at_place _).trans (by omega))
  exact congrArg some (Prod.ext quotient register)

/-- R543, R545: words stored at ascending addresses, and the next instruction. -/
theorem storeBlock_completes {α : Type} {i : Instr} {itype : BitVec 5} {get : State → α → Word} {xs : List α} {a : Word}
    (wf : s.memWf) (small : xs.length ≤ 2 ^ 30) (hget : ∀ t u x, t.MemOnly u → get u x = get t x)
    (h : exec i s = storeBlock itype get xs a s fun t => .next (t.advance 4)) (permits : s.PermitsBlock a xs.length .write) :
    Completes i s 4 noReg (blockBytes a xs.length) 0 fun t => ∀ k x, xs[k]? = some x → t.readWord (blockAddress a k) = get s x := by
  obtain ⟨u, run, memOnly, -, outside, stored⟩ := State.storeBlock_spec itype get hget xs a (fun t => .next (t.advance 4)) wf small permits
  refine ⟨_, h.trans run, by rw [State.NextAfter, State.advance_pc, memOnly.pc], (memOnly.frame outside).trans (State.frame_advance ..),
    memOnly.units.trans ⟨by simp, by simp, by simp, by simp⟩, fun k x e => ?_⟩
  exact stored k x e

/-- R542: LDM.MP loads the entries. -/
theorem ldmMp_loads {eh et : BitVec 5} {reg1 : Reg} (hmh2 : s.isMh2 = true) (hum : s.um = false)
    (permits : s.PermitsTransfer (3 * (et.toNat + 1 - eh.toNat)) (blockAddress (s.reg reg1)) .read (entryLoad s eh (s.reg reg1))) :
    exec (.ldmMp eh et reg1) s = .next ((after s (entryLoad s eh (s.reg reg1)) (3 * (et.toNat + 1 - eh.toNat))).advance 4) := by
  rw [← entryRegs_length] at permits ⊢
  have same := after_congr (s := s) (n := (entryRegs eh et).length)
    (f := fun k t => t.writeEntry ((entryRegs eh et).getD k (0, .mpla)).1 ((entryRegs eh et).getD k (0, .mpla)).2
      (s.readWord (blockAddress (s.reg reg1) k))) (g := entryLoad s eh (s.reg reg1)) fun k hk => by
    rw [entryRegs_getD hk]
    rfl
  rw [ldmMp_run hum hmh2, loadBlock_runs (0, .mpla) (fun t _ x _ v => ⟨State.during_writeEntry .., State.writeEntry_mem ..⟩)
    fun j hj => ?_, same _ le_rfl]
  rw [same j hj.le]
  exact permits j hj

end Sys2Proof.Machine

open Sys2Proof.Machine

/-- Settles O29: the words of a load go to the entries one by one, those of a store come from them. -/
theorem mpuEntriesMoveInBlocks : Obligations.MpuEntriesMoveInBlocks := by
  intro s eh et reg1 wf
  refine ⟨fun hmh2 hum permits => ?_, fun hmh2 hum permits => ?_,
    fun hmh2 => ⟨State.raise_takes ?_, State.raise_takes ?_⟩, fun hve => ⟨State.raise_takes ?_, State.raise_takes ?_⟩⟩
  · obtain ⟨⟨rest, bank⟩, held⟩ := after_entryLoad (s := s) eh et (s.reg reg1) _ le_rfl
    generalize run : after s (entryLoad s eh (s.reg reg1)) (3 * (et.toNat + 1 - eh.toNat)) = t at rest bank held
    have regs : s.RegsOnly t := by
      rw [rest]
      rfl
    obtain ⟨next, program⟩ := regs.advance 4
    have host : t.host = s.host := by rw [rest]
    have guest : t.guest = s.guest := by rw [rest]
    have sys : t.sys = s.sys := by rw [rest]
    have cnt : t.cnt = s.cnt := by rw [rest]
    refine ⟨t.advance 4, (ldmMp_loads hmh2 hum permits).trans (by rw [run]), next, program, host, guest, sys, cnt,
      congrArg State.mpu rest, bank, fun e _ k hk => ?_⟩
    have stated (q : EntryReg) : (eh.toNat ≤ e ∧ 3 * (e - eh.toNat) + q.place < 3 * (et.toNat + 1 - eh.toNat) ∧
        s.mayWriteEntry e = true) ↔ (eh.toNat ≤ e ∧ e ≤ et.toNat ∧ s.cur.svlock.getLsbD 0 = false ∧
          ¬ (s.mode = .guest ∧ s.FirstHostEntry ≤ e)) := by
      have third : q.place < 3 := by cases q <;> decide
      rw [State.mayWriteEntry_iff, not_or, Bool.not_eq_true]
      exact ⟨fun ⟨low, lt, may⟩ => ⟨low, by omega, may⟩, fun ⟨low, high, may⟩ => ⟨low, by omega, may⟩⟩
    have held (q : EntryReg) := (held e q).trans (if_congr (stated q) rfl rfl)
    match k, hk with
    | 0, _ => exact held .mpla
    | 1, _ => exact held .mpua
    | 2, _ => exact held .mpat
  · have short : (entryRegs eh et).length ≤ 2 ^ 30 := by
      rw [entryRegs_length]
      have := et.isLt
      omega
    have stores := storeBlock_completes (i := .stmMp eh et reg1) wf short (fun t u x memOnly => by rw [memOnly])
      (stmMp_run hum hmh2 eh et reg1) (by rwa [entryRegs_length])
    rw [entryRegs_length] at stores
    obtain ⟨t, run, next, frame, units, stored⟩ := stores
    refine ⟨t, run, next, frame, units, fun e low high k hk => ?_⟩
    match k, hk with
    | 0, _ => exact stored _ _ (entryRegs_get? low high .mpla)
    | 1, _ => exact stored _ _ (entryRegs_get? low high .mpua)
    | 2, _ => exact stored _ _ (entryRegs_get? low high .mpat)
  · exact if_neg (Bool.eq_false_iff.mp hmh2)
  · exact if_neg (Bool.eq_false_iff.mp hmh2)
  · exact if_pos (by rw [hve]; rfl)
  · exact if_pos (by rw [hve]; rfl)
end

section
/-!
PROOFS. RESBANK (44_system.md R546).
-/

namespace Sys2Proof.Machine

variable {s t : State}

/-! ## What a permission depends on -/

/-- The entries of the MPU, and what selects among them, are those of `m`. -/
def Mpu.SameEntries (m n : Mpu) : Prop :=
  n = { m with mca := n.mca, mcs := n.mcs, mcr := n.mcr, mci := n.mci, mpidx := n.mpidx }

theorem Mpu.SameEntries.refl (m : Mpu) : m.SameEntries m := rfl

theorem Mpu.SameEntries.trans {m n o : Mpu} (h : m.SameEntries n) (k : n.SameEntries o) : m.SameEntries o := by
  unfold Mpu.SameEntries at *
  rw [h] at k
  exact k

theorem State.During.layerDenies (d : s.During t) (same : s.mpu.SameEntries t.mpu) (l : Layer) (lo hi : Nat) (k : AccessKind)
    (user : Bool) : t.layerDenies s.mode l lo hi k user = s.layerDenies s.mode l lo hi k user := by
  have sets (rule : MatchRule) (sel : Nat → Bool) (spid : BitVec 5) :
      t.mpu.setAllows rule sel lo hi k user spid = s.mpu.setAllows rule sel lo hi k user spid := by
    rw [same]
    rfl
  have layer (l : Layer) : t.mpu.inLayer l = s.mpu.inLayer l := by
    rw [same]
    rfl
  obtain ⟨-, spid, mpm⟩ := d.host
  cases m : s.mode with
  | host =>
    cases l with
    | host => simp only [State.layerDenies, Ctx.mpe, Ctx.svp, Ctx.spid5, spid, mpm, d.hve, d.prod, layer, sets]
    | guest => rfl
  | guest =>
    obtain ⟨-, spid, mpm⟩ := d.guest m
    cases l <;> simp only [State.layerDenies, Ctx.mpe, Ctx.svp, Ctx.gmpe, Ctx.spid5, spid, mpm, d.prod, layer, sets]

/-- A permission holds in a state of the transfer where it held at its start. -/
theorem State.During.permits (d : s.During t) (same : s.mpu.SameEntries t.mpu) {a : Word} {n : Nat} {ks : List AccessKind} {user : Bool}
    (h : s.Permits a n ks user) : t.Permits a n ks user := by
  obtain ⟨allowed, ordinary⟩ := h
  refine ⟨?_, ?_⟩
  · rw [d.mode]
    simpa only [State.mpuViolation, d.layerDenies same] using allowed
  · rw [State.Ordinary, d.prod]
    exact ordinary

/-- What a block of loads relies on: its accesses, memory and the entries are those at its start. -/
structure State.Loading (s t : State) : Prop where
  during : s.During t
  mem : t.mem = s.mem
  entries : s.mpu.SameEntries t.mpu

theorem State.Loading.refl (s : State) : s.Loading s := ⟨.refl s, rfl, .refl _⟩

theorem State.Loading.trans {u : State} (h : s.Loading t) (k : t.Loading u) : s.Loading u :=
  ⟨h.during.trans k.during, k.mem.trans h.mem, h.entries.trans k.entries⟩

/-- R542 to R546: words loaded, every one permitted at the start, none of them changing an entry. -/
theorem loadBlock_folds {α : Type} {xs : List α} {a : Word} {itype : BitVec 5} {fin : State → Out} {put : State → α → Word → State}
    (keeps : ∀ t, s.Loading t → ∀ x ∈ xs, ∀ v, t.Loading (put t x v)) (permits : s.PermitsBlock a xs.length .read) :
    s.Loading (xs.zipIdx.foldl (fun t p => put t p.1 (s.readWord (blockAddress a p.2))) s) ∧
      loadBlock itype put xs a s fin = fin (xs.zipIdx.foldl (fun t p => put t p.1 (s.readWord (blockAddress a p.2))) s) :=
  State.loadBlock_eq itype put xs a fin s.Loading (.refl s)
    (fun _ h => ⟨h.mem, h.during.um, fun _ permitted => by rw [h.during.um]; exact h.during.permits h.entries permitted⟩)
    (fun t h x hx v => h.trans (keeps t h x hx v)) permits

/-! ## The registers of a bank -/

/-- R905: the general registers of a bank, from the lowest address upward. -/
def bankNumbers (big : Bool) : List Nat :=
  if big then (List.range 31).map fun k => 31 - k else 30 :: (List.range 19).map fun k => 19 - k

theorem bankRegs_reverse (s : State) : s.bankRegs.reverse = (bankNumbers s.bankMode1).map (BitVec.ofNat 5) := by
  unfold State.bankRegs bankNumbers
  cases s.bankMode1 <;> rfl

theorem bankRegs_length (s : State) : s.bankRegs.reverse.length = (bankNumbers s.bankMode1).length := by
  rw [bankRegs_reverse, List.length_map]

theorem bankRegs_nodup (s : State) : s.bankRegs.reverse.Nodup := by
  rw [bankRegs_reverse]
  cases s.bankMode1 <;> decide

theorem bankNumbers_range (big : Bool) : ∀ r ∈ bankNumbers big, 0 < r ∧ r < 32 := by cases big <;> decide

/-- R546: the place of sp. -/
theorem bankItems_sp (s : State) : (bankNumbers s.bankMode1)[s.bankItems.idxOf (.gpr sp)]? = some 3 := by
  unfold State.bankItems
  rw [bankRegs_reverse]
  cases s.bankMode1 <;> decide

theorem State.bankStart_eq (s : State) : s.bankStart = s.sys.rbip -
    BitVec.ofNat 32 (s.sys.rbnr.toNat % 64 * if s.sys.rbcr0.getLsbD 16 then 0x90 else 0x60) +
      (if s.sys.rbcr0.getLsbD 16 then 4 else 0) := by
  unfold State.bankStart State.bankSize State.bankMode1
  rw [State.bankNumber_eq, BitVec.ofNat_mul]
  cases s.sys.rbcr0.getLsbD 16 <;> rfl

/-- Loading general registers changes nothing else. -/
theorem State.loadRegs_gpr (keep : Reg → Bool) (value : Nat → Word) (rs : List Reg) (k : Nat) (t : State) :
    State.loadRegs keep value rs k t = { t with gpr := (State.loadRegs keep value rs k t).gpr } := by
  induction rs generalizing k t with
  | nil => rfl
  | cons r rs ih =>
    rw [State.loadRegs_cons, ih]
    cases keep r
    · rw [if_neg Bool.false_ne_true]
      unfold State.setReg
      split <;> rfl
    · rfl

/-- R546: the words above the general registers. -/
theorem writeBankSrs (u : State) (a b c d : Word) :
    (((u.writeSr .fpsr a).writeSr (.orig .eiic) b).writeSr (.orig .eipsw) c).writeSr (.orig .eipc) d =
      State.setCtx { u with sys := { u.sys with fpsr := a &&& 0xFFCEFFFF ||| 0x00200000 } } u.mode
        { u.cur with eiic := b, eipsw := c &&& u.cur.savedPswMask, eipc := d } := by
  have word (t : State) {m : Mode} (ht : t.mode = m) {x : CtxReg} (free : x ∉ guardedContext) (v : Word) :
      t.writeSr (.orig x) v = t.setCtx m ((t.ctx m).writePlain x v) := by
    rw [← ht]
    exact State.writeSr_own free v
  have start : (u.writeSr .fpsr a).mode = u.mode := rfl
  rw [word _ start (by decide), word (State.setCtx _ _ _) ((State.setCtx_mode ..).trans start) (by decide),
    word (State.setCtx _ _ _) ((State.setCtx_mode ..).trans ((State.setCtx_mode ..).trans start)) (by decide)]
  unfold State.cur
  cases u.mode <;> rfl

/-- R546: the state after the words of a bank. -/
def State.bankLoaded (s : State) (value : Nat → Word) : State :=
  let n := s.bankRegs.reverse.length
  let u := State.loadRegs (· == sp) value s.bankRegs.reverse 0 s
  State.setCtx { u with sys := { u.sys with fpsr := value n &&& 0xFFCEFFFF ||| 0x00200000 } } u.mode
    { u.cur with eiic := value (n + 1), eipsw := value (n + 2) &&& u.cur.savedPswMask, eipc := value (n + 3) }

theorem bankFold (s : State) (value : Nat → Word) :
    s.bankItems.zipIdx.foldl (fun t p => putBankItem t p.1 (value p.2)) s = s.bankLoaded value := by
  have gprs : (s.bankRegs.reverse.map BankItem.gpr).zipIdx.foldl (fun t p => putBankItem t p.1 (value p.2)) s =
      State.loadRegs (· == sp) value s.bankRegs.reverse 0 s := by
    rw [State.loadRegs, List.zipIdx_map, List.foldl_map]
    congr 1
    funext t p
    simp only [putBankItem, Prod.map, beq_iff_eq, id]
  rw [State.bankItems, List.zipIdx_append, List.foldl_append, gprs, State.bankLoaded, ← writeBankSrs]
  simp [putBankItem, List.zipIdx]

/-- R546: one word of a bank. -/
theorem putBankItem_loading (t : State) {x : BankItem} (h : x ∈ s.bankItems) (v : Word) : t.Loading (putBankItem t x v) := by
  obtain ⟨during, mem⟩ := putBankItem_keeps t h v
  refine ⟨during, mem, ?_⟩
  cases x with
  | gpr r =>
    unfold putBankItem State.setReg
    dsimp only
    split
    · exact .refl _
    · split <;> exact .refl _
  | sr r =>
    have items : r = .fpsr ∨ r = .orig .eiic ∨ r = .orig .eipsw ∨ r = .orig .eipc := by
      simpa [State.bankItems] using h
    have own {x : CtxReg} (free : x ∉ guardedContext) : t.mpu.SameEntries (t.writeSr (.orig x) v).mpu := by
      rw [State.writeSr_own free, State.setCtx_mpu]
      exact .refl _
    rcases items with rfl | rfl | rfl | rfl
    · exact .refl _
    · exact own (by decide)
    · exact own (by decide)
    · exact own (by decide)

/-- R546: RESBANK, every word permitted. -/
theorem resbank_loads (hum : s.um = false) (hbank : s.sys.rbnr.toNat % 64 ≠ 0)
    (permits : s.PermitsBlock s.bankStart s.bankItems.length .read) : exec .resbank s =
      .next (resbankEnd s.bankSp (s.bankNumber - 1) (s.bankLoaded fun k => s.readWord (blockAddress s.bankStart k))) := by
  obtain ⟨-, run⟩ := loadBlock_folds (itype := 22) (a := s.bankStart)
    (fin := fun t => .next (resbankEnd s.bankSp (s.bankNumber - 1) t)) (fun t _ x hx v => putBankItem_loading t hx v) permits
  rw [resbank_run hum hbank, run]
  exact congrArg (fun t => Host.Outcome.next (resbankEnd s.bankSp (s.bankNumber - 1) t)) 
    (bankFold s fun k => s.readWord (blockAddress s.bankStart k))

/-- R546: sp, RBNR and PSW.ID, after the words. -/
theorem resbankEnd_eq (v : Word) (bn : Nat) (t : State) {m : Mode} (ht : t.mode = m) : resbankEnd v bn t = State.setCtx { t with
    gpr := t.gpr.set sp.toNat v, pc := evenPc (t.pc + 4), sys := { t.sys with rbnr := BitVec.ofNat 32 bn } } m
      { t.ctx m with psw := putBit (t.ctx m).psw 5 true } := by
  have ends (x : State) (hx : x.mode = m) : (x.setPsw (putBit x.psw 5 true)).advance 4 =
      State.setCtx { x with pc := evenPc (x.pc + 4) } m { x.ctx m with psw := putBit (x.ctx m).psw 5 true } := by
    rw [State.setPsw, State.psw, State.cur, hx]
    cases m <;> rfl
  exact ends { t with gpr := t.gpr.set sp.toNat v, sys := { t.sys with rbnr := BitVec.ofNat 32 bn } } ht

/-- R546: word `k` of the bank in use. -/
def State.bankWord (s : State) (k : Nat) : Word := s.readWord (blockAddress s.bankStart k)

/-- R546: the general registers of the bank in use, sp at last. -/
def State.bankGprs (s : State) : Vector Word 32 :=
  (State.loadRegs (· == sp) s.bankWord s.bankRegs.reverse 0 s).gpr.set sp.toNat s.bankSp

/-- R546: the state that RESBANK leaves. -/
def State.bankRestored (s : State) : State :=
  let n := s.bankRegs.reverse.length
  let y : SysRegs :=
    { s.sys with fpsr := s.bankWord n &&& 0xFFCEFFFF ||| 0x00200000, rbnr := BitVec.ofNat 32 (s.bankNumber - 1) }
  let c : Ctx := { s.cur with
    eiic := s.bankWord (n + 1), eipsw := s.bankWord (n + 2) &&& s.cur.savedPswMask, eipc := s.bankWord (n + 3),
    psw := putBit s.cur.psw 5 true }
  State.setCtx { s with gpr := s.bankGprs, pc := evenPc (s.pc + 4), sys := y } s.mode c

theorem resbank_restores (hum : s.um = false) (hbank : s.sys.rbnr.toNat % 64 ≠ 0)
    (permits : s.PermitsBlock s.bankStart s.bankItems.length .read) : exec .resbank s = .next s.bankRestored := by
  have loaded : s.bankLoaded s.bankWord = State.setCtx { s with
      gpr := (State.loadRegs (· == sp) s.bankWord s.bankRegs.reverse 0 s).gpr,
      sys := { s.sys with fpsr := s.bankWord s.bankRegs.reverse.length &&& 0xFFCEFFFF ||| 0x00200000 } } s.mode
      { s.cur with
        eiic := s.bankWord (s.bankRegs.reverse.length + 1),
        eipsw := s.bankWord (s.bankRegs.reverse.length + 2) &&& s.cur.savedPswMask,
        eipc := s.bankWord (s.bankRegs.reverse.length + 3) } := by
    have rest : State.loadRegs (· == sp) s.bankWord s.bankRegs.reverse 0 s = _ := State.loadRegs_gpr ..
    rw [State.bankLoaded, rest]
    rfl
  refine (resbank_loads hum hbank permits).trans (congrArg Host.Outcome.next ?_)
  show resbankEnd s.bankSp (s.bankNumber - 1) (s.bankLoaded s.bankWord) = _
  have mode : (s.bankLoaded s.bankWord).mode = s.mode := by
    rw [loaded]
    exact (State.setCtx_mode ..).trans rfl
  rw [resbankEnd_eq _ _ _ mode, loaded, State.bankRestored, State.bankGprs, State.cur]
  cases s.mode <;> rfl

theorem State.bankRestored_reg (s : State) (r : Reg) :
    s.bankRestored.reg r = ((State.loadRegs (· == sp) s.bankWord s.bankRegs.reverse 0 s).setReg sp s.bankSp).reg r :=
  State.setCtx_reg ..

theorem bankNumbers_sp (big : Bool) : 3 ∈ bankNumbers big := by cases big <;> decide

/-- R546: each register of the bank takes its word. -/
theorem State.bankRestored_listed (s : State) {k r : Nat} (h : (bankNumbers s.bankMode1)[k]? = some r) :
    s.bankRestored.reg (BitVec.ofNat 5 r) = s.bankWord k := by
  obtain ⟨low, high⟩ := bankNumbers_range _ r (List.mem_of_getElem? h)
  have nonzero : BitVec.ofNat 5 r ≠ 0 := fun e => by
    have := congrArg BitVec.toNat e
    rw [BitVec.toNat_ofNat, Nat.mod_eq_of_lt high] at this
    exact absurd this (by simpa using low.ne')
  have listed : s.bankRegs.reverse[k]? = some (BitVec.ofNat 5 r) := by rw [bankRegs_reverse, List.getElem?_map, h]; rfl
  rw [State.bankRestored_reg]
  by_cases isSp : BitVec.ofNat 5 r = sp
  · have three : r = 3 := by
      have := congrArg BitVec.toNat isSp
      rwa [BitVec.toNat_ofNat, Nat.mod_eq_of_lt high] at this
    subst three
    have place : s.bankItems.idxOf (.gpr sp) = k := by
      have distinct : (bankNumbers s.bankMode1).Nodup := by cases s.bankMode1 <;> decide
      have inside := (List.getElem?_eq_some_iff.mp (bankItems_sp s)).1
      exact (List.getElem?_inj inside distinct).mp ((bankItems_sp s).trans h.symm)
    have holds := State.holds_setReg (State.loadRegs (· == sp) s.bankWord s.bankRegs.reverse 0 s) sp s.bankSp
    rw [← place]
    exact holds
  · have loaded := State.loadRegs_holds (keep := (· == sp)) (value := s.bankWord) (bankRegs_nodup s) 0 s listed (by simpa using isSp)
    have holds := State.holds_setReg_ne (w := s.bankSp) _ loaded isSp
    rw [Nat.zero_add, State.Holds, if_neg nonzero] at holds
    exact holds

theorem State.bankRestored_other (s : State) {r : Reg} (h : r.toNat ∉ bankNumbers s.bankMode1) : s.bankRestored.reg r = s.reg r := by
  have apart : r ∉ s.bankRegs.reverse := fun m => by
    rw [bankRegs_reverse] at m
    obtain ⟨x, hx, e⟩ := List.mem_map.mp m
    rw [← e, BitVec.toNat_ofNat, Nat.mod_eq_of_lt (bankNumbers_range _ x hx).2] at h
    exact h hx
  have notSp : r ≠ sp := fun e => h (by rw [e]; exact bankNumbers_sp _)
  obtain ⟨frame, -⟩ := State.loadRegs_keeps (keep := (· == sp)) (value := s.bankWord) s.bankRegs.reverse 0 s
  rw [State.bankRestored_reg]
  exact ((State.frame_setReg _ sp s.bankSp (D := only sp) rfl (B := noByte) (m := 0)).regs r notSp).trans (frame.regs r apart)

end Sys2Proof.Machine

open Sys2Proof.Machine

/-- Settles O31: the words of the bank go to their registers, sp last. -/
theorem resbankRestoresTheBank : Obligations.ResbankRestoresTheBank := by
  intro s hum
  dsimp only
  rw [← s.bankStart_eq]
  refine ⟨fun hbank permits => ?_, fun hbank => ?_⟩
  · have count : s.bankItems.length = (bankNumbers s.bankMode1).length + 4 := by
      rw [State.bankItems, List.length_append, List.length_map, bankRegs_length]
      rfl
    have words : s.bankRegs.reverse.length = (bankNumbers s.bankMode1).length := bankRegs_length s
    have run := resbank_restores hum hbank (by rw [count]; exact permits)
    have psw : putBit s.cur.psw 5 true = s.cur.psw ||| 0x20 := rfl
    have fpsr : s.bankRestored.sys = _ := State.setCtx_sys ..
    have ctx : s.bankRestored.ctx s.mode = _ := State.setCtx_ctx_same ..
    rw [words] at fpsr ctx
    refine ⟨_, run, State.setCtx_pc .., fun k r listed => s.bankRestored_listed listed, fun r apart => s.bankRestored_other apart,
      ?_, ?_, ?_, ?_, ?_, ?_, fun r notPsw notEipc notEipsw notEiic => ?_, fun k ne => ?_, State.setCtx_wr .., fun b => ?_,
      State.setCtx_mpu .., State.setCtx_cnt .., State.setCtx_link .., State.setCtx_halt ..⟩
    · rw [fpsr, State.bankNumber_eq]
    · rw [fpsr]
      rfl
    · rw [ctx]
      rfl
    · rw [ctx]
      rfl
    · rw [ctx]
      rfl
    · rw [ctx, psw]
    · rw [ctx]
      cases r
      case psw => exact absurd rfl notPsw
      case eipc => exact absurd rfl notEipc
      case eipsw => exact absurd rfl notEipsw
      case eiic => exact absurd rfl notEiic
      all_goals rfl
    · exact (State.setCtx_ctx ..).trans ((if_neg ne).trans (by cases k <;> rfl))
    · exact State.setCtx_readByte ..
  · have run : exec .resbank s = s.raiseSyserr 0x1D := by
      have mode : ¬ s.um = true := by simp [hum]
      exact (if_neg mode).trans (if_pos (by rwa [State.bankNumber_eq]))
    rw [State.raiseSyserr, syserrHandler_eq] at run
    exact State.raise_takes run
end

section
/-!
PROOFS. The block transfers of the guest registers (44_system.md R544, R545, 61_virtualization.md R900).
-/

namespace Sys2Proof.Machine

variable {s t : State} {v : Word}

/-! ## Registers loaded one after another -/

/-- Registers written in order, each of which takes what `value` says of its word: they hold it, and no other register changes. -/
theorem foldWrites_reads {xs : List SReg} (distinct : xs.Nodup) {shared : SReg → Prop} (P : State → Prop) (value : SReg → Word → Word)
    (gives : ∀ t, P t → ∀ r ∈ xs, t.readSr r = s.readSr r → ∀ v, t.Gives (t.writeSr r v) r (value r v) shared ∧ P (t.writeSr r v))
    (apart : ∀ r ∈ xs, ¬ shared r) (word : Nat → Word) :
    ∀ (k : Nat) (t : State), P t → (∀ r, ¬ shared r → r ∈ xs → t.readSr r = s.readSr r) →
      let u := (xs.zipIdx k).foldl (fun t p => t.writeSr p.1 (word p.2)) t
      P u ∧ (∀ r, r ∉ xs → ¬ shared r → u.readSr r = t.readSr r) ∧ ∀ n r, xs[n]? = some r → u.readSr r = value r (word (k + n)) := by
  induction xs with
  | nil => exact fun k t hP _ => ⟨hP, fun _ _ _ => rfl, fun n r h => by cases h⟩
  | cons x xs ih =>
    intro k t hP start
    obtain ⟨first, rest⟩ := List.nodup_cons.mp distinct
    obtain ⟨wrote, kept⟩ := gives t hP x List.mem_cons_self (start x (apart x List.mem_cons_self) List.mem_cons_self) (word k)
    obtain ⟨last, others, held⟩ := ih rest (fun t hP r hr => gives t hP r (List.mem_cons_of_mem _ hr))
      (fun r hr => apart r (List.mem_cons_of_mem _ hr)) (k + 1) (t.writeSr x (word k)) kept fun r free hr =>
        (wrote.others r (fun e => first (e ▸ hr)) free).trans (start r free (List.mem_cons_of_mem _ hr))
    refine ⟨last, fun r hr free => ?_, fun n r h => ?_⟩
    · obtain ⟨ne, later⟩ := not_or.mp (mt List.mem_cons.mpr hr)
      exact (others r later free).trans (wrote.others r ne free)
    · cases n with
      | zero =>
        obtain rfl : x = r := Option.some.inj h
        exact (others x first (apart x List.mem_cons_self)).trans wrote.value
      | succ n =>
        have later := held n r h
        rwa [Nat.add_right_comm] at later

/-! ## The registers of the block -/

/-- R900: the registers of the block with a filter of their own. -/
def gsrFiltered : List SReg := [.fpsr, .gm .eipsw, .gm .fepsw, .gm .psw, .gm .spid, .gm .spidlist, .gm .intcfg]

/-- R900: the writable bits of the other registers of the block. -/
def gsrMask : SReg → Word
  | .ctpsw | .mci | .mpidx => 0x1F
  | .ctbp | .fpepc => 0xFFFFFFFE
  | .sccfg => 0xFF
  | .scbp => 0xFFFFFFFC
  | .mctl | .gm .svlock => 1
  | .rbcr0 => 0x1FFFF
  | .rbcr1 => 0xFFFF
  | .rbnr | .gm .plmr => 0x3F
  | .rbip => 0xFFFFFFF0
  | .mcr => 0x3F3F013F
  | .gm .mei => 0xF01F0F3F
  | .gm .ebase => 0xFFFFFE03
  | .gm .intbp => 0xFFFFFE00
  | .gm .mpm => 7
  | _ => 0xFFFFFFFF

/-- R123, R124, R128, R180, R900: what a register of the block takes of a word. -/
def State.gsrTakes (s : State) (r : SReg) (v : Word) : Word :=
  match r with
  | .fpsr => v &&& 0xFFCEFFFF ||| 0x00200000
  | .gm .eipsw | .gm .fepsw => v &&& if s.guest.intcfg.getLsbD 1 then 0x43F380FF else 0x400380FF
  | .gm .psw => s.fixPsw .guest v
  | .gm .spid => if s.host.spidlist.getLsbD (v.toNat % 32) then v &&& 0x1F else s.guest.spid
  | .gm .spidlist => v &&& s.host.spidlist
  | .gm .intcfg => v &&& 0x003F0000 ||| s.guest.intcfg &&& 0xFFC0FFFF
  | r => v &&& gsrMask r

theorem State.gsrTakes_plain {r : SReg} (h : r ∉ gsrFiltered) : s.gsrTakes r v = v &&& gsrMask r := by
  cases r
  case fpsr => exact absurd (by decide) h
  case gm x => cases x <;> first | rfl | exact absurd (by decide) h
  all_goals rfl

/-- The registers of the block, by what a write to them does. -/
theorem gsrRegs_kinds : ∀ r ∈ gsrRegs, (r, gsrMask r) ∈ plainOnce ∧ r ∉ gsrFiltered ∨
    (∃ q ∈ plainContext, r = .gm q.1 ∧ gsrMask r = q.2 ∧ r ∉ gsrFiltered) ∨
      r ∈ [SReg.fpsr, .mcr, .mpidx, .gm .eipsw, .gm .fepsw, .gm .psw, .gm .spid, .gm .spidlist, .gm .intcfg, .gm .mpm] := by decide

/-! ## The state between the loads -/

/-- What the loads of the block keep. -/
structure State.GsrLoading (s t : State) : Prop where
  regs : s.RegsOnly t
  loading : s.Loading t
  host : t.host = s.host
  cnt : t.cnt = s.cnt
  gmcfg : t.sys.gmcfg = s.sys.gmcfg
  epl : t.guest.intcfg.getLsbD 1 = s.guest.intcfg.getLsbD 1

theorem State.GsrLoading.refl (s : State) : s.GsrLoading s := ⟨rfl, .refl s, rfl, rfl, rfl, rfl⟩

theorem State.GsrLoading.trans {u : State} (h : s.GsrLoading t) (k : t.GsrLoading u) : s.GsrLoading u :=
  ⟨h.regs.trans k.regs, h.loading.trans k.loading, k.host.trans h.host, k.cnt.trans h.cnt, k.gmcfg.trans h.gmcfg, k.epl.trans h.epl⟩

/-- R124: a guest copy keeps GMINTCFG.EPL. -/
theorem State.writeGuest_epl (s : State) (x : CtxReg) (v : Word) :
    (s.writeSr (.gm x) v).guest.intcfg.getLsbD 1 = s.guest.intcfg.getLsbD 1 := by
  cases x
  case intcfg => exact (putMasked_getLsbD ..).trans (if_neg Bool.false_ne_true)
  case spid => exact congrArg (BitVec.getLsbD · 1) (Ctx.writeSpid_other s.guest _ _ (y := .intcfg) nofun)
  all_goals rfl

theorem State.writeGuest_rest (s : State) (x : CtxReg) (v : Word) : (s.writeSr (.gm x) v).host = s.host ∧
    (s.writeSr (.gm x) v).cnt = s.cnt ∧ (s.writeSr (.gm x) v).sys = s.sys ∧ (s.writeSr (.gm x) v).mpu = s.mpu := by
  cases x <;> exact ⟨rfl, rfl, rfl, rfl⟩

theorem writeGsr_loading (hm : s.mode = .host) {r : SReg} (h : r ∈ gsrRegs) (v : Word) : s.GsrLoading (s.writeSr r v) := by
  have during := State.during_writeGsr hm h v
  have mem := State.writeGsr_mem s h v
  have kept : s.mpu.SameEntries (s.writeSr r v).mpu ∧ (s.writeSr r v).host = s.host ∧ (s.writeSr r v).cnt = s.cnt ∧
      (s.writeSr r v).sys.gmcfg = s.sys.gmcfg ∧ (s.writeSr r v).guest.intcfg.getLsbD 1 = s.guest.intcfg.getLsbD 1 := by
    have guest (x : CtxReg) : s.mpu.SameEntries (s.writeSr (.gm x) v).mpu ∧ (s.writeSr (.gm x) v).host = s.host ∧
        (s.writeSr (.gm x) v).cnt = s.cnt ∧ (s.writeSr (.gm x) v).sys.gmcfg = s.sys.gmcfg ∧
        (s.writeSr (.gm x) v).guest.intcfg.getLsbD 1 = s.guest.intcfg.getLsbD 1 := by
      obtain ⟨host, cnt, sys, mpu⟩ := s.writeGuest_rest x v
      exact ⟨by rw [mpu]; exact .refl _, host, cnt, by rw [sys], s.writeGuest_epl x v⟩
    have all : ∀ r ∈ gsrRegs, s.mpu.SameEntries (s.writeSr r v).mpu ∧ (s.writeSr r v).host = s.host ∧ (s.writeSr r v).cnt = s.cnt ∧
        (s.writeSr r v).sys.gmcfg = s.sys.gmcfg ∧ (s.writeSr r v).guest.intcfg.getLsbD 1 = s.guest.intcfg.getLsbD 1 := by
      simp only [gsrRegs, List.forall_mem_cons]
      refine ⟨?_, ?_, ?_, ?_, ?_, ?_, ?_, ?_, ?_, ?_, ?_, ?_, ?_, ?_, ?_, ?_, ?_, guest _, guest _, guest _, guest _, guest _, guest _,
        guest _, guest _, guest _, guest _, guest _, guest _, guest _, guest _, guest _, guest _, guest _, guest _, guest _, nofun⟩
      all_goals exact ⟨rfl, rfl, rfl, rfl, rfl⟩
    exact all r h
  obtain ⟨entries, host, cnt, gmcfg, epl⟩ := kept
  exact ⟨.writeSr r v, ⟨during, mem, entries⟩, host, cnt, gmcfg, epl⟩

/-- R900: the registers that show a part of one of the block, or the entry that one of it selects, or what its masks stop. -/
def gsrShared (r : SReg) : Prop := r ∈ [SReg.fpst, .fpcc, .fpcfg, .mpla, .mpua, .mpat, .imsr, .icsr]

theorem gsrRegs_unshared : ∀ r ∈ gsrRegs, ¬ gsrShared r := by
  unfold gsrShared
  decide

theorem State.GsrLoading.fixPsw (h : s.GsrLoading t) (v : Word) : t.fixPsw .guest v = s.fixPsw .guest v := by
  simp only [State.fixPsw, State.pswMask, Ctx.eimaskMask, State.cuMask, h.loading.during.prod, h.gmcfg, h.epl]

/-- R900: one register of the block. -/
theorem gsr_gives (hve : s.hve = true) (hm : s.mode = .host) (kept : s.GsrLoading t) {r : SReg} (h : r ∈ gsrRegs)
    (start : t.readSr r = s.readSr r) (v : Word) : t.Gives (t.writeSr r v) r (s.gsrTakes r v) gsrShared := by
  have mode : t.mode = .host := kept.loading.during.mode.trans hm
  have ht : t.hve = true := kept.loading.during.hve.trans hve
  have none {u : State} {w : Word} (g : t.Gives u r w fun _ => False) : t.Gives u r w gsrShared := g.mono fun _ => False.elim
  rcases gsrRegs_kinds r h with ⟨plain, free⟩ | ⟨q, plain, rfl, mask, free⟩ | own
  · rw [State.gsrTakes_plain free]
    exact none (.once plain v)
  · rw [State.gsrTakes_plain free, mask]
    exact none (.guestPlain mode (plainContext_unguarded _ plain) (Ctx.writePlain_value t.guest v _ plain))
  · simp only [List.mem_cons, List.not_mem_nil, or_false] at own
    rcases own with rfl | rfl | rfl | rfl | rfl | rfl | rfl | rfl | rfl | rfl
    · exact (fpsr_gives t v).mono fun k listed => by
        simp only [List.mem_cons, List.not_mem_nil, or_false] at listed
        rcases listed with rfl | rfl | rfl <;> (unfold gsrShared; decide)
    · have gives := mcr_gives t v
      rw [ht, if_pos rfl] at gives
      exact none gives
    · exact (mpidx_gives t v).1.mono fun k listed => by
        simp only [List.mem_cons, List.not_mem_nil, or_false] at listed
        rcases listed with rfl | rfl | rfl <;> (unfold gsrShared; decide)
    · have value := savedPsw_value t.guest v .eipsw (by decide)
      rw [kept.epl] at value
      exact none (.guestPlain mode (by decide) value)
    · have value := savedPsw_value t.guest v .fepsw (by decide)
      rw [kept.epl] at value
      exact none (.guestPlain mode (by decide) value)
    · exact none (.guestCopy mode (kept.fixPsw v) fun y ne => by cases y <;> first | rfl | exact absurd rfl ne)
    · have value := Ctx.writeSpid_spid t.guest t.host.spidlist v
      rw [kept.host, show t.guest.spid = s.guest.spid from start] at value
      refine none (.guestCopy mode ?_ fun _ ne => Ctx.writeSpid_other _ _ _ ne)
      rw [kept.host]
      exact value
    · refine none (.guestCopy mode ?_ fun y ne => by cases y <;> first | rfl | exact absurd rfl ne)
      exact congrArg (fun c : Ctx => v &&& c.spidlist) kept.host
    · refine none (.guestCopy mode ?_ fun y ne => by cases y <;> first | rfl | exact absurd rfl ne)
      exact (putMasked_swap ..).trans (congrArg (fun w => v &&& 0x003F0000 ||| w &&& 0xFFC0FFFF) start)
    · exact none (.guestCopy mode rfl fun y ne => by cases y <;> first | rfl | exact absurd rfl ne)

/-- R544, R900: what the registers of the block hold after LDM.GSR, and the others. -/
theorem ldmGsr_loads (hve : s.hve = true) (hm : s.mode = .host) (hum : s.um = false) {reg1 : Reg}
    (permits : s.PermitsBlock (s.reg reg1) 36 .read) : ∃ t, exec (.ldmGsr reg1) s = .next (t.advance 4) ∧ s.GsrLoading t ∧
      (∀ r, r ∉ gsrRegs → ¬ gsrShared r → t.readSr r = s.readSr r) ∧
      ∀ n r, gsrRegs[n]? = some r → t.readSr r = s.gsrTakes r (s.readWord (blockAddress (s.reg reg1) n)) := by
  have keeps (t : State) (h : s.Loading t) (r : SReg) (hr : r ∈ gsrRegs) (v : Word) : t.Loading (t.writeSr r v) :=
    (writeGsr_loading (h.during.mode.trans hm) hr v).loading
  obtain ⟨-, run⟩ := loadBlock_folds (itype := 14) (a := s.reg reg1) (fin := fun t => .next (t.advance 4)) keeps permits
  have reads := foldWrites_reads (s := s) (xs := gsrRegs) (by decide) (shared := gsrShared) s.GsrLoading s.gsrTakes
    (fun t kept r hr start v => ⟨gsr_gives hve hm kept hr start v,
      kept.trans (writeGsr_loading (kept.loading.during.mode.trans hm) hr v)⟩)
    gsrRegs_unshared (fun n => s.readWord (blockAddress (s.reg reg1) n)) 0 s (.refl s) fun _ _ _ => rfl
  obtain ⟨kept, others, held⟩ := reads
  exact ⟨_, (ldmGsr_run hum hve hm reg1).trans run, kept, others, fun n r h => by rw [held n r h, Nat.zero_add]⟩

/-- R900: the guest registers, MCR and MPIDX, whose filter is a mask. -/
def gsrPlain : List (SReg × Word) := [(.gm .eipc, 0xFFFFFFFF), (.gm .fepc, 0xFFFFFFFF), (.gm .mea, 0xFFFFFFFF),
  (.gm .mei, 0xF01F0F3F), (.gm .eiic, 0xFFFFFFFF), (.gm .feic, 0xFFFFFFFF), (.gm .ebase, 0xFFFFFE03),
  (.gm .intbp, 0xFFFFFE00), (.gm .plmr, 0x3F), (.gm .svlock, 1), (.gm .mpm, 7), (.gm .eiwr, 0xFFFFFFFF),
  (.gm .fewr, 0xFFFFFFFF), (.mcr, 0x3F3F013F), (.mpidx, 0x1F)]

theorem gsrPlain_mask : ∀ p ∈ gsrPlain ++ plainRegisters, p.1 ∈ gsrRegs → p.1 ∉ gsrFiltered ∧ gsrMask p.1 = p.2 := by decide

theorem guestBlock_get : ∀ p ∈ guestBlock, gsrRegs[p.1 - 1]? = some p.2 := by decide

end Sys2Proof.Machine

open Sys2Proof.Machine

/-- Settles O30: the block is read and written register by register. -/
theorem guestRegistersMoveInBlocks : Obligations.GuestRegistersMoveInBlocks := by
  intro s reg1 wf hve hm hum
  refine ⟨fun permits => ?_, fun permits => ?_⟩
  · obtain ⟨t, run, next, frame, units, stored⟩ :=
      storeBlock_completes (i := .stmGsr reg1) (get := State.readSr) (xs := gsrRegs) wf (by decide)
      (fun t u x memOnly => readSr_memOnly memOnly) (stmGsr_run hum hve hm reg1) permits
    exact ⟨t, run, next, frame, units, fun k r listed => stored _ _ (guestBlock_get (k, r) listed)⟩
  · obtain ⟨t, run, kept, others, held⟩ := ldmGsr_loads hve hm hum permits
    obtain ⟨next, program⟩ := kept.regs.advance 4
    have entries := kept.loading.entries
    have reads (r : Sys2Proof.Machine.SReg) : (t.advance 4).readSr r = t.readSr r := State.advance_readSr ..
    have psw : t.guest.psw = s.fixPsw .guest (s.readWord (blockAddress (s.reg reg1) 21)) := held 21 (.gm .psw) rfl
    refine ⟨_, run, next, program, kept.host, kept.cnt, by rw [State.advance_mpu, entries], by rw [State.advance_mpu, entries],
      ?_, fun r free unshared => ?_, fun k r x listed filtered => ?_, fun k r mask listed plain => ?_⟩
    · show s.PswTakes .guest _ t.guest.psw
      rw [psw]
      exact s.pswTakes_fixPsw .guest _
    · refine (reads r).trans (others r (fun member => ?_) unshared)
      rw [gsrRegs_eq] at member
      obtain ⟨p, hp, e⟩ := List.mem_map.mp member
      exact free p.1 (e ▸ hp)
    · rw [reads, held _ r (guestBlock_get (k, r) listed)]
      simp only [List.mem_cons, Prod.mk.injEq, List.not_mem_nil, or_false] at filtered
      rcases filtered with ⟨rfl, rfl⟩ | ⟨rfl, rfl⟩ | ⟨rfl, rfl⟩ | ⟨rfl, rfl⟩ | ⟨rfl, rfl⟩ | ⟨rfl, rfl⟩
      all_goals rfl
    · obtain ⟨free, same⟩ := gsrPlain_mask (r, mask) plain (List.mem_of_getElem? (guestBlock_get (k, r) listed))
      rw [reads, held _ r (guestBlock_get (k, r) listed), State.gsrTakes_plain free, same]
end

section
/-!
PROOFS. Reset, the beginning of a step, and a step that runs an instruction (70_reset_and_hazards.md R930 to R932, 60_exceptions.md R806).
-/

namespace Sys2Proof.Machine

variable {s : State}

/-! ## Reset -/

/-- 21_mpu.md R255: no entry is valid after reset. -/
theorem Mpu.reset_entries (p : Product) (n : Fin 32) :
    (Mpu.reset p).bank0[n].mpat.getLsbD 7 = false ∧ (Mpu.reset p).bank1[n].mpat.getLsbD 7 = false := by
  simp [Mpu.reset]

theorem Counters.reset_channels (n : Fin 8) : Counters.reset.pmctrl[n] = 0 ∧ Counters.reset.pmsubcnd[n] = 0 := by
  simp [Counters.reset]

/-- 11_sysregs.md R103: HVE after reset. -/
theorem State.resetOf_hve (p : Product) :
    (State.resetOf p).hve = true ↔ p.hveReset = true ∧ (State.resetOf p).hasHv = true := by
  have mh2 : (State.resetOf p).hasHv = (p.pid.extractLsb' 24 8 == 7 && p.pid.getLsbD 23) := rfl
  have hve : (State.resetOf p).hve = (if p.hveReset && p.pid.extractLsb' 24 8 == 7 && p.pid.getLsbD 23 then (1 : Word) else 0).getLsbD 0 :=
    rfl
  rw [mh2, hve, ← Bool.and_eq_true, ← Bool.and_assoc]
  cases p.hveReset && p.pid.extractLsb' 24 8 == 7 && p.pid.getLsbD 23 <;> decide

theorem step_reset (h : s.begin.env.reset = true) : step s = .next s.begin.afterReset := by
  simp only [step, h, if_true]

/-! ## The beginning of a step -/

/-- 20_memory.md R204, R215: each byte that others wrote, the last value of it. -/
theorem State.readByte_writeBytes (h : s.memWf) (ws : List (Word × Byte)) (a : Word) :
    (s.writeBytes ws).readByte a = ((ws.reverse.find? fun w => w.1 = a).map Prod.snd).getD (s.readByte a) := by
  induction ws generalizing s with
  | nil => rfl
  | cons w ws ih =>
    rw [State.writeBytes_cons, ih (State.memWf_writeByte s h w.1 w.2), List.reverse_cons, List.find?_append,
      State.readByte_writeByte s h]
    cases ws.reverse.find? fun w => w.1 = a with
    | some x => rfl
    | none =>
      by_cases here : a = w.1
      · simp [here]
      · simp [here, Ne.symm here]

theorem State.begin_env (s : State) : s.begin.env = (s.inputs.headD s.env).taken s.mode := by rw [State.begin_eq]

/-- 70_reset_and_hazards.md R944 -/
theorem Env.taken_syserr (e : Env) (m : Mode) :
    (e.taken m).syserr = e.syserr.map fun q => if m = .guest then { q with guest := true } else q := by
  unfold Env.taken
  have other : (Mode.host == Mode.guest) = false := rfl
  cases m <;> cases e.syserr <;> simp [other]

/-- 43_special_stack_atomic.md R518 (d) -/
theorem State.begin_link_bit (s : State) : s.begin.link.bit = true ↔ s.link.bit = true ∧ (s.inputs.headD s.env).linkLoss = false ∧
    ∀ w ∈ (s.inputs.headD s.env).writes, ¬ storedBytes s.link.adr s.link.size w.1 := by
  have kept (t : State) (ws : List (Word × Byte)) : (t.writeBytes ws).link = t.link := by rw [State.writeBytes_eq]
  have free (ws : List (Word × Byte)) : (∀ w ∈ ws, ¬ storedBytes s.link.adr s.link.size w.1) ↔
      (ws.any fun w => s.link.covers w.1) = false := by
    simp [Link.covers, storedBytes]
  rw [free]
  unfold State.begin
  rcases s.inputs with _ | ⟨e, rest⟩
  all_goals
    dsimp only
    split
    · next lost =>
      rw [Bool.or_eq_true] at lost
      refine iff_of_false Bool.false_ne_true fun ⟨_, held, clear⟩ => ?_
      rcases lost with loss | written
      · exact absurd (loss.symm.trans held) (by decide)
      · exact absurd (written.symm.trans clear) (by decide)
    · next safe =>
      obtain ⟨held, clear⟩ := Bool.or_eq_false_iff.mp (Bool.eq_false_iff.mpr safe)
      exact (congrArg (fun l : Link => l.bit = true) (kept _ _)).to_iff.trans
        ⟨fun h => ⟨h, held, clear⟩, fun h => h.1⟩

/-! ## A step that runs an instruction -/

/-- A report of a device read does not make an instruction incomplete. -/
theorem State.completed_deviceRead (t : State) (tag : AccessTag) (a : Word) (n : Nat) :
    State.completed { t with out := .deviceRead tag a n :: t.out } = t.completed := by
  unfold State.completed
  rw [List.any_cons, Bool.false_or]

/-- R202: the report of a fetch. -/
theorem noteDevice_fetch {a : Word} {n : Nat} {u : State} : ∃ tag es, s.Tags s.mode tag ∧
    es = (if s.prod.touches .device a n then [Event.deviceRead tag a n] else []) ∧
    s.noteDevice a n [.exec] (.next u) = .next { u with out := es ++ u.out } ∧
    State.completed { u with out := es ++ u.out } = u.completed := by
  refine ⟨s.accessTag, _, s.tags_accessTag, rfl, ?_⟩
  unfold State.noteDevice
  split
  · exact ⟨rfl, State.completed_deviceRead ..⟩
  · exact ⟨rfl, rfl⟩

theorem State.wake_running (h : s.halt = .running) : s.wake = some s := by rw [State.wake, h]

theorem State.runStep_fetch (h : s.pick = none) : s.runStep = mapNext (s.finish true) (s.fetchRun exec) := by rw [State.runStep, h]

theorem State.fetchRun_decoded {run : Instr → State → Out} {i : Instr} {n : Nat} {rest : List Byte} (go : s.fetchStop = none)
    (h : decodeBytes s.prod.enc s.fetchBytes = .instr i n rest) :
    s.fetchRun run = s.noteDevice s.pc s.fetchLength [.exec] (run i s) := by
  rw [State.fetchRun, go, h]

/-- The counters after a step. -/
noncomputable def State.countAll (s : State) (ran : Bool) (t : State) : State :=
  (List.finRange 8).foldl (countChannel s ran) (countTime s t)

/-- R850, R851: counting changes the counters alone. -/
theorem State.countAll_eq (s : State) (ran : Bool) (t : State) : s.countAll ran t = { t with cnt := (s.countAll ran t).cnt } := by
  have time : countTime s t = { t with cnt := (countTime s t).cnt } := by unfold countTime; split <;> rfl
  have channels (l : List (Fin 8)) (u : State) :
      l.foldl (countChannel s ran) u = { u with cnt := (l.foldl (countChannel s ran) u).cnt } := by
    induction l generalizing u with
    | nil => rfl
    | cons n l ih => rw [List.foldl_cons, ih, countChannel_eq]
  unfold State.countAll
  rw [channels, time]

/-- What the end of a step changes, and the address of a completed instruction. -/
theorem State.finish_counts (s : State) (ran : Bool) (t : State) : s.finish ran t = { t with
    cnt := (s.countAll ran t).cnt, lastPc := if ran && t.completed then some s.pc else t.lastPc, free := t.free + 9 } := by
  show ({ s.countAll ran t with
    lastPc := if ran && t.completed then some s.pc else (s.countAll ran t).lastPc, free := (s.countAll ran t).free + 9 } : State) = _
  rw [State.countAll_eq]

end Sys2Proof.Machine

open Sys2Proof.Machine

/-- Settles O46. -/
theorem resetLeavesTheStatedState : Obligations.ResetLeavesTheStatedState := by
  have guest : (0x000F0002 : Sys2Proof.Word) &&& 0x003FFFFF = 0x000F0002 := by decide
  refine ⟨fun p => ⟨rfl, rfl, rfl, rfl, rfl, rfl, rfl, rfl, rfl, rfl, rfl, rfl, rfl, rfl, rfl, rfl, rfl, rfl, rfl, rfl, rfl, rfl, rfl, rfl,
    rfl, rfl, rfl, rfl, rfl, rfl, rfl, rfl, Mpu.reset_entries p, guest, rfl, rfl, rfl, rfl, Counters.reset_channels, rfl, rfl, rfl, rfl,
    rfl, rfl, rfl, rfl, rfl, rfl, rfl, State.resetOf_hve p, rfl, rfl, rfl⟩, fun s reset => ?_⟩
  have same : s.begin.afterReset = { State.resetOf s.prod with
      host := { (State.resetOf s.prod).host with fepc := s.begin.lastPc.getD (Sys2Proof.Config.freeWord s.begin.free) }
      mem := s.begin.mem, lastPc := s.begin.lastPc, inputs := s.begin.inputs, free := s.begin.free + 1 } := by
    rw [State.afterReset, s.begin_prod]
  refine ⟨_, (step_reset reset).trans (congrArg _ same), rfl, rfl, rfl, rfl, fun r ne => ?_, fun a last => ?_, rfl, rfl, rfl, rfl, rfl, rfl⟩
  · cases r <;> first | rfl | exact absurd rfl ne
  · show s.begin.lastPc.getD _ = a
    rw [last]
    rfl

/-- Settles O47. -/
theorem stepRunsTheDecodedInstruction : Obligations.StepRunsTheDecodedInstruction := by
  refine ⟨fun s i n rest => ?_, fun s => ⟨?_, fun wf a => ?_, ?_, ?_, s.begin_link_bit⟩⟩
  · intro s0 reset running noRequest go decoded u run
    have wake : s0.wake = some s0 := State.wake_running (s.begin_halt.trans running)
    have prod : s0.prod = s.prod := s.begin_prod
    have pc : s0.pc = s.pc := s.begin_pc
    obtain ⟨tag, es, tags, listed, noted, completed⟩ := noteDevice_fetch (s := s0) (a := s0.pc) (n := s0.fetchLength) (u := u)
    have fetched : s0.fetchRun exec = .next { u with out := es ++ u.out } := by
      rw [State.fetchRun_decoded go (by rw [prod]; exact decoded), run, noted]
    have ends := s0.finish_counts true { u with out := es ++ u.out }
    have mode : s0.mode = s.mode := by simp [s0, State.mode, State.hve]
    have ctx (m : Mode) : s0.ctx m = s.ctx m := by cases m <;> simp [s0, State.ctx]
    refine ⟨_, (step_of_awake reset wake).trans ((State.runStep_fetch noRequest).trans (congrArg _ fetched)), ?_, ⟨tag, ?_, ?_⟩, ?_⟩
    · rw [ends]
    · rw [State.Tags, ← mode, ← ctx, show s.sys = s0.sys from s.begin_sys.symm]
      exact tags
    · rw [ends, ← prod, ← pc, ← listed]
    · intro done
      rw [ends, completed, done, pc]
      rfl
  · have taken := s.begin_eq
    have syserr : s.begin.env.syserr = ((s.inputs.headD s.env).taken s.mode).syserr := by rw [s.begin_env]
    rw [syserr]
    have link : s.begin.link = { s.link with bit := s.begin.link.bit } := congrArg State.link taken
    refine taken.trans ?_
    rw [← link]
    rfl
  · show Memory.read s.begin.mem a.toNat = _
    rw [State.begin_mem]
    exact State.readByte_writeBytes wf _ a
  · rw [s.begin_env, Env.taken_syserr]
  · have link := congrArg State.link s.begin_eq
    exact link
end

section
/-!
PROOFS. The counters after a step (60_exceptions.md R850, R851, 11_sysregs.md R150 to R156).
-/

namespace Sys2Proof.Machine

variable {s t : State}

/-! ## One channel -/

/-- The enables of a channel. -/
def countsHost (s : State) (ctrl : Word) : Bool := !s.hve || ctrl.getLsbD 24
@[inherit_doc countsHost]
def countsGuest (s : State) (ctrl : Word) : Bool := s.hve && ctrl.getLsbD (16 + s.gpid.toNat)

/-- R155: how often the event of channel `n` happened. -/
noncomputable def channelCount (s : State) (ran : Bool) (t : State) (n : Fin 8) : Nat :=
  let ctrl := s.cnt.pmctrl[n]
  eventCount s t ran (ctrl.extractLsb' 8 8).toNat (countsHost s ctrl) (countsGuest s ctrl) (s.free + 1 + n)

/-- R155, R156: the registers of a channel after a step. -/
theorem countChannel_same (s : State) (ran : Bool) (t : State) (n : Fin 8) :
    let u := countChannel s ran t n
    let now := t.cnt.pmcount[n].toNat + channelCount s ran t n
    (s.cnt.pmctrl[n].getLsbD 0 = true → u.cnt.pmcount[n] = BitVec.ofNat 32 now ∧
      u.cnt.pmctrl[n] = if 2 ^ 32 ≤ now then t.cnt.pmctrl[n] ||| 2 else t.cnt.pmctrl[n]) ∧
    (s.cnt.pmctrl[n].getLsbD 0 = false → u = t) := by
  intro u now
  have at_u : u = countChannel s ran t n := rfl
  unfold countChannel at at_u
  dsimp only at at_u
  refine ⟨fun on => ?_, fun off => ?_⟩
  · rw [if_pos on] at at_u
    rw [at_u]
    refine ⟨Vector.getElem_set_self .., ?_⟩
    dsimp only
    by_cases full : 2 ^ 32 ≤ now
    · rw [if_pos full]
      refine Eq.trans ?_ (Vector.getElem_set_self (xs := t.cnt.pmctrl) (i := n) (x := t.cnt.pmctrl[n] ||| 2) n.isLt)
      exact congrArg (fun v : Vector Word 8 => v[n]) (if_pos full)
    · rw [if_neg full]
      exact congrArg (fun v : Vector Word 8 => v[n]) (if_neg full)
  · rw [at_u, if_neg (by rw [off]; exact Bool.false_ne_true)]

/-- R155: the other channels. -/
theorem countChannel_other (s : State) (ran : Bool) (t : State) {n k : Fin 8} (ne : k ≠ n) :
    (countChannel s ran t n).cnt.pmcount[k] = t.cnt.pmcount[k] ∧ (countChannel s ran t n).cnt.pmctrl[k] = t.cnt.pmctrl[k] := by
  have other (v : Vector Word 8) (x : Word) : (v.set n x)[k] = v[k] := Vector.getElem_set_ne _ _ fun e => ne (Fin.ext e.symm)
  unfold countChannel
  dsimp only
  split
  · refine ⟨other _ _, ?_⟩
    dsimp only
    split
    · exact other _ _
    · rfl
  · exact ⟨rfl, rfl⟩

/-- The registers of channel `k` in `u`, after it was counted from `t`. -/
def ChannelCounted (s : State) (ran : Bool) (t u : State) (k : Fin 8) : Prop :=
  let now := t.cnt.pmcount[k].toNat + channelCount s ran t k
  (s.cnt.pmctrl[k].getLsbD 0 = true → u.cnt.pmcount[k] = BitVec.ofNat 32 now ∧
    u.cnt.pmctrl[k] = if 2 ^ 32 ≤ now then t.cnt.pmctrl[k] ||| 2 else t.cnt.pmctrl[k]) ∧
  (s.cnt.pmctrl[k].getLsbD 0 = false → u.cnt.pmcount[k] = t.cnt.pmcount[k] ∧ u.cnt.pmctrl[k] = t.cnt.pmctrl[k])

/-- Counting other channels keeps channel `k`. -/
theorem countChannels_keep (ran : Bool) {k : Fin 8} {l : List (Fin 8)} (apart : k ∉ l) (v : State) :
    (l.foldl (countChannel s ran) v).cnt.pmcount[k] = v.cnt.pmcount[k] ∧
      (l.foldl (countChannel s ran) v).cnt.pmctrl[k] = v.cnt.pmctrl[k] := by
  induction l generalizing v with
  | nil => exact ⟨rfl, rfl⟩
  | cons n l ih =>
    obtain ⟨ne, later⟩ := not_or.mp (mt List.mem_cons.mpr apart)
    obtain ⟨count, ctrl⟩ := countChannel_other s ran v ne
    obtain ⟨count', ctrl'⟩ := ih later (countChannel s ran v n)
    exact ⟨count'.trans count, ctrl'.trans ctrl⟩

/-- R155: counting all channels counts each of them once, with what happened in the step. -/
theorem countChannels_counted (ran : Bool) {k : Fin 8} {l : List (Fin 8)} (distinct : l.Nodup) (listed : k ∈ l) (c : Counters)
    (count : c.pmcount[k] = t.cnt.pmcount[k]) (ctrl : c.pmctrl[k] = t.cnt.pmctrl[k]) :
    ChannelCounted s ran t (l.foldl (countChannel s ran) { t with cnt := c }) k := by
  induction l generalizing c with
  | nil => cases listed
  | cons n l ih =>
    obtain ⟨first, rest⟩ := List.nodup_cons.mp distinct
    rw [List.foldl_cons]
    by_cases here : k = n
    · subst here
      obtain ⟨count', ctrl'⟩ := countChannels_keep (s := s) ran first (countChannel s ran { t with cnt := c } k)
      obtain ⟨on, off⟩ := countChannel_same s ran { t with cnt := c } k
      unfold ChannelCounted
      rw [count', ctrl', ← count, ← ctrl]
      exact ⟨on, fun h => by rw [off h]; exact ⟨rfl, rfl⟩⟩
    · obtain ⟨count', ctrl'⟩ := countChannel_other s ran { t with cnt := c } here
      rw [countChannel_eq]
      exact ih rest (List.mem_of_ne_of_mem here listed) _ (count'.trans count) (ctrl'.trans ctrl)

/-- Counting changes the registers of the channels alone. -/
theorem countChannels_rest (ran : Bool) (l : List (Fin 8)) (v : State) : (l.foldl (countChannel s ran) v).cnt = { v.cnt with
    pmctrl := (l.foldl (countChannel s ran) v).cnt.pmctrl, pmcount := (l.foldl (countChannel s ran) v).cnt.pmcount } := by
  induction l generalizing v with
  | nil => rfl
  | cons n l ih =>
    rw [List.foldl_cons, ih, countChannel_eq]

/-- R850: the timestamp counter. -/
theorem countTime_cnt (s t : State) : ∃ x, countTime s t = { t with cnt := { t.cnt with tscount := x } } ∧
    if s.cnt.tsctrl.getLsbD 0 = true ∧ t.cnt.tsctrl.getLsbD 0 = true then ∃ n : Nat, 0 < n ∧ x = t.cnt.tscount + BitVec.ofNat 64 n
    else x = t.cnt.tscount := by
  unfold countTime
  simp only [← Bool.and_eq_true]
  split
  · exact ⟨_, rfl, _, Nat.succ_pos _, rfl⟩
  · exact ⟨_, rfl, rfl⟩

/-- R850, R851: the counters after a step. -/
theorem State.countAll_cnt (s : State) (ran : Bool) (t : State) : let u := s.countAll ran t
    u.cnt = { t.cnt with tscount := u.cnt.tscount, pmctrl := u.cnt.pmctrl, pmcount := u.cnt.pmcount } ∧
    (if s.cnt.tsctrl.getLsbD 0 = true ∧ t.cnt.tsctrl.getLsbD 0 = true then
      ∃ n : Nat, 0 < n ∧ u.cnt.tscount = t.cnt.tscount + BitVec.ofNat 64 n else u.cnt.tscount = t.cnt.tscount) ∧
    ∀ k, ChannelCounted s ran t u k := by
  intro u
  obtain ⟨x, time, advanced⟩ := countTime_cnt s t
  have at_u : u = (List.finRange 8).foldl (countChannel s ran) { t with cnt := { t.cnt with tscount := x } } := by rw [← time]; rfl
  have rest := countChannels_rest (s := s) ran (List.finRange 8) { t with cnt := { t.cnt with tscount := x } }
  rw [← at_u] at rest
  have tscount : u.cnt.tscount = x := by rw [rest]
  refine ⟨?_, ?_, fun k => ?_⟩
  · rw [tscount]
    exact rest
  · rw [tscount]
    exact advanced
  · rw [at_u]
    exact countChannels_counted ran (List.nodup_finRange 8) (List.mem_finRange k) _ rfl rfl

/-! ## The events -/

theorem selected_event (ctrl : Word) : (ctrl.extractLsb' 8 8).toNat = ctrl.toNat / 2 ^ 8 % 2 ^ 8 := by
  rw [BitVec.extractLsb'_toNat, Nat.shiftRight_eq_div_pow]

section
variable (s t : State) (ran host guest : Bool) (free : Nat)

/-- Two ways to name the events that count. -/
theorem eventCount_filter {p q : Event → Bool} (h : ∀ e, p e = q e) : (t.out.filter p).length = (t.out.filter q).length := by
  rw [funext h]

/-- R155, event 20H: EIINT and GMEIINT. -/
theorem eventCount_ei : eventCount s t ran 0x20 host guest free =
    (t.out.filter fun e => (e == .accepted .eiint && host) || (e == .accepted .gmeiint && guest)).length := by
  refine eventCount_filter t fun e => ?_
  cases e with
  | accepted k => cases k <;> simp
  | _ => simp

/-- R155, event 21H: FEINT and GMFEINT. -/
theorem eventCount_fe : eventCount s t ran 0x21 host guest free =
    (t.out.filter fun e => (e == .accepted .feint && host) || (e == .accepted .gmfeint && guest)).length := by
  refine eventCount_filter t fun e => ?_
  cases e with
  | accepted k => cases k <;> simp
  | _ => simp

/-- R155, event 22H: every interrupt and every terminating exception. -/
theorem eventCount_terminating : eventCount s t ran 0x22 host guest free = (t.out.filter fun e =>
      (e ∈ [.accepted .fenmi, .accepted .feint, .accepted .eiint, .accepted .bgfeint, .accepted .bgeiint, .terminating .host] &&
        host) || (e ∈ [.accepted .gmfeint, .accepted .gmeiint, .terminating .guest] && guest)).length := by
  refine eventCount_filter t fun e => ?_
  cases e with
  | accepted k => cases k <;> simp
  | terminating m => cases m <;> simp
  | _ => simp

/-- R155, event 23H: the resumable and the pending exceptions. -/
theorem eventCount_resumable : eventCount s t ran 0x23 host guest free = (t.out.filter fun e =>
      (e ∈ [.resumable .host, .pending .host] && host) || (e ∈ [.resumable .guest, .pending .guest] && guest)).length := by
  refine eventCount_filter t fun e => ?_
  cases e with
  | resumable m => cases m <;> simp
  | pending m => cases m <;> simp
  | _ => simp

/-- R155, event 24H: the background interrupts. -/
theorem eventCount_background : eventCount s t ran 0x24 host guest free =
    (t.out.filter fun e => e ∈ [.accepted .bgfeint, .accepted .bgeiint] && guest).length := by
  refine eventCount_filter t fun e => ?_
  cases e with
  | accepted k => cases k <;> simp
  | _ => simp

end

/-- An event of the instruction itself counts once or not at all. -/
theorem once_stated {ran on taken ended : Bool} {finished taken' : Prop} (same : taken = true ↔ taken') (ends : finished → ended = true)
    {n : Nat} (count : n = if ran && on && ended && taken then 1 else 0) :
    n ≤ 1 ∧ (ran = false ∨ on = false ∨ ¬ taken' → n = 0) ∧ (ran = true → on = true → taken' → finished → n = 1) := by
  refine ⟨?_, ?_, fun hran hon htaken done => ?_⟩
  · rw [count]
    split <;> omega
  · rintro (off | off | off)
    · simp [count, off]
    · simp [count, off]
    · simp [count, Bool.eq_false_iff.mpr (mt same.mp off)]
  · rw [count, hran, hon, same.mpr htaken, ends done]
    rfl

theorem branched_iff (s t : State) : branched s t = true ↔ t.pc ≠ s.pc + BitVec.ofNat 32 s.fetchLength ∨
    ∃ i k rest, decodeBytes s.prod.enc s.fetchBytes = .instr i k rest ∧ branches i s = true := by
  unfold branched
  cases decodeBytes s.prod.enc s.fetchBytes <;> simp

theorem executed_of {free : Nat} (h : t.completed = true ∨ (s.mode = .guest ∧ t.mode = .host)) : executed s t free = true := by
  unfold executed
  rcases h with done | ⟨guest, host⟩
  · rw [done]
    rfl
  · rw [guest, host, Bool.or_assoc]
    exact Bool.or_true _

/-- R155: what is counted is what `Counts` states. -/
theorem channelCount_counts (s : State) (ran : Bool) (t : State) (n : Fin 8) :
    s.Counts t ran s.cnt.pmctrl[n] (channelCount s ran t n) := by
  unfold channelCount State.Counts
  dsimp only
  rw [selected_event]
  generalize s.cnt.pmctrl[n] = ctrl
  generalize ctrl.toNat / 2 ^ 8 % 2 ^ 8 = cnd
  split
  · exact once_stated (on := match s.mode with | .host => countsHost s ctrl | .guest => countsGuest s ctrl) (taken := true)
      (iff_of_true rfl trivial) (executed_of (free := s.free + 1 + n)) (by rw [Bool.and_true]; rfl)
  · exact once_stated (branched_iff s t) (executed_of (free := s.free + 1 + n)) rfl
  · exact eventCount_ei ..
  · exact eventCount_fe ..
  · exact eventCount_terminating ..
  · exact eventCount_resumable ..
  · exact eventCount_background ..
  · trivial

end Sys2Proof.Machine

open Sys2Proof.Machine

/-- Settles O48. -/
theorem stepsAdvanceTheCounters : Obligations.StepsAdvanceTheCounters := by
  refine ⟨fun s u ran => ?_,
    fun s reset => ⟨fun asleep => step_of_asleep reset asleep, fun s1 awake => ⟨fun a request => ?_, fun none => ?_⟩⟩⟩
  · intro t
    obtain ⟨rest, time, channels⟩ := s.countAll_cnt ran u
    have ends := s.finish_counts ran u
    have cnt : t.cnt = (s.countAll ran u).cnt := by rw [show t = _ from ends]
    rw [← cnt] at rest time
    refine ⟨?_, time, fun k => ?_⟩
    · rw [← rest]
      simp only [t, ends, Bool.and_eq_true]
    · obtain ⟨on, off⟩ := channels k
      rw [← cnt] at on off
      dsimp only
      cases enabled : s.cnt.pmctrl[k].getLsbD 0
      · exact off enabled
      · exact ⟨_, channelCount_counts s ran u k, on enabled⟩
  · rw [step_of_awake reset awake, State.runStep, request]
  · rw [step_of_awake reset awake, State.runStep_fetch none]
end

section
/-!
PROOFS. The fetch and what stops it (20_memory.md R209, 21_mpu.md R262 to R275, 60_exceptions.md R806).
-/

namespace Sys2Proof.Machine

variable {s : State}

/-! ## The bytes fetched -/

theorem State.fetchBytes_length (s : State) : s.fetchBytes.length = 8 := by simp [State.fetchBytes]

theorem State.fetchBytes_get (s : State) {k : Nat} (h : k < 8) : s.fetchBytes[k]? = some (s.readByte (s.pc + BitVec.ofNat 32 k)) := by
  simp [State.fetchBytes, h]

theorem natOfBytes_half (a b : Byte) : natOfBytes [a, b] = (b ++ a).toNat := by
  have small := a.isLt
  rw [BitVec.toNat_append, ← Nat.shiftLeft_add_eq_or_of_lt small, Nat.shiftLeft_eq]
  simp only [natOfBytes]
  omega

/-- R301: the first two halfwords give the length. -/
theorem State.fetchLength_eq (s : State) :
    instrLength (natOfBytes (s.fetchBytes.take 2)) (natOfBytes ((s.fetchBytes.drop 2).take 2)) = s.fetchLength := by
  have first : s.fetchBytes.take 2 = [s.readByte (s.pc + 0), s.readByte (s.pc + 1)] := rfl
  have second : (s.fetchBytes.drop 2).take 2 = [s.readByte (s.pc + 2), s.readByte (s.pc + 3)] := rfl
  have next : s.pc + 2 + 1 = s.pc + 3 := BitVec.add_assoc ..
  rw [first, second, natOfBytes_half, natOfBytes_half, State.fetchLength, State.readHalf, State.readHalf, next,
    show s.pc + 0 = s.pc from BitVec.add_zero _]

theorem decodeBytes_length {e : Enc} {bs rest : List Byte} {i : Instr} {n : Nat} (h : decodeBytes e bs = .instr i n rest) :
    instrLength (natOfBytes (bs.take 2)) (natOfBytes ((bs.drop 2).take 2)) = n := by
  unfold decodeBytes at h
  dsimp only at h
  split at h
  · cases h
  · split at h
    · cases h
      rfl
    · cases h

theorem State.fetchViolation_none : s.fetchViolation = none ↔ ∀ n, n < s.fetchLength / 2 → s.HalfwordDenied n = none := by
  unfold State.fetchViolation
  rw [List.findSome?_eq_none_iff]
  simp [State.HalfwordDenied]

theorem State.fetchViolation_first {n : Nat} {l : Layer} (small : n < s.fetchLength / 2) (before : ∀ j, j < n → s.HalfwordDenied j = none)
    (denied : s.HalfwordDenied n = some l) : s.fetchViolation = some l := by
  unfold State.fetchViolation
  obtain ⟨m, split⟩ : ∃ m, s.fetchLength / 2 = n + 1 + m := ⟨s.fetchLength / 2 - (n + 1), by omega⟩
  rw [split, List.range_add, List.range_succ, List.findSome?_append, List.findSome?_append, List.findSome?_eq_none_iff.mpr]
  · rw [List.findSome?_singleton]
    show ((none : Option Layer).or (s.HalfwordDenied n)).or _ = some l
    rw [denied]
    rfl
  · exact fun j listed => before j (List.mem_range.mp listed)

/-- R317: the number of a coprocessor. -/
def Coproc.number : Coproc → Nat
  | .fpu => 0
  | .fxu => 1
  | .reserved => 2

/-- R317: the areas of the coprocessors. -/
theorem coprocessorOf_eq (w : Nat) : coprocessorOf w = (coprocArea w).map Coproc.number := by
  unfold coprocessorOf coprocArea fieldBits
  simp only [Nat.shiftRight_eq_div_pow, Bool.and_eq_true, beq_iff_eq, and_assoc]
  by_cases first : w / 2 ^ 5 % 2 ^ 6 = 0x3F ∧ w / 2 ^ 26 % 2 ^ 1 = 1 ∧ w / 2 ^ 16 % 2 ^ 1 = 0
  · rw [if_pos first, if_pos first]
    have ha : w / 2 ^ 23 % 2 ^ 3 < 8 := Nat.mod_lt _ (by decide)
    have hb : w / 2 ^ 21 % 2 ^ 2 < 4 := Nat.mod_lt _ (by decide)
    simp only [Nat.reduceSub, Nat.reduceAdd]
    generalize w / 2 ^ 23 % 2 ^ 3 = a at ha ⊢
    generalize w / 2 ^ 21 % 2 ^ 2 = b at hb ⊢
    interval_cases a <;> interval_cases b <;> rfl
  · rw [if_neg first, if_neg first]
    by_cases second : w / 2 ^ 5 % 2 ^ 11 = 0x3D ∧ w / 2 ^ 16 % 2 ^ 5 = 0x1D
    · rw [if_pos second, if_pos second]
      rfl
    · rw [if_neg second, if_neg second]
      rfl

/-! ## What stops a fetch -/

/-- R265, R275: MIP. -/
theorem State.raiseMip_enters (s : State) (l : Layer) : let hm := s.ViolationMode l
    ∃ t, s.raiseMip l = .next t ∧ (t.ctx hm).mea = (if s.prod.mipWritesMea then s.pc else (s.ctx hm).mea) ∧
      (t.ctx hm).mei = (s.ctx hm).mei ∧ s.Enters t .fe ((if l = .guest then 0x90 else 0x98) ||| BitVec.twoPow 32 (if s.um then 18 else 21))
        s.pc (s.HandlerBase hm + 0x90) hm true errorAddress := by
  intro hm
  have cause : (causeMip l ||| (if s.um then 0x00040000 else 0x00200000)) =
      ((if l = .guest then 0x90 else 0x98) ||| BitVec.twoPow 32 (if s.um then 18 else 21) : Word) := by
    cases l <;> cases s.um <;> rfl
  rw [State.raiseMip, mpuHandler_eq, cause]
  exact State.raise_mea_enters ..

theorem State.fetchRun_stopped {run : Instr → State → Out} {o : Out} (h : s.fetchStop = some o) : s.fetchRun run = o := by
  rw [State.fetchRun, h]

theorem State.fetchStop_denied {l : Layer} (h : s.fetchViolation = some l) : s.fetchStop = some (s.raiseMip l) := by
  rw [State.fetchStop, h]

theorem State.fetchStop_reserved (allowed : s.fetchViolation = none) (h : s.Reaches .reserved (s.pc, s.fetchLength, [.exec])) :
    s.fetchStop = some (s.raiseSyserr 0x11) := by
  rw [State.fetchStop, allowed]
  exact if_pos (State.touches_iff_reaches.mpr h)

theorem State.fetchStop_error (allowed : s.fetchViolation = none) (h : ¬ s.Reaches .reserved (s.pc, s.fetchLength, [.exec])) :
    (s.env.fetchError = some .bus → s.fetchStop = some (s.raiseSyserr 0x11)) ∧
      (s.env.fetchError = some .safety → s.fetchStop = some (s.raiseSyserr 0x13)) ∧
      (s.env.fetchError = none → s.fetchStop = none) := by
  have ordinary : ¬ s.prod.touches .reserved s.pc s.fetchLength = true := fun e => h (State.touches_iff_reaches.mp e)
  rw [State.fetchStop, allowed]
  dsimp only
  rw [if_neg ordinary]
  exact ⟨fun e => by rw [e], fun e => by rw [e], fun e => by rw [e]⟩

theorem State.fetchRun_undefined {run : Instr → State → Out} {w : Nat} (go : s.fetchStop = none)
    (h : decodeBytes s.prod.enc s.fetchBytes = .undefined w) :
    s.fetchRun run = s.noteDevice s.pc s.fetchLength [.exec] (s.undefinedEncoding w) := by
  rw [State.fetchRun, go, h]

/-- R319: an exception raised after the fetch of an encoding that no instruction owns. -/
theorem State.undefined_enters {run : Instr → State → Out} {w : Nat} {cause offset : Word} (go : s.fetchStop = none)
    (h : decodeBytes s.prod.enc s.fetchBytes = .undefined w) (raised : s.undefinedEncoding w = s.raise .fe cause offset s.mode) :
    ∃ t, s.fetchRun run = .next t ∧ s.Enters t .fe cause s.pc (s.HandlerBase s.mode + offset) s.mode true noCtxReg := by
  obtain ⟨t, next, enters⟩ := State.raise_enters s .fe cause offset s.mode
  obtain ⟨-, es, -, -, noted, -⟩ := noteDevice_fetch (s := s) (a := s.pc) (n := s.fetchLength) (u := t)
  refine ⟨{ t with out := es ++ t.out }, ?_, ⟨enters.pc, enters.saved, enters.psw, enters.kept, enters.other, enters.system, enters.regs,
    enters.vectors, enters.bytes, enters.link, enters.rest⟩⟩
  rw [State.fetchRun_undefined go h, raised, next, noted]

/-- R317: the encoding lies in the area of a coprocessor that may not be used. -/
def State.Unusable (s : State) (w n : Nat) : Prop := coprocessorOf w = some n ∧ (n = 2 ∨ s.psw.getLsbD (16 + n) = false)

/-- R317, R319: UCPOP in the area of a coprocessor that may not be used, else RIE. -/
theorem State.undefinedEncoding_raises (s : State) (w : Nat) :
    (∀ n, s.Unusable w n → s.undefinedEncoding w = s.raise .fe (BitVec.ofNat 32 (0x80 + n)) 0x80 s.mode) ∧
      ((∀ n, ¬ s.Unusable w n) → s.undefinedEncoding w = s.raiseRie) := by
  have number : coprocessorOf w = _ := coprocessorOf_eq w
  simp only [State.Unusable, number]
  unfold State.undefinedEncoding State.withFpu State.withFxu
  cases coprocArea w with
  | none => exact ⟨fun n h => (by cases h.1), fun _ => rfl⟩
  | some c =>
    cases c with
    | fpu =>
      cases bit : s.psw.getLsbD 16
      · exact ⟨fun n h => by cases h.1; rfl, fun h => absurd ⟨rfl, .inr bit⟩ (h 0)⟩
      · exact ⟨fun n h => by cases h.1; exact absurd (bit.symm.trans (h.2.resolve_left (by decide))) (by decide), fun _ => rfl⟩
    | fxu =>
      cases bit : s.psw.getLsbD 17
      · exact ⟨fun n h => by cases h.1; rfl, fun h => absurd ⟨rfl, .inr bit⟩ (h 1)⟩
      · exact ⟨fun n h => by cases h.1; exact absurd (bit.symm.trans (h.2.resolve_left (by decide))) (by decide), fun _ => rfl⟩
    | reserved => exact ⟨fun n h => by cases h.1; rfl, fun h => absurd ⟨rfl, .inl rfl⟩ (h 2)⟩

end Sys2Proof.Machine

open Sys2Proof.Machine

/-- Settles O49. -/
theorem fetchesRaiseTheirExceptions : Obligations.FetchesRaiseTheirExceptions := by
  refine ⟨fun s => ⟨s.fetchBytes_length, fun k => s.fetchBytes_get, fun i n rest decoded => ?_, State.fetchViolation_none⟩,
    fun s run n l small before denied => ?_, fun s run w go undefined => ?_, fun s run allowed => ?_⟩
  · exact s.fetchLength_eq.symm.trans (decodeBytes_length decoded)
  · have violation := State.fetchViolation_first small before denied
    obtain ⟨t, raised, written⟩ := s.raiseMip_enters l
    exact ⟨violation, t, (State.fetchRun_stopped (State.fetchStop_denied violation)).trans raised, written⟩
  · obtain ⟨unusable, usable⟩ := s.undefinedEncoding_raises w
    exact ⟨fun n h => State.undefined_enters go undefined (unusable n h), fun h => State.undefined_enters go undefined (usable h)⟩
  · have raises {cause : Sys2Proof.Word} (h : s.fetchStop = some (s.raiseSyserr cause)) : ∃ t, s.fetchRun run = .next t ∧
        s.Enters t .fe cause s.pc (s.HandlerBase (s.SyserrMode s.mode) + 0x10) (s.SyserrMode s.mode) true noCtxReg := by
      rw [State.fetchRun_stopped h, State.raiseSyserr, syserrHandler_eq]
      exact State.raise_enters ..
    refine ⟨fun reserved => raises (State.fetchStop_reserved allowed reserved), fun free => ?_, fun free none => ?_⟩
    · obtain ⟨bus, safety, -⟩ := State.fetchStop_error allowed free
      exact ⟨fun e => raises (bus e), fun e => raises (safety e)⟩
    · exact (State.fetchStop_error allowed free).2.2 none
end

section
/-!
PROOFS. The masks of the requests, and the request that a step accepts (60_exceptions.md R802, R803, R831, 11_sysregs.md R111).
-/

namespace Sys2Proof.Machine

variable {s : State}

/-! ## The masks -/

theorem Ctx.plm_eq (c : Ctx) : c.plm = c.plmr.toNat % 64 := by simp [Ctx.plm, BitVec.extractLsb'_toNat]

theorem Ctx.eimask_eq (c : Ctx) : c.eimask = c.psw.toNat / 2 ^ 20 % 64 := by
  simp [Ctx.eimask, BitVec.extractLsb'_toNat, Nat.shiftRight_eq_div_pow]

theorem isprMasks_iff (ispr : Word) (p : Nat) : isprMasks ispr p = true ↔ ∃ n, n < 16 ∧ n ≤ p ∧ ispr.getLsbD n = true := by
  simp only [isprMasks, List.any_eq_true, List.mem_range, Bool.and_eq_true, decide_eq_true_eq, and_comm, and_left_comm]

theorem State.hostPrioMasks_iff (s : State) (p : Nat) : s.hostPrioMasks p = true ↔ s.HostMask p 0 := by
  unfold State.hostPrioMasks State.HostMask
  rw [Ctx.eimask_eq]
  cases s.host.intcfg.getLsbD 1
  · exact isprMasks_iff s.sys.ispr p
  · exact decide_eq_true_iff

/-- R803: no mask of the host stands. -/
theorem State.hostMaskedEi_open (s : State) (p : Nat) : s.hostMaskedEi p = false ↔
    (s.host.psw.getLsbD 5 = false ∧ s.host.psw.getLsbD 7 = false) ∧ p < s.host.plmr.toNat % 64 ∧
      if s.host.intcfg.getLsbD 1 then p < s.host.psw.toNat / 2 ^ 20 % 64 else ∀ n, n < 16 → n ≤ p → s.sys.ispr.getLsbD n = false := by
  have prio : s.hostPrioMasks p = false ↔ if s.host.intcfg.getLsbD 1 then p < s.host.psw.toNat / 2 ^ 20 % 64
      else ∀ n, n < 16 → n ≤ p → s.sys.ispr.getLsbD n = false := by
    rw [← Bool.not_eq_true, State.hostPrioMasks_iff, State.HostMask]
    cases s.host.intcfg.getLsbD 1 <;> simp
  rw [← prio]
  simp only [State.hostMaskedEi, Bool.or_eq_false_iff, decide_eq_false_iff_not, Nat.not_le, Ctx.plm_eq, Ctx.idBit, Ctx.npBit]
  exact ⟨fun ⟨⟨⟨a, b⟩, c⟩, d⟩ => ⟨⟨c, d⟩, b, a⟩, fun ⟨⟨c, d⟩, b, a⟩ => ⟨⟨⟨a, b⟩, c⟩, d⟩⟩

theorem State.guestMaskedEi_open (s : State) (p : Nat) : s.guestMaskedEi p = false ↔
    (s.guest.psw.getLsbD 5 = false ∧ s.guest.psw.getLsbD 7 = false) ∧ p < s.guest.plmr.toNat % 64 ∧
      p < s.guest.psw.toNat / 2 ^ 20 % 64 := by
  simp only [State.guestMaskedEi, Bool.or_eq_false_iff, decide_eq_false_iff_not, Nat.not_le, Ctx.plm_eq,
    Ctx.eimask_eq, Ctx.idBit, Ctx.npBit]
  exact ⟨fun ⟨⟨⟨a, b⟩, c⟩, d⟩ => ⟨⟨c, d⟩, b, a⟩, fun ⟨⟨c, d⟩, b, a⟩ => ⟨⟨⟨a, b⟩, c⟩, d⟩⟩

/-! ## What asks for an interrupt -/

/-- R831: the kind that a request asks for. -/
theorem State.eiKind_host {q : EiRequest} (h : q.guest = none) : s.eiKind q = some .eiint := by rw [State.eiKind, h]

theorem State.eiKind_bound {q : EiRequest} {g : BitVec 3} (h : q.guest = some g) : s.eiKind q =
    if s.mode = .host then none else if g = s.gpid then some .gmeiint else if q.background then some .bgeiint else none := by
  rw [State.eiKind, h]
  cases s.mode <;> rfl

theorem State.feKind_host {q : FeRequest} (h : q.guest = none) : s.feKind q = some .feint := by rw [State.feKind, h]

theorem State.feKind_bound {q : FeRequest} {g : BitVec 3} (h : q.guest = some g) : s.feKind q =
    if s.mode = .host then none else if g = s.gpid then some .gmfeint else if q.background then some .bgfeint else none := by
  rw [State.feKind, h]
  cases s.mode <;> rfl

/-- R831: a request bound to a partition asks for the guest's kind or for the background's. -/
theorem State.boundKind_iff {g : BitVec 3} {b : Bool} {own behind k : IntKind} :
    (if s.mode = .host then none else if g = s.gpid then some own else if b then some behind else none) = some k ↔
      s.mode = .guest ∧ (g = s.gpid ∧ k = own ∨ g ≠ s.gpid ∧ b = true ∧ k = behind) := by
  cases s.mode with
  | host => simp
  | guest => by_cases h : g = s.gpid <;> cases b <;> simp [h, eq_comm]

/-- R803: a request on the EIINT input is acknowledgeable. -/
theorem State.acknowledgeable_ei (k : IntKind) (q : EiRequest) : s.Acknowledgeable (.ei k q) ↔
    s.env.ei = some q ∧ s.eiKind q = some k ∧ s.acceptsEi k q.prio.toNat = true := by
  have host := (s.hostMaskedEi_open q.prio.toNat).symm
  have guest := (s.guestMaskedEi_open q.prio.toNat).symm
  unfold State.Acknowledgeable
  refine and_congr_right fun _ => ?_
  cases h : q.guest with
  | none =>
    rw [State.eiKind_host h]
    cases k
    case eiint => simpa [State.acceptsEi] using host
    all_goals exact iff_of_false id fun e => by cases e.1
  | some g =>
    rw [State.eiKind_bound h, State.boundKind_iff]
    cases k
    case gmeiint =>
      dsimp only
      rw [guest]
      simp [State.acceptsEi, and_assoc]
    case bgeiint =>
      dsimp only
      rw [guest]
      simp [State.acceptsEi, Ctx.idBit, Ctx.npBit, and_assoc]
    all_goals exact iff_of_false id fun e => by simp at e

/-- R803: a request on the FEINT input is acknowledgeable. -/
theorem State.acknowledgeable_fe (k : IntKind) (q : FeRequest) : s.Acknowledgeable (.fe k q) ↔
    s.env.fe = some q ∧ s.feKind q = some k ∧ s.acceptsFe k = true := by
  unfold State.Acknowledgeable
  refine and_congr_right fun _ => ?_
  cases h : q.guest with
  | none =>
    rw [State.feKind_host h]
    cases k
    case feint => simp [State.acceptsFe, Ctx.npBit]
    all_goals exact iff_of_false id fun e => by cases e.1
  | some g =>
    rw [State.feKind_bound h, State.boundKind_iff]
    cases k
    case gmfeint => simp [State.acceptsFe, Ctx.npBit, and_assoc]
    case bgfeint => simp [State.acceptsFe, Ctx.idBit, Ctx.npBit, and_assoc]
    all_goals exact iff_of_false id fun e => by simp at e

/-! ## The request accepted -/

theorem State.eiOffer_iff (s : State) (k : IntKind) (q : EiRequest) : s.eiOffer = some (k, q) ↔ s.Acknowledgeable (.ei k q) := by
  rw [State.acknowledgeable_ei, State.eiOffer]
  cases s.env.ei with
  | none => simp
  | some r =>
    simp only [Option.map_eq_some_iff, Option.filter_eq_some_iff, Prod.mk.injEq, Option.some.injEq]
    exact ⟨fun ⟨_, ⟨kind, accepts⟩, same, here⟩ => by subst same here; exact ⟨rfl, kind, accepts⟩,
      fun ⟨here, kind, accepts⟩ => by subst here; exact ⟨k, ⟨kind, accepts⟩, rfl, rfl⟩⟩

theorem State.feOffer_iff (s : State) (k : IntKind) (q : FeRequest) : s.feOffer = some (k, q) ↔ s.Acknowledgeable (.fe k q) := by
  rw [State.acknowledgeable_fe, State.feOffer]
  cases s.env.fe with
  | none => simp
  | some r =>
    simp only [Option.map_eq_some_iff, Option.filter_eq_some_iff, Prod.mk.injEq, Option.some.injEq]
    exact ⟨fun ⟨_, ⟨kind, accepts⟩, same, here⟩ => by subst same here; exact ⟨rfl, kind, accepts⟩,
      fun ⟨here, kind, accepts⟩ => by subst here; exact ⟨k, ⟨kind, accepts⟩, rfl, rfl⟩⟩

/-- R802: the place of a kind is its rank. -/
theorem State.eiKind_rank {q : EiRequest} {k : IntKind} (h : s.eiKind q = some k) : k.rank = (Accepted.ei k q).place := by
  cases bound : q.guest with
  | none =>
    rw [State.eiKind_host bound] at h
    cases h
    rfl
  | some g =>
    rw [State.eiKind_bound bound, State.boundKind_iff] at h
    obtain ⟨-, ⟨-, rfl⟩ | ⟨-, -, rfl⟩⟩ := h <;> rfl

theorem State.feKind_rank {q : FeRequest} {k : IntKind} (h : s.feKind q = some k) : k.rank = (Accepted.fe k q).place := by
  cases bound : q.guest with
  | none =>
    rw [State.feKind_host bound] at h
    cases h
    rfl
  | some g =>
    rw [State.feKind_bound bound, State.boundKind_iff] at h
    obtain ⟨-, ⟨-, rfl⟩ | ⟨-, -, rfl⟩⟩ := h <;> rfl

/-- R802: the requests offered are the acknowledgeable ones, each at its place. -/
theorem State.mem_offers (s : State) (n : Nat) (a : Accepted) : (n, a) ∈ s.offers ↔ s.Acknowledgeable a ∧ n = a.place := by
  unfold State.offers
  simp only [List.mem_append, Option.mem_toList, Option.map_eq_some_iff, Prod.exists, Prod.mk.injEq, State.feOffer_iff,
    State.eiOffer_iff, Option.filter_eq_some_iff]
  have first {a : Accepted} (other : a ≠ .fenmi) : ¬ (n, a) ∈ if s.env.fenmi then [(IntKind.fenmi.rank, Accepted.fenmi)] else [] := by
    cases s.env.fenmi <;> simp [other]
  cases a with
  | fenmi =>
    cases fenmi : s.env.fenmi
    · simp [State.Acknowledgeable, fenmi]
    · simp [State.Acknowledgeable, fenmi, IntKind.rank, Accepted.place]
  | fe k q =>
    simp only [first (a := .fe k q) nofun, reduceCtorEq, and_false, exists_false, or_false, false_or, Accepted.fe.injEq]
    constructor
    · rintro ⟨k, q, ack, rank, rfl, rfl⟩
      exact ⟨ack, rank.symm.trans (State.feKind_rank ((State.acknowledgeable_fe k q).mp ack).2.1)⟩
    · rintro ⟨ack, place⟩
      exact ⟨k, q, ack, (State.feKind_rank ((State.acknowledgeable_fe k q).mp ack).2.1).trans place.symm, rfl, rfl⟩
  | ei k q =>
    simp only [first (a := .ei k q) nofun, reduceCtorEq, and_false, exists_false, or_false, false_or, Accepted.ei.injEq]
    constructor
    · rintro ⟨k, q, ack, rank, rfl, rfl⟩
      exact ⟨ack, rank.symm.trans (State.eiKind_rank ((State.acknowledgeable_ei k q).mp ack).2.1)⟩
    · rintro ⟨ack, place⟩
      exact ⟨k, q, ack, (State.eiKind_rank ((State.acknowledgeable_ei k q).mp ack).2.1).trans place.symm, rfl, rfl⟩
  | syserr q =>
    simp only [first (a := .syserr q) nofun, reduceCtorEq, and_false, exists_false, false_or, Accepted.syserr.injEq]
    have occurs := s.syserrOccurs_iff q
    constructor
    · rintro ⟨q, ⟨presented, may⟩, rank, rfl⟩
      exact ⟨⟨presented, occurs.mp may⟩, rank.symm⟩
    · rintro ⟨⟨presented, may⟩, place⟩
      exact ⟨q, ⟨presented, occurs.mpr may⟩, place.symm, rfl⟩

/-- R806 (c): the request picked. -/
theorem State.pick_iff (s : State) : (s.pick = none ↔ ∀ a, ¬ s.Acknowledgeable a) ∧
    ∀ a, s.pick = some a → s.Acknowledgeable a ∧ ∀ b, s.Acknowledgeable b → a.place ≤ b.place := by
  unfold State.pick
  refine ⟨?_, fun a picked => ?_⟩
  · rw [Option.map_eq_none_iff, highest_none, List.eq_nil_iff_forall_not_mem]
    exact ⟨fun none a ack => none (a.place, a) ((s.mem_offers _ _).mpr ⟨ack, rfl⟩),
      fun none p listed => none p.2 ((s.mem_offers p.1 p.2).mp listed).1⟩
  · obtain ⟨p, top, rfl⟩ := Option.map_eq_some_iff.mp picked
    obtain ⟨listed, least⟩ := highest_some _ _ top
    obtain ⟨ack, place⟩ := (s.mem_offers p.1 p.2).mp listed
    exact ⟨ack, fun b other => place ▸ least (b.place, b) ((s.mem_offers _ _).mpr ⟨other, rfl⟩)⟩

end Sys2Proof.Machine

open Sys2Proof.Machine

/-- Settles O50. -/
theorem acceptedInterruptsAreUnmasked : Obligations.AcceptedInterruptsAreUnmasked := by
  refine ⟨fun s k q picked => ?_, State.pick_iff⟩
  obtain ⟨-, request⟩ := (s.pick_iff.2 _ picked).1
  dsimp only at request
  cases bound : q.guest with
  | none =>
    rw [bound] at request
    cases k
    case eiint =>
      obtain ⟨unmasked, within, above⟩ := request
      exact ⟨fun _ => ⟨rfl, unmasked, within, above⟩, nofun, nofun, .inl rfl⟩
    all_goals exact request.elim
  | some g =>
    rw [bound] at request
    cases k
    case gmeiint =>
      obtain ⟨mode, own, ⟨id, np⟩, within, above⟩ := request
      exact ⟨nofun, fun _ => ⟨mode, congrArg some own, id, np, within, above⟩, nofun, .inr (.inl rfl)⟩
    case bgeiint =>
      obtain ⟨mode, other, background, ⟨⟨id, np⟩, within, above⟩, host⟩ := request
      exact ⟨nofun, nofun, fun _ => ⟨mode, nofun, fun e => other (Option.some.inj e), background, ⟨id, np, within, above⟩, host⟩,
        .inr (.inr rfl)⟩
    all_goals exact request.elim
end

section
/-!
PROOFS. IMSR and ICSR (11_sysregs.md R111, R112).
-/

namespace Sys2Proof.Machine

variable {s : State}

/-! ## The first mask of a request -/

theorem twoPow_bit {k i : Nat} (h : k < 32) : (BitVec.twoPow 32 k).getLsbD i = true ↔ i = k := by
  simp [BitVec.getLsbD_twoPow, h, eq_comm]

/-- R111: a group of four bits shows the first mask. -/
theorem firstMask_bit {prio plm idb np : Bool} {m : Nat → Prop} (h0 : prio = true ↔ m 0) (h1 : plm = true ↔ m 1) (h2 : idb = true ↔ m 2)
    (h3 : np = true ↔ m 3) {base : Nat} (small : base ≤ 28) (i : Nat) :
    (firstMask prio plm idb np base).getLsbD i = true ↔ base ≤ i ∧ i < base + 4 ∧ FirstMask m 0 (i - base) := by
  have first {k : Nat} (mask : m k) (before : ∀ j, j < k → ¬ m j) (j : Nat) : FirstMask m 0 j ↔ j = k := by
    refine ⟨fun ⟨_, here, free⟩ => ?_, fun e => ?_⟩
    · rcases Nat.lt_trichotomy j k with lt | same | gt
      · exact absurd here (before j lt)
      · exact same
      · exact absurd mask (free k (Nat.zero_le k) gt)
    · subst e
      exact ⟨Nat.zero_le _, mask, fun i _ => before i⟩
  have shown {k : Nat} (small_k : k < 4) (mask : m k) (before : ∀ j, j < k → ¬ m j) :
      (BitVec.twoPow 32 (base + k)).getLsbD i = true ↔ base ≤ i ∧ i < base + 4 ∧ FirstMask m 0 (i - base) := by
    rw [twoPow_bit (by omega), first mask before]
    omega
  have below {k j : Nat} (h : j < k + 1) (last : ¬ m k) (earlier : ∀ j, j < k → ¬ m j) : ¬ m j := by
    rcases Nat.lt_succ_iff_lt_or_eq.mp h with lt | rfl
    · exact earlier j lt
    · exact last
  unfold firstMask
  by_cases m0 : m 0
  · rw [if_pos (h0.mpr m0)]
    exact shown (by omega) m0 fun j lt => absurd lt (by omega)
  have no0 : ∀ j, j < 1 → ¬ m j := fun j lt => below lt m0 fun j lt => absurd lt (by omega)
  rw [if_neg (mt h0.mp m0)]
  by_cases m1 : m 1
  · rw [if_pos (h1.mpr m1)]
    exact shown (by omega) m1 no0
  have no1 : ∀ j, j < 2 → ¬ m j := fun j lt => below lt m1 no0
  rw [if_neg (mt h1.mp m1)]
  by_cases m2 : m 2
  · rw [if_pos (h2.mpr m2)]
    exact shown (by omega) m2 no1
  have no2 : ∀ j, j < 3 → ¬ m j := fun j lt => below lt m2 no1
  rw [if_neg (mt h2.mp m2)]
  by_cases m3 : m 3
  · rw [if_pos (h3.mpr m3)]
    exact shown (by omega) m3 no2
  rw [if_neg (mt h3.mp m3)]
  refine iff_of_false (by simp) fun ⟨low, high, _, here, _⟩ => ?_
  exact below (k := 3) (by omega) m3 no2 here

theorem firstMask_from (m : Nat → Prop) (lo k : Nat) : FirstMask (fun j => lo ≤ j ∧ m j) 0 k ↔ FirstMask m lo k :=
  ⟨fun ⟨_, ⟨low, here⟩, free⟩ => ⟨low, here, fun j le lt h => free j (Nat.zero_le j) lt ⟨le, h⟩⟩,
    fun ⟨low, here, free⟩ => ⟨Nat.zero_le k, ⟨low, here⟩, fun j _ lt h => free j h.1 lt h.2⟩⟩

/-! ## The masks of the two contexts -/

/-- R111: the group of the host's masks. -/
theorem State.hostGroup_bit (s : State) (p : Nat) {base : Nat} (small : base ≤ 28) (i : Nat) :
    (firstMask (s.hostPrioMasks p) (decide (s.host.plm ≤ p)) s.host.idBit s.host.npBit base).getLsbD i = true ↔
      base ≤ i ∧ i < base + 4 ∧ FirstMask (s.HostMask p) 0 (i - base) :=
  firstMask_bit (s.hostPrioMasks_iff p) (by rw [decide_eq_true_iff, Ctx.plm_eq]; rfl) Iff.rfl Iff.rfl small i

theorem State.guestGroup_bit (s : State) (p : Nat) (i : Nat) :
    (firstMask (decide (s.guest.eimask ≤ p)) (decide (s.guest.plm ≤ p)) s.guest.idBit s.guest.npBit 0).getLsbD i = true ↔
      i < 4 ∧ FirstMask (s.GuestMask p) 0 i := by
  have bits := firstMask_bit (m := s.GuestMask p) (prio := decide (s.guest.eimask ≤ p)) (plm := decide (s.guest.plm ≤ p))
    (by rw [decide_eq_true_iff, Ctx.eimask_eq]; rfl) (by rw [decide_eq_true_iff, Ctx.plm_eq]; rfl) (idb := s.guest.idBit)
    (np := s.guest.npBit) Iff.rfl Iff.rfl (base := 0) (by omega) i
  rw [bits]
  simp

/-- R111: ID and NP of the host, for a background request. -/
theorem State.hostBehind_bit (s : State) (p : Nat) (i : Nat) :
    (firstMask false false s.host.idBit s.host.npBit 8).getLsbD i = true ↔ (8 ≤ i ∧ i < 12) ∧ FirstMask (s.HostMask p) 2 (i - 8) := by
  have bits := firstMask_bit (m := fun j => 2 ≤ j ∧ s.HostMask p j) (prio := false) (plm := false) (idb := s.host.idBit)
    (np := s.host.npBit) (by simp) (by simp) ⟨fun h => ⟨le_rfl, h⟩, fun h => h.2⟩ ⟨fun h => ⟨by omega, h⟩, fun h => h.2⟩ (base := 8)
    (by omega) i
  rw [bits, firstMask_from, and_assoc]

/-! ## The bits of a request -/

/-- R111: the request is bound to the partition in use, or asks in the background. -/
def State.ForGuest (s : State) (guest : Option (BitVec 3)) : Prop := s.mode = .guest ∧ guest = some s.gpid
@[inherit_doc State.ForGuest]
def State.Behind (s : State) (guest : Option (BitVec 3)) (background : Bool) : Prop :=
  s.mode = .guest ∧ guest ≠ none ∧ guest ≠ some s.gpid ∧ background = true

/-- R111: bit `i` that a request on the EIINT input sets. -/
def State.EiBit (s : State) (q : EiRequest) (i : Nat) : Prop :=
  (i < 4 ∧ ((q.guest = none ∧ s.mode = .host ∧ FirstMask (s.HostMask q.prio.toNat) 0 i) ∨
    ((s.ForGuest q.guest ∨ s.Behind q.guest q.background) ∧ FirstMask (s.GuestMask q.prio.toNat) 0 i))) ∨
  ((8 ≤ i ∧ i < 12) ∧ ((q.guest = none ∧ s.mode = .guest ∧ FirstMask (s.HostMask q.prio.toNat) 0 (i - 8)) ∨
    (s.Behind q.guest q.background ∧ ¬ s.GuestMask q.prio.toNat 0 ∧ ¬ s.GuestMask q.prio.toNat 1 ∧
      FirstMask (s.HostMask q.prio.toNat) 2 (i - 8))))

/-- R111: bit `i` that a request on the FEINT input sets. -/
def State.FeBit (s : State) (q : FeRequest) (i : Nat) : Prop :=
  (i = 4 ∧ ((q.guest = none ∧ s.mode = .host ∧ s.host.psw.getLsbD 7 = true) ∨
    ((s.ForGuest q.guest ∨ s.Behind q.guest q.background) ∧ s.guest.psw.getLsbD 7 = true))) ∨
  ((8 ≤ i ∧ i < 12) ∧ s.Behind q.guest q.background ∧ FirstMask (s.HostMask 0) 2 (i - 8)) ∨
  (i = 12 ∧ q.guest = none ∧ s.mode = .guest ∧ s.host.psw.getLsbD 7 = true)

theorem State.imsrBit_iff (s : State) (i : Nat) : s.ImsrBit i ↔
    (∃ q, s.env.ei = some q ∧ s.EiBit q i) ∨ ∃ q, s.env.fe = some q ∧ s.FeBit q i := by
  unfold State.ImsrBit State.EiBit State.FeBit State.ForGuest State.Behind
  dsimp only
  by_cases low : i < 4
  · rw [if_pos low]
    have h4 : i ≠ 4 := by omega
    have h8 : ¬ (8 ≤ i ∧ i < 12) := by omega
    have h12 : i ≠ 12 := by omega
    simp only [low, h4, h8, h12, true_and, false_and, or_false, and_false, exists_false]
  rw [if_neg low]
  by_cases h4 : i = 4
  · subst h4
    simp [FirstMask]
  rw [if_neg h4]
  by_cases h8 : 8 ≤ i ∧ i < 12
  · rw [if_pos h8]
    have h12 : i ≠ 12 := by omega
    simp only [low, h4, h8, h12, true_and, false_and, or_false, false_or]
  rw [if_neg h8]
  simp only [low, h4, h8, false_and, false_or, and_false, exists_false]
  exact ⟨fun ⟨here, q, presented, shown⟩ => ⟨q, presented, here, shown⟩, fun ⟨q, presented, here, shown⟩ => ⟨here, q, presented, shown⟩⟩

/-- R111: the bits of IMSR that a request on the EIINT input sets. -/
theorem State.imsrEi_bit (s : State) (q : EiRequest) (i : Nat) : (s.imsrEi q).getLsbD i = true ↔ s.EiBit q i := by
  unfold State.EiBit State.ForGuest State.Behind
  cases bound : q.guest with
  | none =>
    rw [State.imsrEi, State.eiKind_host bound]
    cases mode : s.mode with
    | host =>
      refine (s.hostGroup_bit _ (by decide) i).trans ?_
      simp
    | guest =>
      refine (s.hostGroup_bit _ (by decide) i).trans ?_
      simp [and_assoc]
  | some g =>
    rw [State.imsrEi, State.eiKind_bound bound]
    cases mode : s.mode with
    | host => simp
    | guest =>
      by_cases own : g = s.gpid
      · rw [if_neg (by decide), if_pos own]
        refine (s.guestGroup_bit _ i).trans ?_
        simp [own]
      rw [if_neg (by decide), if_neg own]
      cases background : q.background with
      | false => simp [own]
      | true =>
        have unmasked : (decide (s.guest.eimask ≤ q.prio.toNat) || decide (s.guest.plm ≤ q.prio.toNat)) = true ↔
            s.GuestMask q.prio.toNat 0 ∨ s.GuestMask q.prio.toNat 1 := by
          rw [Bool.or_eq_true, decide_eq_true_iff, decide_eq_true_iff, Ctx.plm_eq, Ctx.eimask_eq]
          rfl
        have shown := s.guestGroup_bit q.prio.toNat i
        have behind := s.hostBehind_bit q.prio.toNat i
        by_cases masked : s.GuestMask q.prio.toNat 0 ∨ s.GuestMask q.prio.toNat 1
        · refine (iff_of_eq (congrArg (fun w : Word => w.getLsbD i = true) (if_pos (unmasked.mpr masked)))).trans (shown.trans ?_)
          have none_behind : ¬ (¬ s.GuestMask q.prio.toNat 0 ∧ ¬ s.GuestMask q.prio.toNat 1) := by tauto
          simp [own]
          tauto
        · refine (iff_of_eq (congrArg (fun w : Word => w.getLsbD i = true) (if_neg (mt unmasked.mp masked)))).trans ?_
          rw [BitVec.getLsbD_or, Bool.or_eq_true, shown, behind]
          have both := not_or.mp masked
          simp [own, both]

/-- R111: the bits of IMSR that a request on the FEINT input sets. -/
theorem State.imsrFe_bit (s : State) (q : FeRequest) (i : Nat) : (s.imsrFe q).getLsbD i = true ↔ s.FeBit q i := by
  have bit (b : Bool) {k : Nat} (small : k < 32) :
      (if b then BitVec.twoPow 32 k else 0).getLsbD i = true ↔ i = k ∧ b = true := by
    cases b
    · simp
    · exact (twoPow_bit small).trans (by simp)
  unfold State.FeBit State.ForGuest State.Behind
  cases bound : q.guest with
  | none =>
    rw [State.imsrFe, State.feKind_host bound]
    cases mode : s.mode with
    | host =>
      refine (bit s.host.npBit (by decide)).trans ?_
      simp [Ctx.npBit]
    | guest =>
      refine (bit s.host.npBit (by decide)).trans ?_
      simp [Ctx.npBit]
  | some g =>
    rw [State.imsrFe, State.feKind_bound bound]
    cases mode : s.mode with
    | host => simp
    | guest =>
      by_cases own : g = s.gpid
      · rw [if_neg (by decide), if_pos own]
        refine (bit s.guest.npBit (by decide)).trans ?_
        simp [own, Ctx.npBit]
      rw [if_neg (by decide), if_neg own]
      cases background : q.background with
      | false => simp [own]
      | true =>
        have shown := bit s.guest.npBit (k := 4) (by decide)
        have behind := s.hostBehind_bit 0 i
        refine (iff_of_eq (congrArg (· = true) (BitVec.getLsbD_or ..))).trans ?_
        rw [Bool.or_eq_true, shown, behind]
        simp [own, Ctx.npBit]

/-- R111: IMSR shows what each request presented meets first. -/
theorem State.imsr_bit (s : State) (i : Nat) : s.imsr.getLsbD i = true ↔ s.ImsrBit i := by
  have ei : (((s.env.ei.map s.imsrEi).getD 0).getLsbD i = true) ↔ ∃ q, s.env.ei = some q ∧ s.EiBit q i := by
    cases s.env.ei <;> simp [← s.imsrEi_bit]
  have fe : (((s.env.fe.map s.imsrFe).getD 0).getLsbD i = true) ↔ ∃ q, s.env.fe = some q ∧ s.FeBit q i := by
    cases s.env.fe <;> simp [← s.imsrFe_bit]
  rw [s.imsrBit_iff, State.imsr, BitVec.getLsbD_or, Bool.or_eq_true, ei, fe]

/-- R112: ICSR is bit 0 of IMSR. -/
theorem State.icsr_bit (s : State) (i : Nat) : (s.readSr .icsr).getLsbD i = true ↔ i = 0 ∧ s.ImsrBit 0 := by
  show (s.imsr &&& 1).getLsbD i = true ↔ _
  rw [BitVec.getLsbD_and, Bool.and_eq_true, s.imsr_bit]
  have one : (1 : Word).getLsbD i = true ↔ i = 0 := by
    rw [show (1 : Word) = BitVec.twoPow 32 0 from rfl]
    exact twoPow_bit (by decide)
  rw [one]
  constructor
  · rintro ⟨shown, rfl⟩
    exact ⟨rfl, shown⟩
  · rintro ⟨rfl, shown⟩
    exact ⟨shown, rfl⟩

/-- R111, R112: STSR reads IMSR and ICSR with supervisor privilege. -/
theorem stsr_masks (supervisor : s.um = false) (reg2 : Reg) :
    Writes (.stsr 11 2 reg2) s 4 reg2 (s.readSr .imsr) ∧ (s.hve = false → Writes (.stsr 12 2 reg2) s 4 reg2 (s.readSr .icsr)) := by
  have auth : s.hasAuth .sv = true := by simp [State.hasAuth, supervisor]
  refine ⟨State.plain_completes (stsr_run ?_), fun conventional => State.plain_completes (stsr_run ?_)⟩
  · rw [State.srAccess_usable (r := .imsr) rfl rfl nofun]
    exact if_pos auth
  · rw [State.srAccess_usable (r := .icsr) rfl conventional nofun]
    exact if_pos auth

end Sys2Proof.Machine

open Sys2Proof.Machine

/-- Settles O51: IMSR is read bit by bit as the first mask of each request presented, ICSR is its bit 0. -/
theorem maskStatusShowsTheFirstMask : Obligations.MaskStatusShowsTheFirstMask := by
  intro s reg2 supervisor
  obtain ⟨imsr, icsr⟩ := stsr_masks supervisor reg2
  exact ⟨⟨_, imsr, fun i _ => s.imsr_bit i⟩, fun conventional => ⟨_, icsr conventional, fun i _ => s.icsr_bit i⟩⟩

end

section
/-!
PROOFS. How an accepted interrupt enters its handler (60_exceptions.md R807, R820 to R825).
-/

namespace Sys2Proof.Machine

variable {s : State} {hm : Mode}

/-! ## The priority recorded -/

/-- R821, R823: EIMASK takes the priority. -/
theorem State.recordPriority_mask {w : State} (mask : (hm == .guest || w.host.intcfg.getLsbD 1) = true) (p : BitVec 6) :
    w.recordPriority hm p =
      w.setCtx hm { w.ctx hm with psw := putMasked (w.ctx hm).psw 0x03F00000 (p.setWidth 32 <<< 20) } := by
  cases hm with
  | guest => rfl
  | host => exact if_pos mask

/-- R821: ISPR takes the priority. -/
theorem State.recordPriority_ispr {w : State} (mask : w.host.intcfg.getLsbD 1 = false) (p : BitVec 6) :
    w.recordPriority .host p = { w with sys := { w.sys with
      ispr := if !w.host.intcfg.getLsbD 0 && decide (p.toNat ≤ 15) then putBit w.sys.ispr p.toNat true else w.sys.ispr } } := by
  have off : ¬ (w.ctx .host).intcfg.getLsbD 1 = true := by rw [show w.ctx .host = w.host from rfl, mask]; decide
  refine (if_neg off).trans ?_
  change (if (!w.host.intcfg.getLsbD 0 && decide (p.toNat ≤ 15)) = true then _ else _) = _
  split_ifs <;> rfl

/-- R74: the place of EIMASK. -/
theorem eimask_bit (w : Word) (p : BitVec 6) (i : Nat) (h : i < 32) :
    (putMasked w 0x03F00000 (p.setWidth 32 <<< 20)).getLsbD i = if 20 ≤ i ∧ i < 26 then p.getLsbD (i - 20) else w.getLsbD i := by
  have mask : (0x03F00000 : Word).getLsbD i = decide (20 ≤ i ∧ i < 26) := by
    revert i
    decide
  rw [putMasked_getLsbD, mask]
  by_cases inside : 20 ≤ i ∧ i < 26
  · have lt : i - 20 < 32 := by omega
    have notLow : ¬ i < 20 := by omega
    simp [inside, h, notLow]
  · simp [inside]

theorem ispr_bit (w : Word) (ispc : Bool) (p : BitVec 6) (n : Nat) :
    (if !ispc && decide (p.toNat ≤ 15) then putBit w p.toNat true else w).getLsbD n = true ↔
      w.getLsbD n = true ∨ (ispc = false ∧ n = p.toNat ∧ p.toNat < 16) := by
  cases ispc with
  | true => simp
  | false =>
    by_cases small : p.toNat ≤ 15
    · have lt : p.toNat < 16 := by omega
      simp only [small, decide_true, Bool.not_false, Bool.and_true, if_true, lt]
      rw [putBit_getLsbD _ _ _ _ (by omega)]
      by_cases same : n = p.toNat <;> simp [same]
    · have ge : ¬ p.toNat < 16 := by omega
      simp [small, ge]

/-- R821, R823: the end of an entry records the priority, and does nothing else. -/
structure State.Records (w v : State) (hm : Mode) (p : BitVec 6) : Prop where
  kept : ∀ r, r ≠ .psw → (v.ctx hm).get r = (w.ctx hm).get r
  psw : ∀ i, i < 32 → (v.ctx hm).psw.getLsbD i =
    if (hm == .guest || w.host.intcfg.getLsbD 1) = true ∧ 20 ≤ i ∧ i < 26 then p.getLsbD (i - 20) else (w.ctx hm).psw.getLsbD i
  other : ∀ m, m ≠ hm → v.ctx m = w.ctx m
  system : v.sys = { w.sys with ispr := v.sys.ispr }
  ispr : ∀ n, v.sys.ispr.getLsbD n = true ↔ w.sys.ispr.getLsbD n = true ∨
    ((hm == .guest || w.host.intcfg.getLsbD 1) = false ∧ w.host.intcfg.getLsbD 0 = false ∧ n = p.toNat ∧ p.toNat < 16)
  rest : v = { w with host := v.host, guest := v.guest, sys := v.sys }

theorem State.recordPriority_records (w : State) (hm : Mode) (p : BitVec 6) : w.Records (w.recordPriority hm p) hm p := by
  by_cases mask : (hm == .guest || w.host.intcfg.getLsbD 1) = true
  · rw [State.recordPriority_mask mask]
    have ctx (c : Ctx) : (w.setCtx hm c).ctx hm = c := by cases hm <;> rfl
    refine ⟨fun r ne => ?_, fun i small => ?_, fun m ne => ?_, ?_, fun n => ?_, ?_⟩
    · rw [ctx]
      cases r <;> first | rfl | exact absurd rfl ne
    · rw [ctx, mask]
      simpa using eimask_bit (w.ctx hm).psw p i small
    · cases hm <;> cases m <;> first | rfl | exact absurd rfl ne
    · cases hm <;> rfl
    · rw [mask]
      cases hm <;> simp
    · cases hm <;> rfl
  · have off := Bool.eq_false_iff.mpr mask
    obtain ⟨host, direct⟩ := Bool.or_eq_false_iff.mp off
    cases hm with
    | guest => exact absurd host (by decide)
    | host =>
      rw [State.recordPriority_ispr direct]
      refine ⟨fun r _ => rfl, fun i _ => ?_, fun m _ => by cases m <;> rfl, rfl, fun n => ?_, rfl⟩
      · rw [off]
        simp only [Bool.false_eq_true, false_and, if_false]
        rfl
      · rw [off]
        simpa using ispr_bit w.sys.ispr (w.host.intcfg.getLsbD 0) p n

/-! ## The end of the entry -/

/-- R821, R905: the state from which the entry ends, with the memory, RBNR and the PSW that a bank save may have changed. -/
def State.endsFrom (s : State) (hm : Mode) (mem : List Host.Cell) (rbnr psw : Word) : State :=
  { s.entered hm with mem := mem, sys := { (s.entered hm).sys with rbnr := rbnr } }.setCtx hm { (s.entered hm).ctx hm with psw := psw }

/-- R821, R823: the end of an entry, from a state in which a bank may have been saved. -/
theorem State.entryEnd_entersEi (s : State) (hm : Mode) (k : IntKind) (q : EiRequest) (handler : Word) (saved : Bool) (mem : List Host.Cell)
    (rbnr psw : Word) (kept : saved = false → mem = s.mem)
    (number : rbnr = if saved then BitVec.ofNat 32 (s.sys.rbnr.toNat % 64 + 1) else s.sys.rbnr)
    (bits : ∀ i, i < 32 → psw.getLsbD i =
      if saved = true ∧ i = 5 then s.sys.rbcr1.getLsbD (min q.prio.toNat 15) else ((s.entered hm).ctx hm).psw.getLsbD i) :
    s.EntersEi (s.entryEnd hm k q handler (s.endsFrom hm mem rbnr psw)) q hm saved handler := by
  let cause := s.prod.causeEiint + q.channel.setWidth 32
  let u := s.takeException .ei cause (handler - s.HandlerBase hm) s.pc hm false
  have enters : s.Enters u .ei cause s.pc handler hm false noCtxReg := by
    have e := s.takeException_enters .ei cause (handler - s.HandlerBase hm) s.pc hm false
    rwa [add_comm, BitVec.sub_add_cancel] at e
  have upsw : (u.ctx hm).psw = ((s.entered hm).ctx hm).psw := by cases hm <;> rfl
  let w := (s.endsFrom hm mem rbnr psw).setCtx hm (((s.endsFrom hm mem rbnr psw).ctx hm).setCause .ei cause)
  have wctx : w.ctx hm = { u.ctx hm with psw := psw } := by cases hm <;> rfl
  have wother : ∀ m, m ≠ hm → w.ctx m = u.ctx m := fun m ne => by cases hm <;> cases m <;> first | rfl | exact absurd rfl ne
  have wsys : w.sys = { u.sys with rbnr := rbnr } := by cases hm <;> rfl
  have host : w.host.intcfg = s.host.intcfg := by cases hm <;> rfl
  have uispr : u.sys.ispr = s.sys.ispr := by
    rw [enters.system]
    split <;> rfl
  have record := w.recordPriority_records hm q.prio
  have done : s.entryEnd hm k q handler (s.endsFrom hm mem rbnr psw) = { w.recordPriority hm q.prio with
      pc := evenPc handler, link := { (w.recordPriority hm q.prio).link with bit := false },
      env := { (w.recordPriority hm q.prio).env with ei := none },
      out := (w.recordPriority hm q.prio).out ++ [.accepted k, .acknowledge k] } := rfl
  rw [done]
  generalize w.recordPriority hm q.prio = v at record
  have rest := record.rest
  have vmem : v.mem = mem := by
    rw [rest]
    cases hm <;> rfl
  have vsys : v.sys = { u.sys with ispr := v.sys.ispr, rbnr := rbnr } := by
    rw [record.system, wsys]
  have urbnr : v.sys.rbnr = rbnr := by rw [vsys]
  refine ⟨u, enters, enters.pc.symm, fun r ne => ?_, fun i small => ?_, fun m ne => ?_, ?_, fun n _ => ?_, ?_, fun h => ?_,
    ?_, ?_, ?_, ?_, ?_⟩
  · refine (record.kept r ne).trans ?_
    rw [wctx]
    cases r <;> first | rfl | exact absurd rfl ne
  · refine (record.psw i small).trans ?_
    rw [host, wctx, upsw]
    show (if _ then _ else psw.getLsbD i) = _
    rw [bits i small]
  · exact (record.other m ne).trans (wother m ne)
  · show v.sys = { u.sys with ispr := v.sys.ispr, rbnr := v.sys.rbnr }
    rw [urbnr]
    exact vsys
  · have shown := record.ispr n
    rw [host, wsys] at shown
    rw [← uispr]
    exact shown
  · exact urbnr.trans number
  · show v.mem = u.mem
    rw [vmem, kept h]
    cases hm <;> rfl
  all_goals
    rw [rest]
    cases hm <;> rfl

/-- Without a bank. -/
theorem State.entered_endsFrom (s : State) (hm : Mode) :
    s.entered hm = s.endsFrom hm s.mem s.sys.rbnr ((s.entered hm).ctx hm).psw := by
  have same (t : State) : t = { t with mem := t.mem, sys := { t.sys with rbnr := t.sys.rbnr } }.setCtx hm
      { t.ctx hm with psw := (t.ctx hm).psw } := by
    cases hm <;> rfl
  refine (same (s.entered hm)).trans ?_
  rw [s.entered_mem, (s.entered_keeps hm).2.2.2.1]
  rfl

theorem State.ends_entersEi (s : State) (hm : Mode) (k : IntKind) (q : EiRequest) (handler : Word) :
    s.EntersEi (s.entryEnd hm k q handler (s.entered hm)) q hm false handler := by
  have ends := s.entryEnd_entersEi hm k q handler false s.mem s.sys.rbnr ((s.entered hm).ctx hm).psw (fun _ => rfl) rfl
    fun i _ => by simp
  rwa [← s.entered_endsFrom hm] at ends

/-- R807: an EIINT or GMEIINT by the direct vector method. -/
theorem State.accept_direct {k : IntKind} {q : EiRequest} (kind : k = if hm = .guest then .gmeiint else .eiint) (table : q.table = false) :
    ∃ t, s.accept (.ei k q) = .next t ∧ s.EntersEi t q hm false (s.DirectVector hm q) := by
  refine ⟨_, ?_, s.ends_entersEi hm k q _⟩
  rw [State.accept_ei _ _ _ kind]
  simp only [State.withHandler, State.withBank, State.bankRequested, table, Bool.false_and, Bool.false_eq_true, if_false,
    Bool.not_false, if_true, State.entered_vectorReg, State.entered_direct]

theorem State.takeException_env (s : State) (l : Level) (cause offset retpc : Word) (hm : Mode) (b : Bool) :
    (s.takeException l cause offset retpc hm b).env = s.env := by
  cases hm <;> rfl

/-- R824: a background interrupt. -/
theorem State.background_enters (s : State) (base : Word) (g : Option (BitVec 3)) (channel offset : Word) :
    s.Enters (s.takeException .ei (backgroundCause base g channel) offset s.pc .host false) .ei
      (base ||| ((g.getD 0).setWidth 32 <<< 16 ||| channel)) s.pc (s.HandlerBase .host + offset) .host false noCtxReg := by
  rw [← BitVec.or_assoc]
  exact s.takeException_enters ..

/-! ## FENMI goes before anything else -/

theorem highest_zero (a : Accepted) (xs : List (Nat × Accepted)) : highest ((0, a) :: xs) = some (0, a) := by
  rw [highest]
  split
  · rfl
  · exact if_pos (Nat.zero_le _)

theorem State.pick_fenmi (h : s.env.fenmi = true) : s.pick = some .fenmi := by
  rw [State.pick, State.offers, h]
  simp only [if_true, List.cons_append, List.nil_append]
  rw [show IntKind.fenmi.rank = 0 from rfl, highest_zero]
  rfl

/-- R820: the step that accepts FENMI. -/
theorem State.runStep_fenmi (h : s.env.fenmi = true) : ∃ t, s.runStep = .next t ∧ t.env = { s.env with fenmi := false } ∧
    t = { s.takeException .fe s.prod.causeFenmi 0xE0 s.pc .host false with
      cnt := t.cnt, lastPc := t.lastPc, free := t.free, env := t.env, out := t.out } := by
  have run : s.runStep = mapNext (s.finish false) (s.accept .fenmi) := by rw [State.runStep, State.pick_fenmi h]
  rw [State.accept, mapNext, State.finish_counts] at run
  exact ⟨_, run, rfl, rfl⟩

end Sys2Proof.Machine

open Sys2Proof.Machine

/-- Settles O52: each kind of interrupt takes an exception, and an EIINT or GMEIINT records its priority. -/
theorem interruptsEnterTheirHandlers : Obligations.InterruptsEnterTheirHandlers := by
  refine ⟨fun s fenmi => ?_, fun s q table => ?_, fun s q e y => ?_⟩
  · have enters := s.takeException_enters .fe s.prod.causeFenmi 0xE0 s.pc .host false
    obtain ⟨t, run, env, rest⟩ := State.runStep_fenmi fenmi
    refine ⟨t, run, _, enters, ?_⟩
    rw [env, rest]
    exact ⟨rfl, rfl, rfl, rfl, rfl, rfl, rfl, rfl, rfl, rfl, rfl⟩
  · obtain ⟨t, run, u, enters, pc, kept, psw, other, system, ispr, rbnr, mem, gpr, wr, mpu, link, env⟩ :=
      State.accept_direct (s := s) (hm := .host) (k := .eiint) rfl table
    have unchanged : t.sys.rbnr = u.sys.rbnr := by
      have listed : u.sys.rbnr = s.sys.rbnr := by
        rw [enters.system]
        split <;> rfl
      exact rbnr.trans listed.symm
    refine ⟨t, u, run, ?_, pc, kept, fun i small => ?_, other .guest (by decide), ?_, ispr, gpr, wr, mem rfl, mpu, link, env⟩
    · have least : min q.prio.toNat 15 = if q.prio.toNat < 16 then q.prio.toNat else 15 := by
        split <;> omega
      rw [State.DirectVector, least] at enters
      exact enters
    · refine (psw i small).trans ?_
      simp [State.ctx]
    · rw [system, unchanged]
  · have syserr : s.accept (.syserr y) = .next (s.acceptSyserr y) := rfl
    rw [State.acceptSyserr, syserrHandler_eq, State.takeException_env] at syserr
    exact ⟨⟨_, _, rfl, rfl, s.takeException_enters ..⟩, ⟨_, _, rfl, rfl, s.takeException_enters ..⟩,
      ⟨_, _, rfl, rfl, s.background_enters ..⟩, ⟨_, _, rfl, rfl, s.background_enters ..⟩,
      ⟨_, s.takeException .fe (0x10 + y.code.setWidth 32) 0x10 s.pc (s.SyserrMode s.mode) true, syserr, rfl,
        s.takeException_enters ..⟩, fun table => State.accept_direct rfl table⟩
end

section
/-!
PROOFS. The entries of an EIINT or GMEIINT that use the table of the handlers and a register bank, and what cancels them
(60_exceptions.md R807, R814 (c), R815, R821; 61_virtualization.md R904, R905).
-/

namespace Sys2Proof.Machine

variable {s t : State} {hm : Mode}

/-! ## Words stored one after another -/

/-- Words that do not overlap are read back; every other byte is kept. -/
theorem after_stores (wf : s.memWf) (place : Nat → Word) (value : Nat → Word) {n : Nat}
    (apart : ∀ i j b, i < n → j < n → i ≠ j → storedBytes (place i) 4 b → ¬ storedBytes (place j) 4 b) : ∀ k, k ≤ n →
      let u := after s (fun j t => t.writeWord (place j) (value j)) k
      u.memWf ∧ (∀ b, (∀ j, j < k → ¬ storedBytes (place j) 4 b) → u.readByte b = s.readByte b) ∧
        ∀ j, j < k → u.readWord (place j) = value j := by
  intro k
  induction k with
  | zero => exact fun _ => ⟨wf, fun _ _ => rfl, fun j lt => absurd lt (by omega)⟩
  | succ k ih =>
    intro le
    obtain ⟨wf_k, kept, stored⟩ := ih (by omega)
    rw [after_succ]
    refine ⟨State.memWf_writeWord _ wf_k _ _, fun b free => ?_, fun j lt => ?_⟩
    · rw [State.readByte_writeWord_outside _ wf_k _ _ _ (free k (by omega))]
      exact kept b fun j lt => free j (by omega)
    · by_cases last : j = k
      · subst last
        exact State.readWord_writeWord _ wf_k _ _
      · rw [State.readWord_writeWord_outside _ wf_k _ _ _ fun n small =>
          apart j k _ (by omega) (by omega) last (by unfold storedBytes; bv_omega)]
        exact stored j (by omega)

theorem after_memOnly (s : State) (place : Nat → Word) (value : Nat → Word) (k : Nat) :
    s.MemOnly (after s (fun j t => t.writeWord (place j) (value j)) k) :=
  after_keeps (fun t => s.MemOnly t) (show s.MemOnly s from rfl) (fun _ _ t only => only.trans (t.memOnly_writeWord _ _)) k le_rfl

/-- R905: the words of a bank do not overlap. -/
theorem State.bankPlace_apart (s : State) {i j : Nat} {b : Word} (hi : i < 35) (hj : j < 35) (ne : i ≠ j)
    (stored : storedBytes (s.BankPlace i) 4 b) : ¬ storedBytes (s.BankPlace j) 4 b := by
  unfold storedBytes State.BankPlace at *
  generalize s.sys.rbip - BitVec.ofNat 32 (s.sys.rbnr.toNat % 64 * if s.sys.rbcr0.getLsbD 16 then 0x90 else 0x60) = top at *
  simp only [BitVec.toNat_sub, BitVec.toNat_ofNat] at *
  have := top.isLt
  have := b.isLt
  omega

/-! ## An access of the entry hardware -/

/-- R814 (c): the PSW and PSWH of `s`, before the entry, in force again. -/
def State.restored (s t : State) : State := { t with
  host := { t.host with psw := s.host.psw }
  guest := { t.guest with psw := s.guest.psw }
  sys := { t.sys with pswh := s.sys.pswh } }

theorem State.restored_entered (s : State) (hm : Mode) : s.restored (s.entered hm) = s.EntryBegun hm := by
  cases hm with
  | guest => rfl
  | host =>
    by_cases hve : s.hve = true
    · rw [State.EntryBegun, if_pos ⟨rfl, hve⟩, State.entered, State.saveContext, hve]
      rfl
    · rw [State.EntryBegun, if_neg fun h => hve h.2, State.entered, State.saveContext, Bool.eq_false_iff.mpr hve]
      rfl

theorem State.restored_setMea (h : Mode) (mea mei : Word) : s.restored (t.setMea h mea mei) = (s.restored t).setMea h mea mei := by
  cases h <;> rfl

theorem after_restored (s : State) (place : Nat → Word) (value : Nat → Word) (k : Nat) :
    s.restored (after t (fun j t => t.writeWord (place j) (value j)) k) =
      after (s.restored t) (fun j t => t.writeWord (place j) (value j)) k := by
  induction k with
  | zero => rfl
  | succ k ih =>
    rw [after_succ, after_succ, ← ih]
    rfl

/-- An exception whose entry finds MEA and MEI written. -/
theorem State.takeException_mea (s : State) (l : Level) (cause offset retpc mea mei : Word) (hm : Mode) (b : Bool) :
    let t := (s.setMea hm mea mei).takeException l cause offset retpc hm b
    (t.ctx hm).mea = mea ∧ (t.ctx hm).mei = mei ∧ t.env = s.env ∧
      s.Enters t l cause retpc (s.HandlerBase hm + offset) hm b errorAddress := by
  have enters := (s.setMea hm mea mei).takeException_enters l cause offset retpc hm b
  have written : (s.setMea hm mea mei).ctx hm = { s.ctx hm with mea := mea, mei := mei } := by cases hm <;> rfl
  have address := enters.kept .mea (fun x => x.elim) (by decide) (by cases l <;> simp [Level.saves])
  have row := enters.kept .mei (fun x => x.elim) (by decide) (by cases l <;> simp [Level.saves])
  rw [written] at address row
  rw [State.setMea_handlerBase] at enters
  exact ⟨address, row, by cases hm <;> rfl, enters.setMea⟩

/-- What the entry keeps of the state it began from: all that its checks and the exceptions that cancel it read. -/
structure State.Entering (s t : State) (hm : Mode) : Prop where
  violation : ∀ lo hi ks, t.mpuViolation hm lo hi ks false = s.mpuViolation hm lo hi ks false
  base : ∀ h, (s.restored t).HandlerBase h = s.HandlerBase h
  gmcfg : t.sys.gmcfg = s.sys.gmcfg
  prod : t.prod = s.prod
  env : t.env = s.env

theorem State.entering_begins (s : State) (hm : Mode) : s.Entering (s.entered hm) hm := by
  refine ⟨fun lo hi ks => s.entered_violation hm lo hi ks false, fun h => ?_, (s.entered_keeps hm).2.2.2.2.2, s.entered_prod hm, ?_⟩
  · cases hm <;> cases h <;> rfl
  · cases hm <;> rfl

theorem State.Entering.stores (h : s.Entering t hm) (a v : Word) : s.Entering (t.writeWord a v) hm :=
  ⟨fun lo hi ks => by
      refine Eq.trans ?_ (h.violation lo hi ks)
      cases hm <;> simp [State.mpuViolation, State.layerDenies, State.hve],
    h.base, h.gmcfg, h.prod, h.env⟩

/-- An access of the entry hardware: a word, read or stored. -/
def Access.IsEntry (x : Access) (a : Word) (kind : AccessKind) : Prop := x.adr = a ∧ x.size = 4 ∧ x.kinds = [kind]

theorem bankAccess_isEntry (a : Word) : (bankAccess a).IsEntry a .write := ⟨rfl, rfl, rfl⟩
theorem tableAccess_isEntry (a : Word) : (tableAccess a).IsEntry a .read := ⟨rfl, rfl, rfl⟩

/-- R814 (c): a permitted access of the entry hardware to ordinary memory is performed. -/
theorem State.Entering.performs (h : s.Entering t hm) {x : Access} {a : Word} {kind : AccessKind} (shape : x.IsEntry a kind) (k : Out)
    (permitted : s.mpuViolation hm a.toNat (a.toNat + 3) [kind] false = none) (ordinary : s.Ordinary a 4) :
    s.entryAccess t hm x k = k := by
  obtain ⟨adr, size, kinds⟩ := shape
  have allowed : t.mpuViolation hm a.toNat (a.toNat + 4 - 1) [kind] false = none := (h.violation ..).trans permitted
  have free : t.Ordinary a 4 := by
    rw [State.Ordinary, h.prod]
    exact ordinary
  simp only [State.entryAccess, adr, size, kinds, allowed, free.touches, State.noteDevice_ordinary free, Bool.false_eq_true, if_false]

/-- R263: the mode that handles a violation of the entry. -/
theorem State.Entering.mpuHandler (h : s.Entering t hm) (l : Layer) : t.mpuHandler hm l =
    if hm = .guest ∧ s.sys.gmcfg.getLsbD (if l = .guest then 0 else 1) = false then .guest else .host := by
  rw [← h.gmcfg]
  cases hm <;> cases l <;> simp [State.mpuHandler, ← Bool.not_eq_true, ite_not]

theorem State.Entering.syserrHandler (h : s.Entering t hm) : t.syserrHandler hm = s.SyserrMode hm := by
  rw [syserrHandler_eq, State.SyserrMode, State.SyserrMode, h.gmcfg]

/-- R275: a violation of one access. -/
theorem deniedBits_single {lo hi : Nat} {kind : AccessKind} {l : Layer} (denied : t.mpuViolation hm lo hi [kind] false = some l)
    {bit : Nat} (direction : kind = .read ∧ bit = 19 ∨ kind = .write ∧ bit = 20) :
    t.deniedBits hm l lo hi [kind] false = BitVec.twoPow 32 bit := by
  have denies : t.layerDenies hm l lo hi kind false = true := by
    rw [mpuViolation_single] at denied
    split_ifs at denied with guest host <;> cases denied <;> assumption
  obtain ⟨rfl, rfl⟩ | ⟨rfl, rfl⟩ := direction <;> simp [State.deniedBits, denies]

/-- R814 (c), R275: an access of the entry hardware that the MPU denies cancels the entry. -/
theorem State.Entering.cancels_mdp (h : s.Entering t hm) {x : Access} {a : Word} {kind : AccessKind} (shape : x.IsEntry a kind)
    {k : Out} {l : Layer} (denied : s.mpuViolation hm a.toNat (a.toNat + 3) [kind] false = some l) {bit : Nat}
    (direction : kind = .read ∧ bit = 19 ∨ kind = .write ∧ bit = 20) {ik : IntKind} {q : EiRequest}
    (run : s.accept (.ei ik q) = s.entryAccess t hm x k) : s.CancelsWithMdp (s.restored t) ik q hm l a x.mei bit := by
  obtain ⟨adr, size, kinds⟩ := shape
  have stopped : t.mpuViolation hm a.toNat (a.toNat + 4 - 1) [kind] false = some l := (h.violation ..).trans denied
  have cause : t.deniedBits hm l a.toNat (a.toNat + 4 - 1) [kind] false ||| causeMdpEntry l =
      (if l = .guest then 0x95 else 0x9D) ||| BitVec.twoPow 32 bit := by
    rw [deniedBits_single stopped direction, BitVec.or_comm]
    cases l <;> rfl
  simp only [State.entryAccess, adr, size, kinds, stopped, h.mpuHandler, cause] at run
  rw [State.cancelEntry] at run
  change _ = Host.Outcome.next (((s.restored (t.setMea _ a x.mei)).takeException ..).emit _) at run
  rw [State.restored_setMea] at run
  have taken := (s.restored t).takeException_mea .fe ((if l = .guest then 0x95 else 0x9D) ||| BitVec.twoPow 32 bit) 0x90 s.pc a x.mei
    (if hm = .guest ∧ s.sys.gmcfg.getLsbD (if l = .guest then 0 else 1) = false then .guest else .host) true
  obtain ⟨mea, mei, env, enters⟩ := taken
  rw [h.base] at enters
  exact ⟨_, run, mea, mei, env.trans h.env, enters.emit _⟩

/-- R815: an access of the entry hardware to a reserved address cancels the entry. -/
theorem State.Entering.cancels_syserr (h : s.Entering t hm) {cause : Word} {ik : IntKind} {q : EiRequest}
    (run : s.accept (.ei ik q) = .next (s.cancelEntry t cause 0x10 (t.syserrHandler hm))) :
    s.CancelsWithSyserr (s.restored t) ik q hm cause := by
  rw [h.syserrHandler] at run
  have enters := (s.restored t).takeException_enters .fe cause 0x10 s.pc (s.SyserrMode hm) true
  rw [h.base] at enters
  refine ⟨_, run, ?_, enters.emit _⟩
  exact (State.takeException_env (s.restored t) .fe cause 0x10 s.pc (s.SyserrMode hm) true).trans h.env

theorem State.Entering.cancels_reserved (h : s.Entering t hm) {x : Access} {a : Word} {kind : AccessKind} (shape : x.IsEntry a kind)
    {k : Out} (permitted : s.mpuViolation hm a.toNat (a.toNat + 3) [kind] false = none) (reserved : s.Reaches .reserved (a, 4, [kind]))
    {ik : IntKind} {q : EiRequest} (run : s.accept (.ei ik q) = s.entryAccess t hm x k) :
    s.CancelsWithSyserr (s.restored t) ik q hm s.prod.causeReserved := by
  obtain ⟨adr, size, kinds⟩ := shape
  have allowed : t.mpuViolation hm a.toNat (a.toNat + 4 - 1) [kind] false = none := (h.violation ..).trans permitted
  have touches : t.prod.touches .reserved a 4 = true := by
    rw [h.prod]
    exact State.touches_iff_reaches.mpr reserved
  refine h.cancels_syserr (run.trans ?_)
  simp only [State.entryAccess, adr, size, kinds, allowed, touches, if_true]
  rw [h.prod]

/-! ## The bank, word by word -/

/-- R905: the words of the bank. -/
theorem State.bankWords_eq (s : State) (hm : Mode) (q : EiRequest) : s.bankWords hm q =
    [s.pc, (s.ctx hm).psw, s.prod.causeEiint + q.channel.setWidth 32, s.sys.fpsr] ++
      (if s.sys.rbcr0.getLsbD 16 then (List.range 31).map (· + 1) else (List.range 19).map (· + 1) ++ [30]).map
        fun r => s.reg (BitVec.ofNat 5 r) := by
  rw [State.bankWords, State.bankRegs, State.bankMode1, (s.entered_keeps hm).2.1]
  cases s.sys.rbcr0.getLsbD 16 <;> rfl

/-- R905: word `j` of the bank is stored. -/
def State.saveWord (s : State) (hm : Mode) (q : EiRequest) (j : Nat) (t : State) : State :=
  t.writeWord (s.BankPlace j) ((s.bankWords hm q).getD j 0)

/-- The entry, with `j` words of the bank stored. -/
def State.bankAt (s : State) (hm : Mode) (q : EiRequest) (j : Nat) : State := after (s.entered hm) (s.saveWord hm q) j

theorem State.entering_bankAt (s : State) (hm : Mode) (q : EiRequest) (j : Nat) : s.Entering (s.bankAt hm q j) hm :=
  after_keeps (fun t => s.Entering t hm) (s.entering_begins hm) (fun _ _ _ begun => begun.stores _ _) j le_rfl

theorem State.restored_bankAt (s : State) (hm : Mode) (q : EiRequest) (j : Nat) :
    s.restored (s.bankAt hm q j) = after (s.EntryBegun hm) (s.saveWord hm q) j := by
  rw [← s.restored_entered hm]
  exact after_restored s s.BankPlace (fun j => (s.bankWords hm q).getD j 0) j

theorem State.BankPlace_succ (s : State) (j : Nat) : s.BankPlace j - 4 = s.BankPlace (j + 1) := sub_words ..

/-- R905: the save reaches word `j` where the words before it are permitted. -/
theorem State.storeBank_reaches (s : State) (hm : Mode) (q : EiRequest) (k : State → Out) {j : Nat}
    (le : j ≤ (s.bankWords hm q).length) (permitted : ∀ i, i < j → let a := s.BankPlace i
      s.mpuViolation hm a.toNat (a.toNat + 3) [.write] false = none ∧ s.Ordinary a 4) :
    s.storeBank hm (s.bankWords hm q) (s.BankPlace 0) (s.entered hm) k =
      s.storeBank hm ((s.bankWords hm q).drop j) (s.BankPlace j) (s.bankAt hm q j) k := by
  induction j with
  | zero => rfl
  | succ j ih =>
    have lt : j < (s.bankWords hm q).length := by omega
    have go := permitted j (by omega)
    rw [ih (by omega) fun i lt => permitted i (by omega), List.drop_eq_getElem_cons lt, State.storeBank,
      (s.entering_bankAt hm q j).performs (bankAccess_isEntry _) _ go.1 go.2, State.BankPlace_succ]
    have word : (s.bankAt hm q j).writeWord (s.BankPlace j) (s.bankWords hm q)[j] = s.bankAt hm q (j + 1) := by
      rw [State.bankAt, State.bankAt, after_succ, State.saveWord, List.getD_eq_getElem _ _ lt]
    rw [word]

/-! ## The entry with a table and a bank -/

theorem State.banked_iff (s : State) (hm : Mode) (q : EiRequest) : s.Banked hm q = true ↔
    s.sys.rbcr0.getLsbD (min q.prio.toNat 15) = true ∧ (hm = .guest ∨ s.hve = false) := by
  simp [State.Banked]

/-- R807: the handler is in the base register, or in a word of the table that may be read. -/
def State.HandlerFound (s : State) (hm : Mode) (q : EiRequest) : Prop := (s.VectorReg hm).getLsbD 1 = true ∨
  (s.mpuViolation hm (s.tableSlot hm q).toNat ((s.tableSlot hm q).toNat + 3) [.read] false = none ∧ s.Ordinary (s.tableSlot hm q) 4)

section
variable {k : IntKind} {q : EiRequest} (kind : k = if hm = .guest then .gmeiint else .eiint) (table : q.table = true)
include kind table

/-- R807: where the handler is found, the entry goes on with the bank. -/
theorem State.accept_found (found : s.HandlerFound hm q) : s.accept (.ei k q) =
    s.withBank (s.entered hm) hm q (s.prod.causeEiint + q.channel.setWidth 32) fun u =>
      .next (s.entryEnd hm k q (s.tableHandler hm q) u) := by
  rw [State.accept_ei _ _ _ kind]
  cases direct : (s.VectorReg hm).getLsbD 1 with
  | true => exact s.withHandler_direct hm direct _
  | false =>
    have slot := found.resolve_left (by rw [direct]; decide)
    rw [State.withHandler_table _ _ table direct]
    exact (s.entering_begins hm).performs (tableAccess_isEntry _) _ slot.1 slot.2

theorem State.accept_unbanked (found : s.HandlerFound hm q) (unbanked : s.Banked hm q = false) :
    ∃ t, s.accept (.ei k q) = .next t ∧ s.EntersEi t q hm false (s.tableHandler hm q) :=
  ⟨_, (State.accept_found kind table found).trans (s.withBank_none hm table unbanked _ _), s.ends_entersEi hm k q _⟩

/-- R905: no bank is left. -/
theorem State.accept_full (found : s.HandlerFound hm q) (banked : s.Banked hm q = true) (full : s.BanksFull hm) :
    s.CancelsWithSyserr (s.EntryBegun hm) k q hm 0x1C := by
  rw [← s.restored_entered hm]
  refine (s.entering_begins hm).cancels_syserr ((State.accept_found kind table found).trans ?_)
  rw [State.withBank, s.entered_bankRequested hm table, banked, if_neg (by decide), if_pos ((s.entered_full hm).mpr full)]

section
variable (found : s.HandlerFound hm q) (banked : s.Banked hm q = true) (free : ¬ s.BanksFull hm)
include found banked free

/-- R905: the save of the bank reaches word `j`. -/
theorem State.accept_reaches {j : Nat} (le : j ≤ (s.bankWords hm q).length) (permitted : ∀ i, i < j → let a := s.BankPlace i
      s.mpuViolation hm a.toNat (a.toNat + 3) [.write] false = none ∧ s.Ordinary a 4) :
    s.accept (.ei k q) = s.storeBank hm ((s.bankWords hm q).drop j) (s.BankPlace j) (s.bankAt hm q j)
      fun u => .next (s.entryEnd hm k q (s.tableHandler hm q) (s.bankTaken hm q u)) := by
  rw [State.accept_found kind table found, s.withBank_stores hm table banked free]
  have top := s.bankPlace_eq hm 0
  rw [Nat.mul_zero, BitVec.sub_zero] at top
  rw [top]
  exact s.storeBank_reaches hm q _ le permitted

/-- R814 (c), R815: a word of the bank cancels the entry. -/
theorem State.accept_stops {j : Nat} (lt : j < (s.bankWords hm q).length) (permitted : ∀ i, i < j → let a := s.BankPlace i
      s.mpuViolation hm a.toNat (a.toNat + 3) [.write] false = none ∧ s.Ordinary a 4) :
    ∃ next, s.accept (.ei k q) = s.entryAccess (s.bankAt hm q j) hm (bankAccess (s.BankPlace j)) next := by
  rw [State.accept_reaches kind table found banked free lt.le permitted, List.drop_eq_getElem_cons lt]
  exact ⟨_, rfl⟩

end
end

/-- R905: the state after the bank is stored. -/
theorem State.bankTaken_endsFrom (s : State) (hm : Mode) (q : EiRequest) (n : Nat) : s.bankTaken hm q (s.bankAt hm q n) =
    s.endsFrom hm (s.bankAt hm q n).mem (BitVec.ofNat 32 (s.sys.rbnr.toNat % 64 + 1))
      (putBit ((s.entered hm).ctx hm).psw 5 (s.sys.rbcr1.getLsbD (min q.prio.toNat 15))) := by
  have only : s.bankAt hm q n = { s.entered hm with mem := (s.bankAt hm q n).mem } :=
    after_memOnly (s.entered hm) s.BankPlace (fun j => (s.bankWords hm q).getD j 0) n
  have number : (s.entered hm).bankNumber = s.sys.rbnr.toNat % 64 := by
    rw [State.bankNumber_eq, (s.entered_keeps hm).2.2.2.1]
  generalize (s.bankAt hm q n).mem = mem at only
  rw [only, ← number, ← (s.entered_keeps hm).2.2.1]
  cases hm <;> rfl

theorem State.entryEnd_mem (s : State) (hm : Mode) (k : IntKind) (q : EiRequest) (handler : Word) (w : State) :
    (s.entryEnd hm k q handler w).mem = w.mem := by
  have record := (w.setCtx hm ((w.ctx hm).setCause .ei (s.prod.causeEiint + q.channel.setWidth 32))).recordPriority_records hm q.prio
  have mem := congrArg State.mem record.rest
  exact mem.trans (by cases hm <;> rfl)

/-- R905: what memory holds after the save of a bank. -/
theorem State.bankAt_mem (s : State) (hm : Mode) (q : EiRequest) (wf : s.memWf) :
    (∀ j, j < (s.bankWords hm q).length →
      (s.bankAt hm q (s.bankWords hm q).length).readWord (s.BankPlace j) = (s.bankWords hm q).getD j 0) ∧
    ∀ a, (∀ j, j < (s.bankWords hm q).length → ¬ storedBytes (s.BankPlace j) 4 a) →
      (s.bankAt hm q (s.bankWords hm q).length).readByte a = s.readByte a := by
  have small : (s.bankWords hm q).length ≤ 35 := by
    rw [s.bankWords_length]
    split <;> omega
  have begun : (s.entered hm).memWf := by
    rw [State.memWf, s.entered_mem]
    exact wf
  obtain ⟨-, kept, stored⟩ := after_stores begun s.BankPlace (fun j => (s.bankWords hm q).getD j 0) (n := (s.bankWords hm q).length)
    (fun i j b hi hj ne => s.bankPlace_apart (by omega) (by omega) ne) _ le_rfl
  refine ⟨stored, fun a free => (kept a free).trans ?_⟩
  rw [State.readByte, s.entered_mem]
  rfl

/-- R904, R905: an interrupt that saves a bank. -/
theorem State.accept_banked {k : IntKind} {q : EiRequest} (wf : s.memWf) (kind : k = if hm = .guest then .gmeiint else .eiint)
    (table : q.table = true) (found : s.HandlerFound hm q) (banked : s.Banked hm q = true) (free : ¬ s.BanksFull hm)
    (permitted : ∀ i, i < (s.bankWords hm q).length → let a := s.BankPlace i
      s.mpuViolation hm a.toNat (a.toNat + 3) [.write] false = none ∧ s.Ordinary a 4) :
    ∃ t, s.accept (.ei k q) = .next t ∧ s.EntersEi t q hm true (s.tableHandler hm q) ∧
      (∀ j, j < (s.bankWords hm q).length → t.readWord (s.BankPlace j) = (s.bankWords hm q).getD j 0) ∧
      ∀ a, (∀ j, j < (s.bankWords hm q).length → ¬ storedBytes (s.BankPlace j) 4 a) → t.readByte a = s.readByte a := by
  have run := State.accept_reaches kind table found banked free le_rfl permitted
  rw [List.drop_length, State.storeBank, s.bankTaken_endsFrom] at run
  obtain ⟨stored, kept⟩ := s.bankAt_mem hm q wf
  have mem := s.entryEnd_mem hm k q (s.tableHandler hm q) (s.endsFrom hm (s.bankAt hm q (s.bankWords hm q).length).mem
    (BitVec.ofNat 32 (s.sys.rbnr.toNat % 64 + 1))
    (putBit ((s.entered hm).ctx hm).psw 5 (s.sys.rbcr1.getLsbD (min q.prio.toNat 15))))
  have ends : ∀ m r w, (s.endsFrom hm m r w).mem = m := fun _ _ _ => by cases hm <;> rfl
  rw [ends] at mem
  refine ⟨_, run, s.entryEnd_entersEi hm k q _ true _ _ _ nofun rfl fun i small => ?_, fun j lt => ?_, fun a outside => ?_⟩
  · rw [putBit_getLsbD _ _ _ _ (by omega)]
    simp
  · exact (State.readWord_congr mem _).trans (stored j lt)
  · refine Eq.trans ?_ (kept a outside)
    rw [State.readByte, mem]
    rfl

theorem tableAccess_mei (a : Word) : (tableAccess a).mei = meiRow 0 0 4 false 21 0 :=
  meiWord_eq_row (by decide) (by decide) (by decide) (by decide)
theorem bankAccess_mei (a : Word) : (bankAccess a).mei = meiRow 0 0 4 false 22 1 :=
  meiWord_eq_row (by decide) (by decide) (by decide) (by decide)

end Sys2Proof.Machine

open Sys2Proof.Machine

/-- Settles O53: the entry goes access by access, and the first one that is stopped cancels it. -/
theorem interruptsUseTablesAndBanks : Obligations.InterruptsUseTablesAndBanks := by
  intro s hm q wf table k p slot allowed direct handler found banked bn full big rs words place save n
  have listed : words = s.bankWords hm q := (s.bankWords_eq hm q).symm
  have saves : save = s.saveWord hm q := by
    funext j t
    show t.writeWord (s.BankPlace j) (words.getD j 0) = _
    rw [listed]
    rfl
  have count : n = (s.bankWords hm q).length := congrArg List.length listed
  have uses := s.banked_iff hm q
  refine ⟨fun here off => ?_, fun here on left permitted => ?_, fun here on none => ?_, ?_⟩
  · exact State.accept_unbanked rfl table here (Bool.eq_false_iff.mpr (mt uses.mp off))
  · rw [count] at permitted ⊢
    rw [listed]
    exact State.accept_banked wf rfl table here (uses.mpr on) left permitted
  · exact State.accept_full rfl table here (uses.mpr on) none
  · intro cancelled
    refine ⟨fun indirect => ?_, fun here on left j lt permitted => ?_⟩
    · have run := (State.accept_ei s hm q (k := k) rfl).trans (s.withHandler_table hm table indirect _)
      have begins := s.entering_begins hm
      rw [← s.restored_entered hm]
      refine ⟨fun l denied => ?_, fun free reserved => ?_⟩
      · have stops := begins.cancels_mdp (tableAccess_isEntry _) denied (.inl ⟨rfl, rfl⟩) run
        rwa [tableAccess_mei] at stops
      · exact begins.cancels_reserved (tableAccess_isEntry _) free reserved run
    · rw [saves, ← s.restored_bankAt]
      rw [count] at lt
      obtain ⟨next, run⟩ := State.accept_stops rfl table here (uses.mpr on) left lt permitted
      have reached := s.entering_bankAt hm q j
      refine ⟨fun l denied => ?_, fun free reserved => ?_⟩
      · have stops := reached.cancels_mdp (bankAccess_isEntry _) denied (.inr ⟨rfl, rfl⟩) run
        rwa [bankAccess_mei] at stops
      · exact reached.cancels_reserved (bankAccess_isEntry _) free reserved run

end

section
/-!
PROOFS. The FPU instructions: unusable, trapped or completing (46_fpu.md R580 to R584, 60_exceptions.md R812, R816).
-/

namespace Sys2Proof.Machine

variable {s : State} {i : Instr}

/-! ## The status word -/

/-- R584: what is taken as an exception. -/
theorem fpTaken_iff (w : Word) (d : FpDet) : fpTaken w d = true ↔ Trapped w d := by
  have enabled : (d.extractLsb' 0 5 &&& w.extractLsb' 5 5) != 0 ↔
      ∃ i, i < 5 ∧ d.getLsbD i = true ∧ w.getLsbD (i + 5) = true := by
    rw [bne_iff_ne, ne_eq, ← not_forall_not, not_iff_not]
    constructor
    · intro none i ⟨small, detected, enable⟩
      have bit := congrArg (fun x : BitVec 5 => x.getLsbD i) none
      simp [small, detected, Nat.add_comm 5 i, enable] at bit
    · intro none
      apply BitVec.eq_of_getLsbD_eq
      intro i small
      have off : ¬ (d.getLsbD i = true ∧ w.getLsbD (i + 5) = true) := fun h => none i ⟨small, h⟩
      rw [BitVec.getLsbD_and, BitVec.getLsbD_extractLsb', BitVec.getLsbD_extractLsb', Nat.zero_add, Nat.add_comm 5 i]
      simpa [small] using off
  rw [fpTaken, Bool.or_eq_true, enabled]
  rfl

/-- R584: the cause bits and IF. -/
theorem fpCause_bit (w : Word) (d : FpDet) (flushed : Bool) (i : Nat) (small : i < 32) : (fpCause w d flushed).getLsbD i =
    if 10 ≤ i ∧ i < 16 then d.getLsbD (i - 10) else if i = 22 then w.getLsbD i || flushed else w.getLsbD i := by
  have mask : (0xFC00 : Word).getLsbD i = decide (10 ≤ i ∧ i < 16) := by
    revert i
    decide
  have ifBit : (if flushed then (0x00400000 : Word) else 0).getLsbD i = (decide (i = 22) && flushed) := by
    cases flushed
    · simp
    · rw [if_pos rfl, show (0x00400000 : Word) = BitVec.twoPow 32 22 from rfl, BitVec.getLsbD_twoPow]
      simp [eq_comm]
  rw [fpCause, BitVec.getLsbD_or, putMasked_getLsbD, mask, ifBit]
  by_cases cause : 10 ≤ i ∧ i < 16
  · have ne : i ≠ 22 := by omega
    have low : ¬ i < 10 := by omega
    have fits : i - 10 < 32 := by omega
    simp [cause, ne, low, small]
  · by_cases same : i = 22
    · simp [same]
    · simp [cause, same]

theorem statusTrapped_cause (w : Word) (d : FpDet) (flushed : Bool) : StatusTrapped w (fpCause w d flushed) d flushed :=
  fun i small => fpCause_bit w d flushed i small

/-- R584: the cause bits, IF and the preservation bits. -/
theorem statusAfter_keep (w : Word) (d : FpDet) (flushed : Bool) : StatusAfter w (fpKeep (fpCause w d flushed) d) d flushed := by
  intro i small
  have kept : ((d.extractLsb' 0 5).setWidth 32).getLsbD i = (decide (i < 5) && d.getLsbD i) := by
    simp [small]
  rw [fpKeep, BitVec.getLsbD_or, fpCause_bit w d flushed i small, kept]
  by_cases cause : 10 ≤ i ∧ i < 16
  · have high : ¬ i < 5 := by omega
    simp [cause, high]
  · by_cases low : i < 5
    · have ne : i ≠ 22 := by omega
      simp [cause, low, ne]
    · simp [cause, low]

/-! ## The three outcomes -/

theorem fpuUnusable_of {k : Out} (h : exec i s = s.withFpu k) : FpuUnusable i s := by
  intro off
  refine State.raise_takes (h.trans ?_)
  rw [State.withFpu, off]
  rfl

/-- R584, R816: the exception of a trapped instruction. -/
theorem fpuTraps_of {r : FpRes} {write : State → State} (h : exec i s = s.withFpu (s.fpuFinish r write)) : FpuTraps i s r := by
  intro usable trapped
  have raised : exec i s = (s.setFpsr (fpCause s.sys.fpsr r.det r.flushed)).raiseFpe := by
    rw [h, State.withFpu, if_pos usable, State.fpuFinish, if_pos ((fpTaken_iff ..).mpr trapped)]
  obtain ⟨t, next, enters⟩ := State.raise_enters
    { s with sys := { s.sys with fpsr := fpCause s.sys.fpsr r.det r.flushed, fpepc := evenPc s.pc } } .ei 0x71 0x70 s.mode
  exact ⟨t, _, raised.trans next, statusTrapped_cause _ _ _, enters⟩

/-- R581: the state after an FPU instruction that writes `v` to `dst`. -/
def State.fpuEnd (s : State) (w : Word) (dst : FpOperand) (v : DWord) (n : Nat) : State :=
  (((s.setFpsr w).fpPut dst v).skipFree n).advance 4

theorem State.frame_fpPut (s : State) (dst : FpOperand) (v : DWord) {B : Word → Prop} {m : Word} : s.Frame (s.fpPut dst v) dst.has B m := by
  cases dst with
  | one r => exact State.frame_setReg _ _ _ rfl
  | pair p => exact (State.frame_setReg _ _ _ (.inl rfl)).trans (State.frame_setReg _ _ _ (.inr rfl))

theorem State.fpPut_holds (s : State) (dst : FpOperand) (v : DWord) : (s.fpPut dst v).HoldsFp dst v := by
  cases dst with
  | one r => exact State.holds_setReg _ _ _
  | pair p =>
    refine ⟨?_, State.holds_setReg _ _ _⟩
    have even := State.holds_setReg s (RegPair.even p) (v.extractLsb' 0 32)
    have low : v.extractLsb' 0 32 = v.setWidth 32 := (BitVec.setWidth_eq_extractLsb' (by decide)).symm
    have both := State.holds_setReg_ne (w := v.extractLsb' 32 32) _ even (pair_apart p)
    rw [low] at both
    rw [State.fpPut, State.setRegPair, low]
    exact both

theorem State.frame_setFpsr (s : State) (w : Word) {D : Reg → Prop} {B : Word → Prop} {m : Word} : s.Frame (s.setFpsr w) D B m :=
  ⟨fun _ _ => rfl, fun _ _ => rfl, rfl, rfl, fun _ _ _ => rfl, rfl, rfl, rfl, rfl, rfl, rfl, rfl⟩

theorem State.fpPut_units (s : State) (dst : FpOperand) (v : DWord) : s.SameUnits (s.fpPut dst v) ∧ (s.fpPut dst v).pc = s.pc := by
  cases dst with
  | one r => exact ⟨State.units_setReg _ _ _, State.setReg_pc _ _ _⟩
  | pair p => exact ⟨(State.units_setReg _ _ _).trans (State.units_setReg _ _ _), State.setRegPair_pc _ _ _⟩

/-- R584: an FPU instruction that is not trapped. -/
theorem fpuCompletes_of {w : Word} {dst : FpOperand} {v : DWord} {n : Nat} {status : Word → Word → Prop}
    (h : exec i s = .next (s.fpuEnd w dst v n)) (after : status s.sys.fpsr w) : FpuCompletes i s dst v status := by
  obtain ⟨⟨vectors, system, link, standby⟩, pc⟩ := (s.setFpsr w).fpPut_units dst v
  have holds := (s.setFpsr w).fpPut_holds dst v
  have sys : (s.fpuEnd w dst v n).sys = { s.sys with fpsr := w } := system
  refine ⟨_, h, ?_, ?_, vectors, link, standby, ?_, ?_, ?_⟩
  · show evenPc (((s.setFpsr w).fpPut dst v).pc + _) = _
    rw [pc]
    rfl
  · exact (((State.frame_setFpsr _ _).trans (State.frame_fpPut _ _ _)).trans (State.frame_skipFree _ _)).trans (State.frame_advance _ _)
  · rw [sys]
  · rw [sys]
    exact after
  · cases dst <;> exact holds

/-- R580, R584: an FPU instruction with one result. -/
theorem fpuDoes_of {r : FpRes} {dst : FpOperand} {n : Nat}
    (h : exec i s = s.withFpu (s.fpuFinish r fun t => (t.fpPut dst r.val).skipFree n)) : FpuDoes i s dst r := by
  refine ⟨fpuUnusable_of h, fpuTraps_of h, fun usable quiet => ?_⟩
  refine fpuCompletes_of (w := fpKeep (fpCause s.sys.fpsr r.det r.flushed) r.det) (n := n) ?_ (statusAfter_keep _ _ _)
  rw [h, State.withFpu, if_pos usable, State.fpuFinish, if_neg (mt (fpTaken_iff ..).mp quiet)]
  rfl

theorem fpuDoes_op {dst : FpOperand} {f : Product → Word → FpRes} (h : exec i s = s.fpuOp dst f) :
    FpuDoes i s dst (f s.prod s.sys.fpsr) :=
  fpuDoes_of (n := 0) h

section
variable {p1 p2 p3 : RegPair} {r1 r2 r3 : Reg} {op : RMode → Fp → Fp → Cell}

theorem fpuDoes_arithD (h : exec i s = s.fpuArith .double op (.pair p1) (.pair p2) (.pair p3)) :
    FpuDoes i s (.pair p3) (fpArith2 s.prod s.sys.fpsr .double op (s.regPair p2) (s.regPair p1)) :=
  fpuDoes_op (f := fun p w => fpArith2 p w .double op (s.regPair p2) (s.regPair p1)) h

theorem fpuDoes_arithS (h : exec i s = s.fpuArith .single op (.one r1) (.one r2) (.one r3)) :
    FpuDoes i s (.one r3) (fpArith2 s.prod s.sys.fpsr .single op ((s.reg r2).setWidth 64) ((s.reg r1).setWidth 64)) :=
  fpuDoes_op (f := fun p w => fpArith2 p w .single op ((s.reg r2).setWidth 64) ((s.reg r1).setWidth 64)) h

theorem fpuDoes_fma {sub neg : Bool} (h : exec i s = s.fpuFma sub neg r1 r2 r3) : FpuDoes i s (.one r3)
    (fpFma s.prod s.sys.fpsr sub neg ((s.reg r2).setWidth 64) ((s.reg r1).setWidth 64) ((s.reg r3).setWidth 64)) :=
  fpuDoes_op (f := fun p w => fpFma p w sub neg ((s.reg r2).setWidth 64) ((s.reg r1).setWidth 64) ((s.reg r3).setWidth 64)) h

theorem fpuDoes_maxMinD {larger : Bool} (h : exec i s = s.fpuMaxMin .double larger (.pair p1) (.pair p2) (.pair p3)) :
    ∃ z, FpuDoes i s (.pair p3) (fpMaxMin s.prod .double larger z (s.regPair p2) (s.regPair p1)) :=
  ⟨_, fpuDoes_of (n := 1) h⟩

theorem fpuDoes_maxMinS {larger : Bool} (h : exec i s = s.fpuMaxMin .single larger (.one r1) (.one r2) (.one r3)) :
    ∃ z, FpuDoes i s (.one r3) (fpMaxMin s.prod .single larger z ((s.reg r2).setWidth 64) ((s.reg r1).setWidth 64)) :=
  ⟨_, fpuDoes_of (n := 1) h⟩

/-! ### Conversions -/

variable {f : Fmt} {dst : FpOperand}

theorem fpuDoes_toIntD {mode : Option RMode} {signed : Bool} {width : Nat} (h : exec i s = s.fpuToInt f mode signed width (.pair p2) dst) :
    FpuDoes i s dst (fpToInt s.sys.fpsr f mode signed width (s.regPair p2)) :=
  fpuDoes_op (f := fun _ w => fpToInt w f mode signed width (s.regPair p2)) h

theorem fpuDoes_toIntS {mode : Option RMode} {signed : Bool} {width : Nat} (h : exec i s = s.fpuToInt f mode signed width (.one r2) dst) :
    FpuDoes i s dst (fpToInt s.sys.fpsr f mode signed width ((s.reg r2).setWidth 64)) :=
  fpuDoes_op (f := fun _ w => fpToInt w f mode signed width ((s.reg r2).setWidth 64)) h

theorem fpuDoes_ofInt {v : Int} (h : exec i s = s.fpuOfInt f v dst) : FpuDoes i s dst (fpOfInt s.sys.fpsr f v) :=
  fpuDoes_op (f := fun _ w => fpOfInt w f v) h

theorem fpuDoes_toFp {src : Fmt} {reg2 : FpOperand} (h : exec i s = s.fpuToFp src f reg2 dst) :
    FpuDoes i s dst (fpToFp s.prod s.sys.fpsr src f (s.fpGet reg2)) :=
  fpuDoes_op (f := fun p w => fpToFp p w src f (s.fpGet reg2)) h

end

/-- R580: an FPU instruction that raises no floating-point exception. -/
theorem fpuMoves_of {dst : FpOperand} {v : DWord} (h : exec i s = s.fpuMove dst v) : FpuUnusable i s ∧ FpuMoves i s dst v := by
  refine ⟨fpuUnusable_of h, fun usable => ?_⟩
  refine fpuCompletes_of (w := s.sys.fpsr) (n := 0) ?_ rfl
  rw [h, State.fpuMove, State.withFpu, if_pos usable]
  rfl

/-- R12: a result function that rounds correctly has no free offset. -/
theorem ulpOffset_rounded {r : RecipRule} {free : Nat → Int} (h : r = .rounded) : ulpOffset r free = none := by
  rw [h, ulpOffset]

end Sys2Proof.Machine

open Sys2Proof.Machine

/-- Settles O41: each instruction is one operation of the template with one destination. -/
theorem fpuArithmeticCompletesOrTraps : Obligations.FpuArithmeticCompletesOrTraps := by
  refine ⟨fun s p1 p2 p3 r1 r2 r3 => ?_, fun s p1 p2 p3 r1 r2 r3 => ?_⟩
  · intro w d v double single fused
    exact ⟨fpuDoes_arithD rfl, fpuDoes_arithS rfl, fpuDoes_arithD rfl, fpuDoes_arithS rfl, fpuDoes_arithD rfl, fpuDoes_arithS rfl,
      fpuDoes_arithD rfl, fpuDoes_arithS rfl, fpuDoes_op (dst := .pair p3) (f := fun p w => fpSqrt p w .double (s.regPair p2)) rfl,
      fpuDoes_op (dst := .one r3) (f := fun p w => fpSqrt p w .single ((s.reg r2).setWidth 64)) rfl, fpuDoes_fma rfl, fpuDoes_fma rfl,
      fpuDoes_fma rfl, fpuDoes_fma rfl⟩
  · refine ⟨fpuDoes_maxMinD rfl, fpuDoes_maxMinS rfl, fpuDoes_maxMinD rfl, fpuDoes_maxMinS rfl, ?_, ?_, ?_, ?_⟩
    · exact ⟨_, ulpOffset_rounded, fpuDoes_op (f := fun p w => recipD p w (s.regPair p2)) rfl⟩
    · exact ⟨_, ulpOffset_rounded, fpuDoes_op (f := fun p w => recipS p w (s.reg r2)) rfl⟩
    · exact ⟨_, ulpOffset_rounded, fpuDoes_op (f := fun p w => rsqrtD p w (s.regPair p2)) rfl⟩
    · exact ⟨_, ulpOffset_rounded, fpuDoes_op (f := fun p w => rsqrtS p w (s.reg r2)) rfl⟩

/-- Settles O42: each conversion is one operation with one destination. -/
theorem fpuConversionsCompleteOrTrap : Obligations.FpuConversionsCompleteOrTrap := by
  refine ⟨fun s p2 p3 r2 r3 => ?_, fun s p2 p3 r2 r3 => ?_⟩
  · intro fromDouble fromSingle
    have double : ∀ (m : Option RMode) (dl dul dw duw : Sys2Proof.Instr),
        exec dl s = s.fpuToInt .double m true 64 (.pair p2) (.pair p3) → exec dul s = s.fpuToInt .double m false 64 (.pair p2) (.pair p3) →
        exec dw s = s.fpuToInt .double m true 32 (.pair p2) (.one r3) → exec duw s = s.fpuToInt .double m false 32 (.pair p2) (.one r3) →
        fromDouble m dl dul dw duw :=
      fun m dl dul dw duw h1 h2 h3 h4 => ⟨fpuDoes_toIntD h1, fpuDoes_toIntD h2, fpuDoes_toIntD h3, fpuDoes_toIntD h4⟩
    have single : ∀ (m : Option RMode) (sl sul sw suw : Sys2Proof.Instr),
        exec sl s = s.fpuToInt .single m true 64 (.one r2) (.pair p3) → exec sul s = s.fpuToInt .single m false 64 (.one r2) (.pair p3) →
        exec sw s = s.fpuToInt .single m true 32 (.one r2) (.one r3) → exec suw s = s.fpuToInt .single m false 32 (.one r2) (.one r3) →
        fromSingle m sl sul sw suw :=
      fun m sl sul sw suw h1 h2 h3 h4 => ⟨fpuDoes_toIntS h1, fpuDoes_toIntS h2, fpuDoes_toIntS h3, fpuDoes_toIntS h4⟩
    exact ⟨double _ _ _ _ _ rfl rfl rfl rfl, single _ _ _ _ _ rfl rfl rfl rfl, double _ _ _ _ _ rfl rfl rfl rfl,
      single _ _ _ _ _ rfl rfl rfl rfl, double _ _ _ _ _ rfl rfl rfl rfl, single _ _ _ _ _ rfl rfl rfl rfl,
      double _ _ _ _ _ rfl rfl rfl rfl, single _ _ _ _ _ rfl rfl rfl rfl, double _ _ _ _ _ rfl rfl rfl rfl,
      single _ _ _ _ _ rfl rfl rfl rfl⟩
  · intro w v
    have half : (s.reg r2).extractLsb' 0 16 = (s.reg r2).setWidth 16 := (BitVec.setWidth_eq_extractLsb' (by decide)).symm
    have halves := fpuDoes_op (s := s) (i := .cvtfHs r2 r3) (dst := .one r3)
      (f := fun p w => fpOfHalf p w ((s.reg r2).extractLsb' 0 16)) rfl
    rw [half] at halves
    exact ⟨fpuDoes_toFp (reg2 := .pair p2) rfl, fpuDoes_toFp (reg2 := .one r2) rfl, fpuDoes_toFp (reg2 := .one r2) rfl, halves,
      fpuDoes_ofInt rfl, fpuDoes_ofInt rfl, fpuDoes_ofInt rfl, fpuDoes_ofInt rfl, fpuDoes_ofInt rfl, fpuDoes_ofInt rfl⟩

end

section
/-!
PROOFS. The FXU instructions: their elements, and unusable, trapped or completing (48_fxu.md R700 to R706, 60_exceptions.md R812, R817).
-/

namespace Sys2Proof.Machine

variable {s : State} {i : Instr}

/-! ## Word elements -/

theorem wordElem_bit (v : QWord) (k n : Nat) (h : n < 32) : (wordElem v k).getLsbD n = v.getLsbD (32 * k + n) := by
  simp [wordElem, h]

theorem wordElem_ofWords (w : Nat → Word) {k : Nat} (h : k < 4) : wordElem (ofWords w) k = w k := by
  apply BitVec.eq_of_getLsbD_eq
  intro n small
  rw [wordElem_bit _ _ _ small]
  simp only [ofWords, BitVec.getLsbD_append]
  interval_cases k
  · have h0 : 32 * 0 + n < 32 := by omega
    simp [small]
  · have h1 : ¬ 32 * 1 + n < 32 := by omega
    have e : 32 * 1 + n - 32 = n := by omega
    rw [if_neg h1, e, if_pos small]
  · have h1 : ¬ 32 * 2 + n < 32 := by omega
    have h2 : ¬ 32 * 2 + n - 32 < 32 := by omega
    have e : 32 * 2 + n - 32 - 32 = n := by omega
    rw [if_neg h1, if_neg h2, e, if_pos small]
  · have h1 : ¬ 32 * 3 + n < 32 := by omega
    have h2 : ¬ 32 * 3 + n - 32 < 32 := by omega
    have h3 : ¬ 32 * 3 + n - 32 - 32 < 32 := by omega
    have e : 32 * 3 + n - 32 - 32 - 32 = n := by omega
    rw [if_neg h1, if_neg h2, if_neg h3, e]

/-! ## The status registers -/

/-- R705: what some element detected. -/
theorem detected_iff (r : Nat → FpRes) (d : FpDet) : Detected r d ↔ d = detAny r := by
  have any : Detected r (detAny r) := by
    intro i
    simp only [detAny, BitVec.getLsbD_or, Bool.or_eq_true]
    constructor
    · rintro (((h | h) | h) | h)
      · exact ⟨3, by decide, h⟩
      · exact ⟨2, by decide, h⟩
      · exact ⟨1, by decide, h⟩
      · exact ⟨0, by decide, h⟩
    · rintro ⟨k, small, h⟩
      interval_cases k <;> simp [h]
  refine ⟨fun h => ?_, fun e => e ▸ any⟩
  apply BitVec.eq_of_getLsbD_eq
  intro i _
  exact Bool.eq_iff_iff.mpr ((h i).trans (any i).symm)

theorem flushedAny_eq (r : Nat → FpRes) : flushedAny r = ((r 0).flushed || (r 1).flushed || (r 2).flushed || (r 3).flushed) := by
  unfold flushedAny
  cases (r 0).flushed <;> cases (r 1).flushed <;> cases (r 2).flushed <;> cases (r 3).flushed <;> rfl

/-- R189: a byte of FXXC. -/
theorem fxxcOf_bit (r : Nat → FpRes) {k i : Nat} (hk : k < 4) (hi : i < 8) : (fxxcOf r).getLsbD (8 * k + i) = (r k).det.getLsbD i := by
  simp only [fxxcOf, BitVec.getLsbD_append]
  interval_cases k <;> interval_cases i <;> simp

theorem fxxpOf_bit (r : Nat → FpRes) {k i : Nat} (hk : k < 4) (hi : i < 8) :
    (fxxpOf r).getLsbD (8 * k + i) = (decide (i < 5) && (r k).det.getLsbD i) := by
  have mask : (0x1F1F1F1F : Word).getLsbD (8 * k + i) = decide (i < 5) := by
    interval_cases k <;> interval_cases i <;> rfl
  rw [fxxpOf, BitVec.getLsbD_and, fxxcOf_bit r hk hi, mask, Bool.and_comm]

/-! ## The three outcomes -/

theorem fxuUnusable_of {k : Out} (h : exec i s = s.withFxu k) : FxuUnusable i s := by
  intro off
  refine State.raise_takes (h.trans ?_)
  rw [State.withFxu, off]
  rfl

/-- R705, R817: the exception of a trapped instruction. -/
theorem fxuTraps_of {r : Nat → FpRes} {write : State → State} (h : exec i s = s.withFxu (s.fxuFinish r write)) : FxuTraps i s r := by
  intro d detected usable trapped
  rw [detected_iff] at detected
  subst detected
  let u : State := { s with sys := { s.sys with fxsr := fpCause s.sys.fxsr (detAny r) (flushedAny r), fxxc := fxxcOf r } }
  have raised : exec i s = u.raiseFxe := by
    rw [h, State.withFxu, if_pos usable, State.fxuFinish, if_pos ((fpTaken_iff ..).mpr trapped)]
  obtain ⟨t, next, enters⟩ := State.raise_enters u .ei 0x75 0x70 s.mode
  refine ⟨t, _, _, raised.trans next, ?_, fun k hk i hi => fxxcOf_bit r hk hi, enters⟩
  rw [← flushedAny_eq]
  exact statusTrapped_cause _ _ _

theorem State.frame_setVreg (s : State) (r : VReg) (v : QWord) {D : Reg → Prop} {B : Word → Prop} {m : Word} :
    s.Frame (s.setVreg r v) D B m :=
  ⟨fun _ _ => rfl, fun _ _ => rfl, rfl, rfl, fun _ _ _ => rfl, rfl, rfl, rfl, rfl, rfl, rfl, rfl⟩

/-- R705: the status registers of the FXU replaced. -/
def State.fxuStatus (s : State) (w c p : Word) : State := { s with sys := { s.sys with fxsr := w, fxxc := c, fxxp := p } }

theorem State.frame_fxuStatus (s : State) (w c p : Word) {D : Reg → Prop} {B : Word → Prop} {m : Word} :
    s.Frame (s.fxuStatus w c p) D B m :=
  ⟨fun _ _ => rfl, fun _ _ => rfl, rfl, rfl, fun _ _ _ => rfl, rfl, rfl, rfl, rfl, rfl, rfl, rfl⟩

/-- R705, R706: the four elements written. -/
theorem fxuGives_of {r : Nat → FpRes} {dst : VReg} {n : Nat} (h : exec i s =
    s.withFxu (s.fxuFinish r fun t => (t.setVreg dst (ofWords fun k => (r k).val.setWidth 32)).skipFree n)) : FxuGives i s dst r := by
  intro d detected usable quiet
  rw [detected_iff] at detected
  subst detected
  let w := fpKeep (fpCause s.sys.fxsr (detAny r) (flushedAny r)) (detAny r)
  let v := ofWords fun k => (r k).val.setWidth 32
  have run : exec i s = .next
      ((((s.fxuStatus w (fxxcOf r) (s.sys.fxxp ||| fxxpOf r)).setVreg dst v).skipFree n).advance 4) := by
    rw [h, State.withFxu, if_pos usable, State.fxuFinish, if_neg (mt (fpTaken_iff ..).mp quiet)]
    rfl
  refine ⟨_, run, rfl, ?_, rfl, rfl, fun m ne => ?_, fun k small => ?_, rfl, ?_, fun k hk i hi => fxxcOf_bit r hk hi,
    fun k hk i hi => ?_⟩
  · exact (((State.frame_fxuStatus _ _ _ _).trans (State.frame_setVreg _ _ _)).trans (State.frame_skipFree _ _)).trans
      (State.frame_advance _ _)
  · exact (State.setVreg_vreg ..).trans (if_neg ne)
  · have written : ((((s.fxuStatus w (fxxcOf r) (s.sys.fxxp ||| fxxpOf r)).setVreg dst v).skipFree n).advance 4).vreg dst = v :=
      (State.setVreg_vreg ..).trans (if_pos rfl)
    rw [written]
    exact wordElem_ofWords _ small
  · rw [← flushedAny_eq]
    exact statusAfter_keep _ _ _
  · show (s.sys.fxxp ||| fxxpOf r).getLsbD (8 * k + i) = _
    rw [BitVec.getLsbD_or, fxxpOf_bit r hk hi]

theorem fxuDoes_of {r : Nat → FpRes} {dst : VReg} {n : Nat} (h : exec i s =
    s.withFxu (s.fxuFinish r fun t => (t.setVreg dst (ofWords fun k => (r k).val.setWidth 32)).skipFree n)) : FxuDoes i s dst r :=
  ⟨fxuUnusable_of h, fxuTraps_of h, fxuGives_of h⟩

/-- R706: an instruction that works element by element. -/
theorem fxuDoes_vec4 {dst : VReg} {f : Product → Word → Nat → FpRes} (h : exec i s = s.vec4 dst f) :
    FxuDoes i s dst (f s.prod s.sys.fxsr) :=
  fxuDoes_of (n := 0) h

/-- Only the elements 0 to 3 matter. -/
theorem FxuDoes.congr {dst : VReg} {r q : Nat → FpRes} (h : FxuDoes i s dst r) (same : ∀ k, k < 4 → q k = r k) : FxuDoes i s dst q := by
  obtain ⟨unusable, traps, gives⟩ := h
  have detected {d : FpDet} (h : Detected q d) : Detected r d := fun i => (h i).trans
    ⟨fun ⟨k, hk, e⟩ => ⟨k, hk, same k hk ▸ e⟩, fun ⟨k, hk, e⟩ => ⟨k, hk, (same k hk).symm ▸ e⟩⟩
  have flushed : ((q 0).flushed || (q 1).flushed || (q 2).flushed || (q 3).flushed) =
      ((r 0).flushed || (r 1).flushed || (r 2).flushed || (r 3).flushed) := by
    rw [same 0 (by decide), same 1 (by decide), same 2 (by decide), same 3 (by decide)]
  refine ⟨unusable, fun d det usable trapped => ?_, fun d det usable quiet => ?_⟩
  · obtain ⟨t, w, c, run, status, cause, enters⟩ := traps d (detected det) usable trapped
    rw [← flushed] at status
    exact ⟨t, w, c, run, status, fun k hk i hi => by rw [same k hk, cause k hk i hi], enters⟩
  · obtain ⟨t, run, pc, frame, link, halt, others, values, sys, status, cause, preserved⟩ := gives d (detected det) usable quiet
    rw [← flushed] at status
    exact ⟨t, run, pc, frame, link, halt, others, fun k hk => by rw [same k hk, values k hk], sys, status,
      fun k hk i hi => by rw [same k hk, cause k hk i hi], fun k hk i hi => by rw [same k hk, preserved k hk i hi]⟩

/-- R700: an instruction that moves data only. -/
theorem fxuMoves_of {dst : VReg} {v : QWord} {len : Nat} {w : Nat → Word}
    (h : s.psw.getLsbD 17 = true → exec i s = .next ((s.setVreg dst v).advance len)) (elements : ∀ k, k < 4 → wordElem v k = w k) :
    FxuMoves i s len dst w := by
  intro usable
  refine ⟨_, h usable, rfl, (State.frame_setVreg _ _ _).trans (State.frame_advance _ _), rfl, rfl, rfl, fun r ne => ?_, fun k small => ?_⟩
  · exact (State.setVreg_vreg ..).trans (if_neg ne)
  · have written : ((s.setVreg dst v).advance len).vreg dst = v := (State.setVreg_vreg ..).trans (if_pos rfl)
    rw [written]
    exact elements k small

theorem fxuMove_moves {dst : VReg} {len : Nat} {w w' : Nat → Word} (h : exec i s = s.fxuMove dst w len) (same : ∀ k, k < 4 → w k = w' k) :
    FxuUnusable i s ∧ FxuMoves i s len dst w' := by
  refine ⟨fxuUnusable_of h, fxuMoves_of (v := ofWords w) (fun usable => ?_) fun k small => ?_⟩
  · rw [h, State.fxuMove, State.withFxu, if_pos usable]
  · rw [wordElem_ofWords w small, same k small]

end Sys2Proof.Machine
end

section
/-!
PROOFS. The arithmetic of the FXU, element by element and across elements (48_fxu.md R723 to R739, 49_fxu.md).
-/

namespace Sys2Proof.Machine

variable {s : State} {i : Instr} {v1 v2 v3 : VReg}

/-! ## Element by element -/

theorem fxuDoes_arith {op : RMode → Fp → Fp → Cell} (h : exec i s = s.vecArith op v1 v2 v3) :
    FxuDoes i s v3 fun k => fpArith2 s.prod s.sys.fxsr .single op (s.elem v2 k) (s.elem v1 k) :=
  fxuDoes_vec4 (f := fun p w k => fpArith2 p w .single op (s.elem v2 k) (s.elem v1 k)) h

theorem fxuDoes_fma {sub neg : Bool} (h : exec i s = s.vecFma sub neg v1 v2 v3) :
    FxuDoes i s v3 fun k => fpFma s.prod s.sys.fxsr sub neg (s.elem v2 k) (s.elem v1 k) (s.elem v3 k) :=
  fxuDoes_vec4 (f := fun p w k => fpFma p w sub neg (s.elem v2 k) (s.elem v1 k) (s.elem v3 k)) h

theorem fxuDoes_maxMin {larger : Bool} {x y : Nat → DWord} (h : exec i s = s.vecMaxMin larger v3 x y) :
    ∃ z : Nat → Bool, FxuDoes i s v3 fun k => fpMaxMin s.prod .single larger (z k) (x k) (y k) :=
  ⟨fun k => Config.freeBit (s.free + k), fxuDoes_of (n := 4) h⟩

theorem fxuDoes_toInt {mode : Option RMode} {signed : Bool} (h : exec i s = s.vecToInt mode signed v2 v3) :
    FxuDoes i s v3 fun k => fpToInt s.sys.fxsr .single mode signed 32 (s.elem v2 k) :=
  fxuDoes_vec4 (f := fun _ w k => fpToInt w .single mode signed 32 (s.elem v2 k)) h

/-! ## Across elements -/

/-- R775: the sign of a result that is no NaN inverted. -/
theorem negateResult_single (r : FpRes) (nan : ∀ b, decodeFp .single r.val ≠ .nan b) :
    ({ r with val := negateResult .single r.val } : FpRes) = { r with val := r.val ^^^ 0x80000000 } := by
  unfold negateResult
  cases d : decodeFp .single r.val with
  | nan b => exact absurd d (nan b)
  | inf n => rfl
  | zero n => rfl
  | num n m e b => rfl

theorem negateResult_nan (r : FpRes) {b : Bool} (nan : decodeFp .single r.val = .nan b) :
    ({ r with val := negateResult .single r.val } : FpRes) = r := by
  unfold negateResult
  rw [nan]

/-- R775: an instruction with one operation on the odd elements and one on the even ones. -/
theorem fxuDoes_mix4 {m : Pairing} {odd even : RMode → Fp → Fp → Cell} {neg : Bool} (h : exec i s = s.mix4 m odd even neg v1 v2 v3) :
    FxuDoes i s v3 fun k =>
      let r := fpArith2 s.prod s.sys.fxsr .single (if k % 2 = 1 then odd else even) (s.mixOperands m v1 v2 k).1 (s.mixOperands m v1 v2 k).2
      if neg then { r with val := negateResult .single r.val } else r :=
  fxuDoes_vec4 (f := fun p w k =>
    let r := fpArith2 p w .single (if k % 2 = 1 then odd else even) (s.mixOperands m v1 v2 k).1 (s.mixOperands m v1 v2 k).2
    if neg then { r with val := negateResult .single r.val } else r) h

/-- R775: the other element of a pair. -/
theorem exchanged (k : Nat) (h : k < 4) : k ^^^ 1 = if k % 2 = 0 then k + 1 else k - 1 := by
  interval_cases k <;> rfl

/-- R775: the two elements of a pair. -/
theorem pairElements (k : Nat) (h : k < 4) : k ||| 1 = k / 2 * 2 + 1 ∧ k &&& 2 = k / 2 * 2 := by
  interval_cases k <;> exact ⟨rfl, rfl⟩

end Sys2Proof.Machine

open Sys2Proof.Machine

/-- Settles O44: every element has the operation of the FPU. -/
theorem vectorArithmeticIsElementwise : Obligations.VectorArithmeticIsElementwise := by
  refine ⟨fun s fcond v1 v2 v3 => ?_, fun s v2 v3 => ?_⟩
  · refine ⟨fxuDoes_arith rfl, fxuDoes_arith rfl, fxuDoes_arith rfl, fxuDoes_arith rfl, fxuDoes_maxMin rfl, fxuDoes_maxMin rfl,
      ?_, ?_, ?_, fxuDoes_fma rfl, fxuDoes_fma rfl, fxuDoes_fma rfl, fxuDoes_fma rfl, ?_⟩
    · exact fxuDoes_vec4 (f := fun p w k => fpSqrt p w .single (s.elem v2 k)) rfl
    · exact ⟨_, fun h _ => ulpOffset_rounded h, fxuDoes_vec4 (f := fun p w k => recipS p w (wordElem (s.vreg v2) k)) rfl⟩
    · exact ⟨_, fun h _ => ulpOffset_rounded h, fxuDoes_vec4 (f := fun p w k => rsqrtS p w (wordElem (s.vreg v2) k)) rfl⟩
    · exact ⟨fun k => Sys2Proof.Config.freeWord (s.free + k), fxuDoes_of (n := 4) rfl⟩
  · have half (k : Nat) : (wordElem (s.vreg v2) k).extractLsb' 0 16 = (wordElem (s.vreg v2) k).setWidth 16 :=
      (BitVec.setWidth_eq_extractLsb' (by decide)).symm
    have halves := fxuDoes_vec4 (s := s) (i := .cvtfHs4 v2 v3) (dst := v3)
      (f := fun p w k => fpOfHalf p w ((wordElem (s.vreg v2) k).extractLsb' 0 16)) rfl
    simp only [half] at halves
    exact ⟨⟨fxuDoes_toInt rfl, fxuDoes_toInt rfl⟩, ⟨fxuDoes_toInt rfl, fxuDoes_toInt rfl⟩, ⟨fxuDoes_toInt rfl, fxuDoes_toInt rfl⟩,
      ⟨fxuDoes_toInt rfl, fxuDoes_toInt rfl⟩, ⟨fxuDoes_toInt rfl, fxuDoes_toInt rfl⟩,
      fxuDoes_vec4 (f := fun _ w k => fpOfInt w .single (wordElem (s.vreg v2) k).toInt) rfl,
      fxuDoes_vec4 (f := fun _ w k => fpOfInt w .single (wordElem (s.vreg v2) k).toNat) rfl, halves,
      fxuDoes_vec4 (f := fun p w k => fpToFp p w .single .half (s.elem v2 k)) rfl⟩

/-- Settles O45: the pairings pick the operands that the statement names. -/
theorem vectorArithmeticAcrossElements : Obligations.VectorArithmeticAcrossElements := by
  intro s v1 v2 v3 w x other pick flip gives same crossed reduced selects
  have flips (r : FpRes) : ({ r with val := negateResult .single r.val } : FpRes) = flip r := by
    cases d : decodeFp .single r.val with
    | nan b => exact (negateResult_nan r d).trans (by simp only [flip, d])
    | inf n => exact (negateResult_single r fun b => by rw [d]; nofun).trans (by simp only [flip, d])
    | zero n => exact (negateResult_single r fun b => by rw [d]; nofun).trans (by simp only [flip, d])
    | num n m e b => exact (negateResult_single r fun b => by rw [d]; nofun).trans (by simp only [flip, d])
  have mixed {i : Sys2Proof.Instr} {m : Pairing} {odd even : RMode → Fp → Fp → Cell} {neg : Bool} {b a : Nat → Sys2Proof.DWord}
      (h : exec i s = s.mix4 m odd even neg v1 v2 v3) (operands : ∀ k, k < 4 → s.mixOperands m v1 v2 k = (b k, a k)) :
      gives i odd even neg b a := by
    refine (fxuDoes_mix4 h).congr fun k small => ?_
    dsimp only
    rw [operands k small, flips]
  have crosses : ∀ k, k < 4 → s.mixOperands .exchange v1 v2 k = (x v2 k, x v1 (other k)) := fun k small => by
    rw [State.mixOperands, exchanged k small]
    rfl
  have reduces : ∀ k, k < 4 → s.mixOperands .reduce v1 v2 k = (x (pick k) (k / 2 * 2 + 1), x (pick k) (k / 2 * 2)) := fun k small => by
    rw [State.mixOperands, (pairElements k small).1, (pairElements k small).2]
    rfl
  have alike {i : Sys2Proof.Instr} {odd even : RMode → Fp → Fp → Cell} {neg : Bool}
      (h : exec i s = s.mix4 .same odd even neg v1 v2 v3) : same i odd even neg := mixed h fun _ _ => rfl
  have chosen {i : Sys2Proof.Instr} {larger : Bool} (h : exec i s = s.reduceMaxMin larger v1 v2 v3) : selects i larger := by
    obtain ⟨z, does⟩ := fxuDoes_maxMin h
    exact ⟨z, does.congr fun k small => by rw [reduces k small]⟩
  exact ⟨alike rfl, alike rfl, alike rfl, alike rfl, mixed rfl crosses, mixed rfl crosses, mixed rfl crosses, mixed rfl crosses,
    mixed rfl crosses, mixed rfl crosses, mixed rfl crosses, mixed rfl reduces, mixed rfl reduces, mixed rfl reduces, chosen rfl,
    chosen rfl⟩

end

section
/-!
PROOFS. The data movement of the FXU: moves, selections, loads and stores (48_fxu.md R707 to R722, R725, R726).
-/

namespace Sys2Proof.Machine

variable {s : State} {i : Instr}

/-! ## The words and halfwords of a vector in memory -/

/-- A word of two double words. -/
theorem append_word (hi lo : DWord) {k : Nat} (h : k < 4) : (hi ++ lo : QWord).extractLsb' (32 * k) 32 =
    if k < 2 then lo.extractLsb' (32 * k) 32 else hi.extractLsb' (32 * (k - 2)) 32 := by
  apply BitVec.eq_of_getLsbD_eq
  intro n small
  rw [BitVec.getLsbD_extractLsb', BitVec.getLsbD_append]
  by_cases low : k < 2
  · have inside : 32 * k + n < 64 := by omega
    rw [if_pos low, if_pos inside, BitVec.getLsbD_extractLsb']
  · have outside : ¬ 32 * k + n < 64 := by omega
    rw [if_neg low, if_neg outside, BitVec.getLsbD_extractLsb', show 32 * k + n - 64 = 32 * (k - 2) + n by omega]

/-- A word of one half of a vector. -/
theorem extract_half (v : QWord) (j : Nat) {k : Nat} (h : k < 2) :
    (v.extractLsb' (64 * j) 64).extractLsb' (32 * k) 32 = wordElem v (2 * j + k) := by
  apply BitVec.eq_of_getLsbD_eq
  intro n small
  have inside : 32 * k + n < 64 := by omega
  rw [wordElem_bit _ _ _ small]
  simp only [BitVec.getLsbD_extractLsb', small, inside, decide_true, Bool.true_and]
  congr 1
  omega

theorem State.readDWord_congr {t : State} (h : t.mem = s.mem) (a : Word) : t.readDWord a = s.readDWord a := by
  rw [State.readDWord, State.readDWord, State.readWord_congr h, State.readWord_congr h]

/-- A word of a double word in memory. -/
theorem State.readDWord_word (s : State) (a : Word) {k : Nat} (h : k < 2) :
    (s.readDWord a).extractLsb' (32 * k) 32 = s.readWord (a + BitVec.ofNat 32 (4 * k)) := by
  interval_cases k
  · rw [show a + BitVec.ofNat 32 (4 * 0) = a by simp]
    exact BitVec.extractLsb'_append_eq_right
  · exact BitVec.extractLsb'_append_eq_left

/-- A word of a quad word in memory. -/
theorem State.readQWord_word (s : State) (a : Word) {k : Nat} (h : k < 4) :
    wordElem (s.readQWord a) k = s.readWord (a + BitVec.ofNat 32 (4 * k)) := by
  rw [wordElem, State.readQWord, append_word _ _ h]
  by_cases low : k < 2
  · rw [if_pos low, State.readDWord_word _ _ low]
  · rw [if_neg low, State.readDWord_word _ _ (by omega), show a + 8 + BitVec.ofNat 32 (4 * (k - 2)) = a + BitVec.ofNat 32 (4 * k) by
      interval_cases k <;> first | omega | bv_omega]

/-- A halfword of a double word in memory. -/
theorem State.readDWord_half (s : State) (a : Word) {k : Nat} (h : k < 4) :
    (s.readDWord a).extractLsb' (16 * k) 16 = s.readHalf (a + BitVec.ofNat 32 (2 * k)) := by
  have half (b : Word) {j : Nat} (hj : j < 2) : (s.readWord b).extractLsb' (16 * j) 16 = s.readHalf (b + BitVec.ofNat 32 (2 * j)) := by
    interval_cases j
    · rw [show b + BitVec.ofNat 32 (2 * 0) = b by simp]
      exact BitVec.extractLsb'_append_eq_right
    · exact BitVec.extractLsb'_append_eq_left
  have split : (s.readDWord a).extractLsb' (16 * k) 16 =
      ((s.readDWord a).extractLsb' (32 * (k / 2)) 32).extractLsb' (16 * (k % 2)) 16 := by
    apply BitVec.eq_of_getLsbD_eq
    intro n small
    have inside : 16 * (k % 2) + n < 32 := by omega
    simp only [BitVec.getLsbD_extractLsb', small, inside, decide_true, Bool.true_and]
    congr 1
    omega
  rw [split, State.readDWord_word _ _ (by omega), half _ (by omega)]
  congr 1
  interval_cases k <;> bv_omega

/-- R720: a halfword of the low halfwords. -/
theorem lowHalves_half (v : QWord) {k : Nat} (h : k < 4) : (lowHalves v).extractLsb' (16 * k) 16 = (wordElem v k).setWidth 16 := by
  apply BitVec.eq_of_getLsbD_eq
  intro n small
  have inside : n < 32 := by omega
  rw [BitVec.getLsbD_extractLsb', BitVec.getLsbD_setWidth, wordElem_bit v k n inside]
  simp only [lowHalves, BitVec.getLsbD_append, BitVec.getLsbD_extractLsb']
  interval_cases k
  all_goals
    split_ifs <;> try omega
    simp only [small, decide_true, Bool.true_and]
    rw [decide_eq_true (by omega), Bool.true_and]
    congr 1
    omega

/-! ## What a quad word store leaves to be read -/

theorem State.readQWord_writeQWord (s : State) (h : s.memWf) (a : Word) (v : QWord) : (s.writeQWord a v).readQWord a = v := by
  have wf := State.memWf_writeDWord s h a (v.extractLsb' 0 64)
  have kept (b : Word) (x : State) (wfx : x.memWf) (w : DWord) (apart : ∀ n, n < 4 → 8 ≤ (b + BitVec.ofNat 32 n - (a + 8)).toNat) :
      (x.writeDWord (a + 8) w).readWord b = x.readWord b := by
    unfold State.writeDWord
    rw [State.readWord_writeWord_outside _ (State.memWf_writeWord _ wfx _ _), State.readWord_writeWord_outside _ wfx]
    · intro n small
      have := apart n small
      unfold storedBytes
      omega
    · intro n small
      have := apart n small
      unfold storedBytes
      bv_omega
  have low : (s.writeQWord a v).readDWord a = v.extractLsb' 0 64 := by
    unfold State.writeQWord
    rw [State.readDWord, kept (a + 4) _ wf _ (fun n small => by bv_omega), kept a _ wf _ (fun n small => by bv_omega)]
    exact State.readDWord_writeDWord s h a _
  have high : (s.writeQWord a v).readDWord (a + 8) = v.extractLsb' 64 64 := State.readDWord_writeDWord _ wf _ _
  rw [State.readQWord, low, high]
  exact BitVec.extractLsb'_append_extractLsb'_eq_extractLsb' (by rfl) |>.trans (by simp)

/-! ## Loads and stores -/

/-- R707: a vector load. -/
theorem fxu_loads {x : Access} {a : Word} {n : Nat} {dst : VReg} {v : QWord} {w : Nat → Word} (h : exec i s = s.vecLoad x dst v)
    (shape : x.adr = a ∧ x.size = n ∧ x.kinds = [.read]) (elements : ∀ k, k < 4 → wordElem v k = w k) :
    FxuUnusable i s ∧ (s.MayAccess a n [.read] → FxuMoves i s 6 dst w) := by
  obtain ⟨adr, size, kinds⟩ := shape
  refine ⟨fxuUnusable_of h, fun may => fxuMoves_of (v := v) (fun usable => ?_) elements⟩
  rw [h, State.vecLoad, State.withFxu, if_pos usable]
  exact State.access_may (by rw [adr, size, kinds]; exact may)

/-- R707, R201: a vector store ends a link whose bytes it touches. -/
theorem State.breakLink_link (s : State) (a : Word) (n : Nat) : s.breakLink a n = { s with link := (s.breakLink a n).link } ∧
    (s.breakLink a n).link = { s.link with bit := (s.breakLink a n).link.bit } ∧
    ((s.breakLink a n).link.bit = true ↔ s.link.bit = true ∧ ∀ b, storedBytes a n b → ¬ storedBytes s.link.adr s.link.size b) := by
  have touches : ((List.range n).any fun k => s.link.covers (a + BitVec.ofNat 32 k)) = true ↔
      ∃ b, storedBytes a n b ∧ storedBytes s.link.adr s.link.size b := by
    simp only [List.any_eq_true, List.mem_range, Link.covers, decide_eq_true_eq]
    constructor
    · rintro ⟨k, small, covered⟩
      refine ⟨_, ?_, covered⟩
      rw [storedBytes, add_sub_cancel_left, BitVec.toNat_ofNat]
      exact lt_of_le_of_lt (Nat.mod_le _ _) small
    · rintro ⟨b, stored, covered⟩
      refine ⟨(b - a).toNat, stored, ?_⟩
      rwa [BitVec.ofNat_toNat, BitVec.setWidth_eq, add_sub_cancel]
  unfold State.breakLink
  by_cases hit : ((List.range n).any fun k => s.link.covers (a + BitVec.ofNat 32 k)) = true
  · rw [if_pos hit]
    obtain ⟨b, stored, covered⟩ := touches.mp hit
    exact ⟨rfl, rfl, fun h => absurd h (by simp [State.dropLink]), fun h => absurd covered (h.2 b stored)⟩
  · rw [if_neg hit]
    exact ⟨rfl, rfl, fun h => ⟨h, fun b stored covered => hit (touches.mpr ⟨b, stored, covered⟩)⟩, fun h => h.1⟩

/-- R707: a vector store. -/
theorem fxu_stores {x : Access} {a : Word} {n : Nat} {write : State → State} {post : State → Prop} (h : exec i s = s.vecStore x write)
    (shape : x.adr = a ∧ x.size = n ∧ x.kinds = [.write]) (only : s.MemOnly (write s))
    (frame : s.Frame (write s) noReg (storedBytes a n) 0) (stands : ∀ t : State, t.mem = (write s).mem → post t) :
    FxuUnusable i s ∧ (s.psw.getLsbD 17 = true → s.MayAccess a n [.write] →
      ∃ t, exec i s = .next t ∧ s.NextAfter t 6 ∧ s.Frame t noReg (storedBytes a n) 0 ∧ t.wr = s.wr ∧ t.sys = s.sys ∧
        t.halt = s.halt ∧ post t ∧ t.link = { s.link with bit := t.link.bit } ∧
        (t.link.bit = true ↔ s.link.bit = true ∧ ∀ b, storedBytes a n b → ¬ storedBytes s.link.adr s.link.size b)) := by
  obtain ⟨adr, size, kinds⟩ := shape
  refine ⟨fxuUnusable_of h, fun usable may => ?_⟩
  have run : exec i s = .next (((write s).breakLink a n).advance 6) := by
    rw [h, State.vecStore, State.withFxu, if_pos usable, ← adr, ← size]
    exact State.access_may (by rw [adr, size, kinds]; exact may)
  obtain ⟨same, link, bit⟩ := (write s).breakLink_link a n
  have linked : (write s).link = s.link := by rw [only]
  rw [linked] at link bit
  generalize (write s).breakLink a n = u at run same link bit
  refine ⟨_, run, ?_, ?_, ?_, ?_, ?_, stands _ ?_, link, bit⟩
  · show evenPc (u.pc + _) = _
    rw [same, only]
  · have framed : (write s).Frame u noReg (storedBytes a n) 0 := by
      rw [same]
      exact State.frame_link _ _
    exact (frame.trans framed).trans (State.frame_advance _ _)
  · show u.wr = s.wr
    rw [same, only]
  · show u.sys = s.sys
    rw [same, only]
  · show u.halt = s.halt
    rw [same, only]
  · show u.mem = (write s).mem
    rw [same]

theorem State.memOnly_writeDWord (s : State) (a : Word) (v : DWord) : s.MemOnly (s.writeDWord a v) :=
  (s.memOnly_writeWord _ _).trans (State.memOnly_writeWord _ _ _)
theorem State.memOnly_writeQWord (s : State) (a : Word) (v : QWord) : s.MemOnly (s.writeQWord a v) :=
  (s.memOnly_writeDWord _ _).trans (State.memOnly_writeDWord _ _ _)

/-! ## Selections -/

/-- R711: the elements that change their sign. -/
theorem flips_iff (k : Nat) (b : Bool) : ((k % 2 == 1) == b) = true ↔ (k % 2 = 1 ↔ b = true) := by
  cases b <;> simp

/-- R712: three bits of the immediate select each element. -/
theorem selector (imm12 : BitVec 12) (k : Nat) : (imm12.extractLsb' (3 * k) 3).toNat = imm12.toNat / 8 ^ k % 8 := by
  rw [BitVec.extractLsb'_toNat, Nat.shiftRight_eq_div_pow, Nat.pow_mul]

/-- R722: the condition that imm3 selects. -/
theorem vecCondition_iff (v : QWord) (imm3 : BitVec 3) : vecCondition v imm3 = true ↔
    (imm3.toNat < 4 ∧ wordElem v imm3.toNat ≠ 0) ∨ (imm3 = 4 ∧ ∀ k, k < 4 → wordElem v k ≠ 0) ∨
      (imm3 = 5 ∧ ∃ k, k < 4 ∧ wordElem v k ≠ 0) := by
  have every : (∀ k, k < 4 → wordElem v k ≠ 0) ↔ wordElem v 3 ≠ 0 ∧ wordElem v 2 ≠ 0 ∧ wordElem v 1 ≠ 0 ∧ wordElem v 0 ≠ 0 :=
    ⟨fun h => ⟨h 3 (by decide), h 2 (by decide), h 1 (by decide), h 0 (by decide)⟩, fun ⟨h3, h2, h1, h0⟩ k small => by
      interval_cases k <;> assumption⟩
  have some : (∃ k, k < 4 ∧ wordElem v k ≠ 0) ↔ wordElem v 3 ≠ 0 ∨ wordElem v 2 ≠ 0 ∨ wordElem v 1 ≠ 0 ∨ wordElem v 0 ≠ 0 := by
    constructor
    · rintro ⟨k, small, h⟩
      interval_cases k
      · exact .inr (.inr (.inr h))
      · exact .inr (.inr (.inl h))
      · exact .inr (.inl h)
      · exact .inl h
    · rintro (h | h | h | h)
      · exact ⟨3, by decide, h⟩
      · exact ⟨2, by decide, h⟩
      · exact ⟨1, by decide, h⟩
      · exact ⟨0, by decide, h⟩
  rw [every, some]
  unfold vecCondition
  have cases8 : ∀ x : BitVec 3, x = 0 ∨ x = 1 ∨ x = 2 ∨ x = 3 ∨ x = 4 ∨ x = 5 ∨ x = 6 ∨ x = 7 := by decide
  rcases cases8 imm3 with rfl | rfl | rfl | rfl | rfl | rfl | rfl | rfl <;> simp [and_assoc, or_assoc]

end Sys2Proof.Machine

open Sys2Proof.Machine

/-- Settles O43: a move writes four elements of its registers, an access the elements of its bytes. -/
theorem vectorMovesAndAccessesSelectElements : Obligations.VectorMovesAndAccessesSelectElements := by
  refine ⟨fun s imm2 imm3 imm12 v1 v2 v3 v4 => ?_, fun s imm4 imm2 d14 d13 d12 reg1 v => ?_,
    fun s imm2 imm1 d14 d13 d12 reg1 v wf => ?_⟩
  · intro moves e sel nonzero
    refine ⟨fxuMove_moves rfl fun _ _ => rfl, fxuMove_moves rfl fun k small => ?_, fxuMove_moves rfl fun k small => ?_,
      fxuMove_moves rfl fun k small => ?_, fxuMove_moves rfl fun _ _ => rfl, fxuMove_moves rfl fun _ _ => rfl,
      fxuUnusable_of rfl, fun usable => ?_⟩
    · rw [exchanged k small]
      refine if_congr (flips_iff k _) ?_ ?_
      · split <;> rfl
      · split <;> rfl
    · rw [selector]
      exact if_congr Nat.lt_succ_iff.symm rfl rfl
    · by_cases zero : e v4 k = 0
      · rw [if_pos zero]
        exact if_neg (by simpa using zero)
      · rw [if_neg zero]
        exact if_pos (by simpa using zero)
    · have run : exec (.trfsrvW4 imm3 v2) s = .next ((s.setZ (vecCondition (s.vreg v2) imm3)).advance 4) := by
        show s.withFxu _ = _
        rw [State.withFxu, if_pos usable]
      refine ⟨_, run, by simp [State.NextAfter], (State.frame_setZ _ _ rfl).trans (State.frame_advance _ _),
        ⟨by simp, by simp, by simp, by simp⟩, ?_⟩
      have z : ((s.setZ (vecCondition (s.vreg v2) imm3)).advance 4).zf = vecCondition (s.vreg v2) imm3 := by
        have := setZ_zf s (vecCondition (s.vreg v2) imm3)
        simpa [State.zf] using this
      exact (Bool.eq_iff_iff.mp z).trans (vecCondition_iff _ _)
  · intro loads a14 a13 a12 old
    refine ⟨fxu_loads rfl ⟨rfl, rfl, rfl⟩ fun k small => ?_, fxu_loads rfl ⟨rfl, rfl, rfl⟩ fun k small => ?_,
      fxu_loads rfl ⟨rfl, rfl, rfl⟩ fun k small => ?_, fxu_loads rfl ⟨rfl, rfl, rfl⟩ fun k small => ?_⟩
    · exact wordElem_ofWords _ small
    · rw [wordElem_ofWords _ small, State.readDWord_word _ _ (by omega)]
      rfl
    · exact State.readQWord_word _ _ small
    · rw [wordElem_ofWords _ small, State.readDWord_half _ _ small]
      rfl
  · intro stores e a14 a13 a12
    have word : exec (.stvW imm2 d14 reg1 v) s = s.vecStore (vecAccess a14 4 2 v 29 true) fun t => t.writeWord a14 (e imm2.toNat) := rfl
    have double : exec (.stvDw imm1 d13 reg1 v) s = s.vecStore (vecAccess a13 8 3 v 29 true) fun t =>
        t.writeDWord a13 ((s.vreg v).extractLsb' (64 * imm1.toNat) 64) := rfl
    have quad : exec (.stvQw d12 reg1 v) s = s.vecStore (vecAccess a12 16 4 v 29 true) fun t => t.writeQWord a12 (s.vreg v) := rfl
    have halves : exec (.stvzH4 d13 reg1 v) s = s.vecStore (vecAccess a13 8 3 v 31 true) fun t =>
        t.writeDWord a13 (lowHalves (s.vreg v)) := rfl
    generalize a14 = a at word
    generalize a13 = b at double halves
    generalize a12 = c at quad
    refine ⟨fxu_stores word ⟨rfl, rfl, rfl⟩ (s.memOnly_writeWord _ _) (State.frame_writeWord wf _ _) fun t same => ?_,
      fxu_stores double ⟨rfl, rfl, rfl⟩ (s.memOnly_writeDWord _ _) (State.frame_writeDWord wf _ _) fun t same k small => ?_,
      fxu_stores quad ⟨rfl, rfl, rfl⟩ (s.memOnly_writeQWord _ _) (State.frame_writeQWord wf _ _) fun t same k small => ?_,
      fxu_stores halves ⟨rfl, rfl, rfl⟩ (s.memOnly_writeDWord _ _) (State.frame_writeDWord wf _ _) fun t same k small => ?_⟩
    · exact (State.readWord_congr same _).trans (State.readWord_writeWord s wf _ _)
    · refine (State.readWord_congr same _).trans ?_
      rw [← State.readDWord_word _ _ small, State.readDWord_writeDWord s wf, extract_half _ _ small]
    · refine (State.readWord_congr same _).trans ?_
      rw [← State.readQWord_word _ _ small, State.readQWord_writeQWord s wf]
    · rw [← lowHalves_half _ small, ← State.readDWord_half _ _ small, State.readDWord_congr same,
        State.readDWord_writeDWord s wf]

end

section
/-!
PROOFS. The floating-point formats: patterns, the numbers they stand for, and the gaps between them (46_fpu.md R582).
-/

namespace Sys2Proof.Machine

/-! ## Patterns -/

/-- R582: what a sign, a biased exponent and a fraction stand for. -/
def fpOf (f : Fmt) (neg : Bool) (e fr : Nat) : Fp :=
  if e = 2 ^ f.ebits - 1 then (if fr = 0 then .inf neg else .nan (decide (fr < 2 ^ (f.frac - 1))))
  else if e = 0 then (if fr = 0 then .zero neg else .num neg fr (f.emin - f.frac) true)
  else .num neg (2 ^ f.frac + fr) ((e : Int) - f.bias - f.frac) false

/-- R582: the biased exponent and the fraction of a pattern. -/
def expOf (f : Fmt) (v : DWord) : Nat := v.toNat / 2 ^ f.frac % 2 ^ f.ebits
@[inherit_doc expOf]
def fracOf (f : Fmt) (v : DWord) : Nat := v.toNat % 2 ^ f.frac

theorem decodeFp_eq (f : Fmt) (v : DWord) : decodeFp f v = fpOf f (signBit f v) (expOf f v) (fracOf f v) := rfl

theorem expOf_lt (f : Fmt) (v : DWord) : expOf f v < 2 ^ f.ebits := Nat.mod_lt _ (by positivity)
theorem fracOf_lt (f : Fmt) (v : DWord) : fracOf f v < 2 ^ f.frac := Nat.mod_lt _ (by positivity)

section
variable (f : Fmt) (neg : Bool) {e fr : Nat} (he : e < 2 ^ f.ebits) (hfr : fr < 2 ^ f.frac)
include he hfr

theorem packFp_toNat : (packFp f neg e fr).toNat = (neg.toNat * 2 ^ f.ebits + e) * 2 ^ f.frac + fr := by
  have bound : neg.toNat ≤ 1 := Bool.toNat_le neg
  rw [packFp, BitVec.toNat_ofNat]
  refine Nat.mod_eq_of_lt ?_
  cases f <;> simp only [Fmt.frac, Fmt.ebits] at * <;> omega

theorem packFp_sign : signBit f (packFp f neg e fr) = neg := by
  have bound : neg.toNat ≤ 1 := Bool.toNat_le neg
  have top : (packFp f neg e fr).toNat / 2 ^ (f.frac + f.ebits) = neg.toNat := by
    rw [packFp_toNat f neg he hfr]
    cases f <;> simp only [Fmt.frac, Fmt.ebits] at * <;> omega
  rw [signBit, BitVec.getLsbD, Nat.testBit_eq_decide_div_mod_eq, top]
  cases neg <;> rfl

theorem packFp_exp : expOf f (packFp f neg e fr) = e := by
  rw [expOf, packFp_toNat f neg he hfr]
  cases f <;> simp only [Fmt.frac, Fmt.ebits] at * <;> omega

theorem packFp_frac : fracOf f (packFp f neg e fr) = fr := by
  rw [fracOf, packFp_toNat f neg he hfr]
  cases f <;> simp only [Fmt.frac, Fmt.ebits] at * <;> omega

/-- R582: a pattern stands for what it was made of. -/
theorem decode_pack : decodeFp f (packFp f neg e fr) = fpOf f neg e fr := by
  rw [decodeFp_eq, packFp_sign f neg he hfr, packFp_exp f neg he hfr, packFp_frac f neg he hfr]

end

/-! ## The formats in numbers -/

theorem Fmt.frac_pos (f : Fmt) : 2 ≤ f.frac ∧ f.frac ≤ 52 := by cases f <;> decide
theorem Fmt.bias_pos (f : Fmt) : 1 ≤ f.bias := by cases f <;> decide
theorem Fmt.two_bias (f : Fmt) : 2 * f.bias = 2 ^ f.ebits - 2 ∧ 4 ≤ 2 ^ f.ebits := by cases f <;> decide
theorem Fmt.emin_eq (f : Fmt) : f.emin = 1 - (f.bias : Int) := rfl

/-! ## Special patterns -/

theorem decode_zero (f : Fmt) (neg : Bool) : decodeFp f (zeroFp f neg) = .zero neg := by
  rw [zeroFp, decode_pack f neg (by positivity) (by positivity)]
  have := f.two_bias
  rw [fpOf, if_neg (by omega), if_pos rfl, if_pos rfl]

/-- R582: a normal number. -/
theorem fpOf_normal (f : Fmt) (neg : Bool) {e fr : Nat} (h0 : 0 < e) (h : e < 2 ^ f.ebits - 1) :
    fpOf f neg e fr = .num neg (2 ^ f.frac + fr) ((e : Int) - f.bias - f.frac) false := by
  rw [fpOf, if_neg (by omega), if_neg (by omega)]

theorem decode_max (f : Fmt) (neg : Bool) : decodeFp f (maxFp f neg) = .num neg (2 ^ (f.frac + 1) - 1) ((f.bias : Int) - f.frac) false := by
  have := f.two_bias
  have := f.bias_pos
  have h : 0 < 2 ^ f.frac := by positivity
  rw [maxFp, decode_pack f neg (by omega) (by omega), fpOf_normal f neg (by omega) (by omega)]
  congr 1
  · rw [pow_succ]
    omega
  · omega

theorem decode_min (f : Fmt) (neg : Bool) : decodeFp f (minFp f neg) = .num neg (2 ^ f.frac) (f.emin - f.frac) false := by
  have := f.two_bias
  rw [minFp, decode_pack f neg (by omega) (by positivity), fpOf_normal f neg (by omega) (by omega), Fmt.emin_eq]
  rfl

/-- R582: a mantissa of frac + 1 bits and an exponent of the format. -/
theorem decode_normal (f : Fmt) (neg : Bool) {man : Nat} {exp : Int} (hm : 2 ^ f.frac ≤ man ∧ man < 2 ^ (f.frac + 1))
    (he : f.emin - f.frac ≤ exp ∧ exp ≤ f.bias - f.frac) : decodeFp f (normalFp f neg man exp) = .num neg man exp false := by
  have := f.two_bias
  have := f.emin_eq
  rw [pow_succ] at hm
  have biased : ((exp + f.frac + f.bias).toNat : Int) = exp + f.frac + f.bias := Int.toNat_of_nonneg (by omega)
  rw [normalFp, decode_pack f neg (by omega) (by omega), fpOf_normal f neg (by omega) (by omega), biased]
  congr 1
  · omega
  · omega

/-- R582: the low bit of a pattern is that of its mantissa. -/
theorem normalFp_odd (f : Fmt) (neg : Bool) {man : Nat} {exp : Int} (hm : 2 ^ f.frac ≤ man ∧ man < 2 ^ (f.frac + 1))
    (he : f.emin - f.frac ≤ exp ∧ exp ≤ f.bias - f.frac) : (normalFp f neg man exp).getLsbD 0 = decide (man % 2 = 1) := by
  have := f.two_bias
  have := f.emin_eq
  rw [pow_succ] at hm
  rw [normalFp, BitVec.getLsbD, Nat.testBit_zero, packFp_toNat f neg (by omega) (by omega)]
  obtain ⟨k, even⟩ : ∃ k, 2 ^ f.frac = 2 * k := ⟨2 ^ (f.frac - 1), by rw [← pow_succ']; congr 1; have := f.frac_pos; omega⟩
  have double (x : Nat) : x * (2 * k) = 2 * (x * k) := by ring
  rw [even, double, decide_eq_decide]
  omega

end Sys2Proof.Machine
end

section
/-!
PROOFS. Rounding a number between two neighbours of a format (46_fpu.md R583).
-/

namespace Sys2Proof.Machine

section
variable {K : Type} [Field K] [LinearOrder K] [IsStrictOrderedRing K]

/-! ## Numbers of a precision -/

/-- The numbers of a precision of `p` bits, with any exponent. -/
def Rep (p : Nat) (y : K) : Prop := ∃ (z : Int) (e : Int), |z| < 2 ^ p ∧ y = z * 2 ^ e

omit [LinearOrder K] [IsStrictOrderedRing K] in
theorem Rep.neg {p : Nat} {y : K} (h : Rep p y) : Rep p (-y) := by
  obtain ⟨z, e, small, rfl⟩ := h
  exact ⟨-z, e, by rwa [abs_neg], by push_cast; ring⟩

omit [LinearOrder K] [IsStrictOrderedRing K] in
theorem rep_nat {p m : Nat} (e : Int) (h : m < 2 ^ p) : Rep p ((m : K) * 2 ^ e) :=
  ⟨m, e, by rw [Nat.abs_cast]; exact_mod_cast h, by push_cast; rfl⟩

/-- `a` stands between the neighbours `m * 2^e` and `(m + 1) * 2^e` of a precision of `q + 1` bits. -/
structure Between (q m : Nat) (e : Int) (a : K) : Prop where
  low : 2 ^ q ≤ m
  high : m < 2 ^ (q + 1)
  ge : (m : K) * 2 ^ e ≤ a
  lt : a < (m + 1) * 2 ^ e

variable {q m : Nat} {e : Int} {a : K}

/-- No number of the precision stands between two neighbours. -/
theorem rep_gap (low : 2 ^ q ≤ m) {y : K} (h : Rep (q + 1) y) (above : (m : K) * 2 ^ e < y) : ((m : K) + 1) * 2 ^ e ≤ y := by
  obtain ⟨z, E, small, rfl⟩ := h
  have two : (0 : K) < 2 := by norm_num
  have unit : (0 : K) < 2 ^ e := zpow_pos two e
  rcases le_or_gt e E with le | gt
  · obtain ⟨j, rfl⟩ := Int.le.dest le
    have split : (z : K) * 2 ^ (e + (j : Int)) = ((z * 2 ^ j : Int) : K) * 2 ^ e := by
      rw [zpow_add₀ two.ne', zpow_natCast]
      push_cast
      ring
    rw [split] at above ⊢
    have bigger : ((m : Int) : K) < ((z * 2 ^ j : Int) : K) := by
      have := lt_of_mul_lt_mul_right above unit.le
      exact_mod_cast this
    have next : (m : Int) + 1 ≤ z * 2 ^ j := Int.add_one_le_iff.mpr (Int.cast_lt.mp bigger)
    refine mul_le_mul_of_nonneg_right ?_ unit.le
    exact_mod_cast next
  · exfalso
    have bound : (z : K) ≤ 2 ^ (q + 1) := by
      have := (abs_lt.mp small).2.le
      exact_mod_cast this
    have below : (z : K) * 2 ^ E ≤ (m : K) * 2 ^ e := by
      calc (z : K) * 2 ^ E ≤ 2 ^ (q + 1) * 2 ^ E := mul_le_mul_of_nonneg_right bound (zpow_pos two E).le
        _ = 2 ^ q * 2 ^ (E + 1) := by rw [zpow_add₀ two.ne', pow_succ]; ring
        _ ≤ 2 ^ q * 2 ^ e := mul_le_mul_of_nonneg_left (zpow_le_zpow_right₀ (by norm_num) (by omega)) (by positivity)
        _ ≤ (m : K) * 2 ^ e := by
          refine mul_le_mul_of_nonneg_right ?_ unit.le
          exact_mod_cast low
    exact absurd above (not_lt.mpr below)

/-! ## Rounding -/

/-- A sign and a magnitude. -/
def signedBy (neg : Bool) (x : K) : K := if neg then -x else x

omit [LinearOrder K] [IsStrictOrderedRing K] in
theorem Rep.signedBy {p : Nat} {y : K} (h : Rep p y) (neg : Bool) : Rep p (signedBy neg y) := by
  cases neg
  · exact h
  · exact h.neg

omit [LinearOrder K] [IsStrictOrderedRing K] in
theorem signedBy_signedBy (neg : Bool) (x : K) : signedBy neg (signedBy neg x) = x := by
  cases neg
  · rfl
  · exact neg_neg x

omit [IsStrictOrderedRing K] in
theorem abs_sub_signedBy (neg : Bool) (x y : K) : |x - signedBy neg y| = |signedBy neg x - y| := by
  cases neg
  · rfl
  · rw [signedBy, signedBy, if_pos rfl, if_pos rfl, ← abs_neg]
    congr 1
    ring

omit [IsStrictOrderedRing K] in
theorem abs_signedBy (neg : Bool) (x : K) : |signedBy neg x| = |x| := by
  cases neg
  · rfl
  · exact abs_neg x

omit [LinearOrder K] [IsStrictOrderedRing K] in
theorem mul_signedBy (neg : Bool) (x y : K) : x * signedBy neg y = signedBy neg x * y := by
  cases neg
  · rfl
  · rw [signedBy, signedBy, if_pos rfl, if_pos rfl]
    ring

/-- R583: a magnitude between two neighbours goes away from zero. -/
def GoesUp (mode : RMode) (neg : Bool) (m : Nat) (e : Int) (a : K) : Prop :=
  (mode = .nearest ∧ ((2 * (m : K) + 1) * 2 ^ e < 2 * a ∨ ((2 * (m : K) + 1) * 2 ^ e = 2 * a ∧ m % 2 = 1))) ∨
    (mode = .pos ∧ neg = false ∧ a ≠ m * 2 ^ e) ∨ (mode = .neg ∧ neg = true ∧ a ≠ m * 2 ^ e)

/-- What a magnitude is rounded to: one of its two neighbours. -/
def IsRound (mode : RMode) (neg : Bool) (m : Nat) (e : Int) (a c : K) : Prop :=
  (GoesUp mode neg m e a ∧ c = (m + 1) * 2 ^ e) ∨ (¬ GoesUp mode neg m e a ∧ c = m * 2 ^ e)

variable {mode : RMode} {neg : Bool} {c : K}

/-- R583: rounding to one of the two neighbours is rounding to all numbers of the precision. -/
theorem IsRound.roundedTo (h : IsRound mode neg m e a c) (between : Between q m e a) {grid : K → Prop}
    (precise : ∀ y, grid y → Rep (q + 1) y) (member : grid (signedBy neg c)) :
    RoundedTo mode grid (signedBy neg a) (signedBy neg c) := by
  obtain ⟨low, -, ge, lt⟩ := between
  have unit : (0 : K) < 2 ^ e := zpow_pos (by norm_num) e
  have some : (0 : K) < m := by
    have : 0 < m := lt_of_lt_of_le (by positivity) low
    exact_mod_cast this
  have positive : 0 < (m : K) * 2 ^ e := mul_pos some unit
  have step : ((m : K) + 1) * 2 ^ e = m * 2 ^ e + 2 ^ e := by ring
  have middle : (2 * (m : K) + 1) * 2 ^ e = 2 * (m * 2 ^ e) + 2 ^ e := by ring
  have outside (y : K) (hy : Rep (q + 1) y) : y ≤ m * 2 ^ e ∨ (m : K) * 2 ^ e + 2 ^ e ≤ y := by
    rcases le_or_gt y (m * 2 ^ e) with le | gt
    · exact .inl le
    · exact .inr (step ▸ rep_gap low hy gt)
  unfold IsRound GoesUp at h
  rw [middle, step] at h
  rw [step] at lt
  generalize (m : K) * 2 ^ e = lo at *
  generalize (2 : K) ^ e = u at *
  refine ⟨member, ?_⟩
  cases mode with
  | nearest =>
    intro y hy
    rw [abs_sub_signedBy, abs_sub_signedBy, signedBy_signedBy]
    have far := outside _ ((precise y hy).signedBy neg)
    generalize signedBy neg y = z at far
    simp only [true_and, reduceCtorEq, false_and, or_false] at h
    have reach : a - lo ≤ |z - a| ∨ lo + u - a ≤ |z - a| := by
      rcases far with below | above
      · exact .inl (le_trans (by linarith) (neg_le_abs (z - a)))
      · exact .inr (le_trans (by linarith) (le_abs_self (z - a)))
    rcases h with ⟨up, rfl⟩ | ⟨down, rfl⟩
    · rw [abs_of_nonneg (by linarith)]
      have upper : 2 * lo + u ≤ 2 * a := up.elim le_of_lt fun tie => tie.1.le
      rcases reach with r | r <;> linarith
    · rw [abs_of_nonpos (by linarith)]
      have lower : 2 * a ≤ 2 * c + u := not_lt.mp fun lt => down (.inl lt)
      rcases reach with r | r <;> linarith
  | zero =>
    simp only [reduceCtorEq, false_and, or_self, false_or, not_false_eq_true, true_and] at h
    subst h
    rw [abs_signedBy, abs_signedBy, abs_of_nonneg positive.le, abs_of_nonneg (positive.le.trans ge), mul_signedBy, signedBy_signedBy]
    refine ⟨ge, mul_nonneg positive.le (positive.le.trans ge), fun y hy small same => ?_⟩
    rw [mul_signedBy] at same
    rw [← abs_signedBy neg] at small ⊢
    have far := outside _ ((precise y hy).signedBy neg)
    generalize signedBy neg y = z at small same far ⊢
    have up : 0 ≤ z := nonneg_of_mul_nonneg_left same (positive.trans_le ge)
    rw [abs_of_nonneg up] at small ⊢
    rcases far with below | above <;> linarith
  | pos =>
    simp only [reduceCtorEq, true_and, false_and, or_false, false_or] at h
    cases neg with
    | false =>
      simp only [true_and, ne_eq, not_not] at h
      refine ⟨?_, fun y hy above => ?_⟩
      · show a ≤ c
        rcases h with ⟨-, rfl⟩ | ⟨exact_, rfl⟩ <;> linarith
      · show c ≤ y
        change a ≤ y at above
        rcases h with ⟨inexact, rfl⟩ | ⟨exact_, rfl⟩
        · have more : lo < a := lt_of_le_of_ne ge (Ne.symm inexact)
          exact (outside y (precise y hy)).resolve_left fun le => by linarith
        · linarith
    | true =>
      simp only [Bool.true_eq_false, false_and, false_or, not_false_eq_true, true_and] at h
      subst h
      refine ⟨neg_le_neg ge, fun y hy above => ?_⟩
      change -a ≤ y at above
      show -c ≤ y
      rcases outside _ (precise y hy).neg with below | beyond <;> linarith
  | neg =>
    simp only [reduceCtorEq, true_and, false_and, false_or] at h
    cases neg with
    | false =>
      simp only [Bool.false_eq_true, false_and, false_or, not_false_eq_true, true_and] at h
      subst h
      refine ⟨ge, fun y hy below => ?_⟩
      change y ≤ a at below
      show y ≤ c
      rcases outside _ (precise y hy) with below' | beyond <;> linarith
    | true =>
      simp only [true_and, ne_eq, not_not] at h
      refine ⟨?_, fun y hy below => ?_⟩
      · show -c ≤ -a
        rcases h with ⟨-, rfl⟩ | ⟨exact_, rfl⟩ <;> linarith
      · show y ≤ -c
        change y ≤ -a at below
        rcases h with ⟨inexact, rfl⟩ | ⟨exact_, rfl⟩
        · have more : lo < a := lt_of_le_of_ne ge (Ne.symm inexact)
          have := (outside _ (precise y hy).neg).resolve_left fun le => by linarith
          linarith
        · linarith

/-- R583: a number that has another as near stands in the middle. -/
theorem IsRound.tie (h : IsRound .nearest neg m e a c) (between : Between q m e a) {y : K} (hy : Rep (q + 1) y)
    (ne : y ≠ signedBy neg c) (near : |y - signedBy neg a| = |signedBy neg c - signedBy neg a|) :
    (2 * (m : K) + 1) * 2 ^ e = 2 * a := by
  obtain ⟨low, -, ge, lt⟩ := between
  rw [abs_sub_signedBy, abs_sub_signedBy, signedBy_signedBy] at near
  have other : signedBy neg y ≠ c := fun e => ne (by rw [← e, signedBy_signedBy])
  have gap := rep_gap (e := e) low (hy.signedBy neg)
  generalize signedBy neg y = z at near other gap
  have step : ((m : K) + 1) * 2 ^ e = m * 2 ^ e + 2 ^ e := by ring
  have middle : (2 * (m : K) + 1) * 2 ^ e = 2 * (m * 2 ^ e) + 2 ^ e := by ring
  have unit : (0 : K) < 2 ^ e := zpow_pos (by norm_num) e
  have mirror : z = 2 * a - c := by
    rcases abs_eq_abs.mp near with same | flip
    · exact absurd (by linarith) other
    · linarith
  unfold IsRound GoesUp at h
  simp only [true_and, reduceCtorEq, false_and, or_false] at h
  rw [middle, step] at h
  rw [step] at gap lt
  rw [middle]
  rcases h with ⟨up | tie, rfl⟩ | ⟨down, rfl⟩
  · have := gap (by linarith)
    linarith
  · exact tie.1
  · have lower : 2 * a ≤ 2 * ((m : K) * 2 ^ e) + 2 ^ e := not_lt.mp fun lt => down (.inl lt)
    by_contra off
    have strict := lt_of_le_of_ne lower (Ne.symm off)
    have above : (m : K) * 2 ^ e < z := lt_of_le_of_ne (by linarith) (Ne.symm other)
    have := gap above
    linarith

end

end Sys2Proof.Machine
end

section
/-!
PROOFS. The exact magnitudes of the model, and what they are rounded to (46_fpu.md R583, R586).
-/

namespace Sys2Proof.Machine

section
variable {K : Type} [Field K] [LinearOrder K] [IsStrictOrderedRing K]

/-- What an exact magnitude stands for: `man * 2^exp`, or, where it is sticky, a number a little larger. -/
structure Exact.Means (x : Exact) (a : K) : Prop where
  nonzero : 0 < x.man
  plain : x.sticky = false → a = x.man * 2 ^ x.exp
  sticky : x.sticky = true → (x.man : K) * 2 ^ x.exp < a ∧ a < (x.man + 1) * 2 ^ x.exp ∧ 2 ^ 53 ≤ x.man

variable {x : Exact} {a : K}

/-- The magnitude in units of its last bit. -/
theorem Exact.Means.units (h : x.Means a) : ∃ t : K, a = t * 2 ^ x.exp ∧ (x.man : K) ≤ t ∧ t < x.man + 1 ∧
    (x.sticky = false → t = x.man) ∧ (x.sticky = true → (x.man : K) < t) := by
  have unit : (0 : K) < 2 ^ x.exp := zpow_pos (by norm_num) _
  refine ⟨a / 2 ^ x.exp, (div_mul_cancel₀ a unit.ne').symm, ?_⟩
  cases s : x.sticky with
  | false =>
    have same : a / 2 ^ x.exp = x.man := by rw [h.plain s, mul_div_cancel_right₀ _ unit.ne']
    rw [same]
    exact ⟨le_rfl, lt_add_one _, fun _ => rfl, nofun⟩
  | true =>
    obtain ⟨above, below, -⟩ := h.sticky s
    have low := (lt_div_iff₀ unit).mpr above
    exact ⟨low.le, (div_lt_iff₀ unit).mpr below, nofun, fun _ => low⟩

theorem Exact.Means.pos (h : x.Means a) : 0 < a := by
  obtain ⟨t, rfl, low, -⟩ := h.units
  have some : (0 : K) < x.man := by exact_mod_cast h.nonzero
  exact mul_pos (some.trans_le low) (zpow_pos (by norm_num) _)

/-- The exponent of the leading bit. -/
theorem Exact.Means.top (h : x.Means a) : (2 : K) ^ x.top ≤ a ∧ a < 2 ^ (x.top + 1) := by
  obtain ⟨t, rfl, low, high, -⟩ := h.units
  have two : (2 : K) ≠ 0 := by norm_num
  have unit : (0 : K) < 2 ^ x.exp := zpow_pos (by norm_num) _
  have least : ((2 ^ x.man.log2 : Nat) : K) ≤ x.man := by exact_mod_cast Nat.log2_self_le h.nonzero.ne'
  have most : ((x.man + 1 : Nat) : K) ≤ ((2 ^ (x.man.log2 + 1) : Nat) : K) := by exact_mod_cast Nat.lt_log2_self
  push_cast at least most
  constructor
  · rw [Exact.top, zpow_add₀ two, mul_comm, zpow_natCast]
    exact mul_le_mul_of_nonneg_right (least.trans low) unit.le
  · rw [Exact.top, add_assoc, zpow_add₀ two, mul_comm ((2 : K) ^ x.exp), ← Nat.cast_succ, zpow_natCast]
    exact mul_lt_mul_of_pos_right (high.trans_le most) unit

/-! ## The cut -/

/-- What a magnitude cut to `q + 1` bits tells of it. -/
structure Exact.IsCut (x : Exact) (q : Nat) (a : K) (m : Nat) (e : Int) (rem half : Nat) : Prop where
  between : Between q m e a
  more : half < rem ∨ (rem = half ∧ x.sticky = true) ↔ (2 * (m : K) + 1) * 2 ^ e < 2 * a
  tie : rem = half ∧ x.sticky = false ↔ (2 * (m : K) + 1) * 2 ^ e = 2 * a
  even : rem = 0 ∧ x.sticky = false ↔ a = m * 2 ^ e

/-- A mantissa of at most `q + 1` bits is exact. -/
theorem Exact.Means.cut_short {q : Nat} (h : x.Means a) (small : q ≤ 52) (short : x.man.log2 + 1 ≤ q + 1) :
    x.IsCut q a (x.man <<< (q + 1 - (x.man.log2 + 1))) (x.exp - ((q + 1 - (x.man.log2 + 1) : Nat) : Int)) 0 1 := by
  have two : (2 : K) ≠ 0 := by norm_num
  have width : x.man < 2 ^ (q + 1) := Nat.lt_log2_self.trans_le (Nat.pow_le_pow_right (by norm_num) short)
  have plain : x.sticky = false := by
    refine Bool.eq_false_iff.mpr fun s => ?_
    have long := (h.sticky s).2.2
    have : 2 ^ (q + 1) ≤ 2 ^ 53 := Nat.pow_le_pow_right (by norm_num) (by omega)
    omega
  obtain ⟨k, hk⟩ : ∃ k, q + 1 - (x.man.log2 + 1) = k := ⟨_, rfl⟩
  have value : a = ((x.man <<< k : Nat) : K) * 2 ^ (x.exp - (k : Int)) := by
    rw [h.plain plain, Nat.shiftLeft_eq, zpow_sub₀ two, zpow_natCast]
    push_cast
    field_simp
  have unit : (0 : K) < 2 ^ (x.exp - (k : Int)) := zpow_pos (by norm_num) _
  rw [hk]
  refine ⟨⟨?_, ?_, value.ge, ?_⟩, ?_, ?_, ?_⟩
  · have low := Nat.log2_self_le h.nonzero.ne'
    have : 2 ^ q = 2 ^ x.man.log2 * 2 ^ k := by rw [← pow_add]; congr 1; omega
    rw [Nat.shiftLeft_eq, this]
    exact Nat.mul_le_mul_right _ low
  · have high := Nat.lt_log2_self (n := x.man)
    have : 2 ^ (q + 1) = 2 ^ (x.man.log2 + 1) * 2 ^ k := by rw [← pow_add]; congr 1; omega
    rw [Nat.shiftLeft_eq, this]
    exact Nat.mul_lt_mul_of_pos_right high (by positivity)
  · rw [value, add_mul, one_mul]
    exact lt_add_of_pos_right _ unit
  · refine iff_of_false (by simp) (not_lt.mpr ?_)
    rw [value]
    linarith
  · refine iff_of_false (by simp) fun same => ?_
    rw [value] at same
    linarith
  · exact iff_of_true ⟨rfl, plain⟩ value

/-- A longer mantissa is cut. -/
theorem Exact.Means.cut_long {q : Nat} (h : x.Means a) {k : Nat} (long : x.man.log2 + 1 = q + 1 + (k + 1)) :
    x.IsCut q a (x.man >>> (k + 1)) (x.exp + (k + 1 : Nat)) (x.man % 2 ^ (k + 1)) (2 ^ k) := by
  have two : (2 : K) ≠ 0 := by norm_num
  have unit : (0 : K) < 2 ^ x.exp := zpow_pos (by norm_num) _
  obtain ⟨t, rfl, ge, lt, plain, sticky⟩ := h.units
  have scale : (2 : K) ^ (x.exp + ((k + 1 : Nat) : Int)) = 2 * 2 ^ k * 2 ^ x.exp := by
    rw [zpow_add₀ two, zpow_natCast, pow_succ]
    ring
  have parts : x.man = (x.man >>> (k + 1)) * (2 * 2 ^ k) + x.man % 2 ^ (k + 1) := by
    have := Nat.div_add_mod x.man (2 ^ (k + 1))
    rw [Nat.shiftRight_eq_div_pow, ← pow_succ', mul_comm]
    exact this.symm
  have rest : x.man % 2 ^ (k + 1) < 2 * 2 ^ k := by
    rw [← pow_succ']
    exact Nat.mod_lt _ (by positivity)
  have low : 2 ^ q ≤ x.man >>> (k + 1) := by
    rw [Nat.shiftRight_eq_div_pow, Nat.le_div_iff_mul_le (by positivity), ← pow_add]
    have := Nat.log2_self_le h.nonzero.ne'
    rwa [show x.man.log2 = q + (k + 1) by omega] at this
  have high : x.man >>> (k + 1) < 2 ^ (q + 1) := by
    rw [Nat.shiftRight_eq_div_pow, Nat.div_lt_iff_lt_mul (by positivity), ← pow_add]
    have := Nat.lt_log2_self (n := x.man)
    rwa [long] at this
  generalize x.man >>> (k + 1) = m at parts low high ⊢
  generalize x.man % 2 ^ (k + 1) = rem at parts rest ⊢
  have value : (x.man : K) = m * (2 * 2 ^ k) + rem := by exact_mod_cast parts
  rw [value] at ge lt plain sticky
  have order {b c : K} : b * 2 ^ x.exp < c * 2 ^ x.exp ↔ b < c := mul_lt_mul_iff_left₀ unit
  have equal {b c : K} : b * 2 ^ x.exp = c * 2 ^ x.exp ↔ b = c := mul_left_inj' unit.ne'
  have restK : (rem : K) + 1 ≤ 2 * 2 ^ k := by exact_mod_cast rest
  have aboveHalf : 2 ^ k < rem ↔ (2 : K) ^ k < rem := by rw [← Nat.cast_lt (α := K)]; push_cast; rfl
  have belowHalf : rem < 2 ^ k ↔ (rem : K) + 1 ≤ 2 ^ k := by rw [← Nat.succ_le_iff, ← Nat.cast_le (α := K)]; push_cast; rfl
  have atHalf : rem = 2 ^ k ↔ (rem : K) = 2 ^ k := by rw [← Nat.cast_inj (R := K)]; push_cast; rfl
  have middle : (2 * (m : K) + 1) * (2 * 2 ^ k * 2 ^ x.exp) = (2 * (m * (2 * 2 ^ k)) + 2 * 2 ^ k) * 2 ^ x.exp := by ring
  have twice : 2 * (t * 2 ^ x.exp) = (2 * t) * 2 ^ x.exp := by ring
  have lower : (m : K) * (2 * 2 ^ k * 2 ^ x.exp) = (m * (2 * 2 ^ k)) * 2 ^ x.exp := by ring
  have upper : ((m : K) + 1) * (2 * 2 ^ k * 2 ^ x.exp) = (m * (2 * 2 ^ k) + 2 * 2 ^ k) * 2 ^ x.exp := by ring
  have remNonneg : (0 : K) ≤ rem := Nat.cast_nonneg _
  refine ⟨⟨low, high, ?_, ?_⟩, ?_, ?_, ?_⟩
  · rw [scale, lower]
    exact mul_le_mul_of_nonneg_right (by linarith) unit.le
  · rw [scale, upper, order]
    linarith
  · rw [scale, middle, twice, order, aboveHalf, atHalf]
    cases s : x.sticky with
    | false =>
      rw [plain s]
      simp only [Bool.false_eq_true, and_false, or_false]
      constructor <;> intro h <;> linarith
    | true =>
      have more := sticky s
      simp only [and_true]
      refine ⟨fun h => ?_, fun h => ?_⟩
      · rcases h with h | h <;> linarith
      · rcases lt_trichotomy rem (2 ^ k) with less | same | greater
        · have := belowHalf.mp less
          linarith
        · exact .inr (atHalf.mp same)
        · exact .inl (aboveHalf.mp greater)
  · rw [scale, middle, twice, equal, atHalf]
    cases s : x.sticky with
    | false =>
      rw [plain s]
      simp only [and_true]
      constructor <;> intro h <;> linarith
    | true =>
      have more := sticky s
      simp only [Bool.true_eq_false, and_false, false_iff]
      intro h
      rcases lt_trichotomy rem (2 ^ k) with less | same | greater
      · have := belowHalf.mp less
        linarith
      · have := atHalf.mp same
        linarith
      · have := aboveHalf.mp greater
        linarith
  · rw [scale, lower, equal, ← Nat.cast_eq_zero (R := K)]
    cases s : x.sticky with
    | false =>
      rw [plain s]
      simp only [and_true]
      constructor <;> intro h <;> linarith
    | true =>
      have more := sticky s
      simp only [Bool.true_eq_false, and_false, false_iff]
      intro h
      linarith

/-- What the model cuts a magnitude to. -/
theorem Exact.Means.cut_is {q : Nat} (h : x.Means a) (small : q ≤ 52) :
    ∃ m e rem half, x.cut (q + 1) = (m, e, rem, half) ∧ x.IsCut q a m e rem half := by
  by_cases short : x.man.log2 + 1 ≤ q + 1
  · exact ⟨_, _, _, _, by rw [Exact.cut]; exact if_pos short, h.cut_short small short⟩
  · obtain ⟨k, long⟩ : ∃ k, x.man.log2 + 1 = q + 1 + (k + 1) := ⟨x.man.log2 + 1 - (q + 1) - 1, by omega⟩
    refine ⟨_, _, _, _, ?_, h.cut_long long⟩
    rw [Exact.cut]
    dsimp only
    rw [if_neg short, long, Nat.add_sub_cancel_left, Nat.add_sub_cancel]

/-! ## The rounding -/

omit [IsStrictOrderedRing K] in
/-- R583: the model's rounding decision. -/
theorem Exact.IsCut.roundsUp_iff {q m rem half : Nat} {e : Int} (h : x.IsCut q a m e rem half) (mode : RMode) :
    roundsUp mode x.neg (m % 2 == 1) rem half x.sticky = true ↔ GoesUp mode x.neg m e a := by
  have inexact : (rem != 0 || x.sticky) = true ↔ a ≠ m * 2 ^ e := by
    rw [ne_eq, ← h.even, not_and_or, Bool.or_eq_true, bne_iff_ne, Bool.not_eq_false]
  cases mode with
  | nearest =>
    have decision : roundsUp .nearest x.neg (m % 2 == 1) rem half x.sticky = true ↔
        (half < rem ∨ (rem = half ∧ x.sticky = true)) ∨ ((rem = half ∧ x.sticky = false) ∧ m % 2 = 1) := by
      cases x.sticky <;> simp [roundsUp]
    rw [decision, h.more, h.tie]
    simp [GoesUp]
  | zero => simp [roundsUp, GoesUp]
  | pos =>
    rw [roundsUp, Bool.and_eq_true, inexact]
    simp [GoesUp]
  | neg =>
    rw [roundsUp, Bool.and_eq_true, inexact]
    simp [GoesUp]

/-- R583, R586: a mantissa, an exponent and whether the result is inexact are those of the magnitude rounded to `q + 1` bits. -/
structure Exact.RoundsTo (x : Exact) (q : Nat) (mode : RMode) (a : K) (man : Nat) (exp : Int) (inexact : Bool) : Prop where
  low : 2 ^ q ≤ man
  high : man < 2 ^ (q + 1)
  between : ∃ m e, Between q m e a ∧ IsRound mode x.neg m e a ((man : K) * 2 ^ exp) ∧
    (mode = .nearest → (2 * (m : K) + 1) * 2 ^ e = 2 * a → man % 2 = 0)
  inexact : inexact = true ↔ (man : K) * 2 ^ exp ≠ a

theorem Exact.IsCut.rounds {q m rem half : Nat} {e : Int} (h : x.IsCut q a m e rem half) (mode : RMode) (some : 1 ≤ q)
    (cut : x.cut (q + 1) = (m, e, rem, half)) :
    ∃ man exp inexact, x.round mode (q + 1) = (man, exp, inexact) ∧ x.RoundsTo q mode a man exp inexact := by
  have two : (2 : K) ≠ 0 := by norm_num
  have unit : (0 : K) < 2 ^ e := zpow_pos (by norm_num) _
  have inexact : (rem != 0 || x.sticky) = true ↔ a ≠ m * 2 ^ e := by
    rw [ne_eq, ← h.even, not_and_or, Bool.or_eq_true, bne_iff_ne, Bool.not_eq_false]
  have decision := h.roundsUp_iff mode
  have round : x.round mode (q + 1) =
      (if roundsUp mode x.neg (m % 2 == 1) rem half x.sticky then
        (if m + 1 = 2 ^ (q + 1) then (2 ^ (q + 1 - 1), e + 1, rem != 0 || x.sticky) else (m + 1, e, rem != 0 || x.sticky))
        else (m, e, rem != 0 || x.sticky)) := by
    rw [Exact.round, cut]
  have low := h.between.low
  have high := h.between.high
  rw [round]
  by_cases up : GoesUp mode x.neg m e a
  · rw [if_pos (decision.mpr up)]
    have apart : ((m : K) + 1) * 2 ^ e ≠ a := h.between.lt.ne'
    have moved : a ≠ m * 2 ^ e := by
      rcases up with ⟨-, more | tie⟩ | ⟨-, -, ne⟩ | ⟨-, -, ne⟩
      · intro same
        rw [same] at more
        linarith
      · intro same
        have := tie.1
        rw [same] at this
        linarith
      · exact ne
      · exact ne
    have differs : (rem != 0 || x.sticky) = true ↔ ((m : K) + 1) * 2 ^ e ≠ a := iff_of_true (inexact.mpr moved) apart
    have odd : mode = .nearest → (2 * (m : K) + 1) * 2 ^ e = 2 * a → m % 2 = 1 := by
      intro nearest tie
      rcases up with ⟨-, more | tie⟩ | ⟨pos, -⟩ | ⟨neg, -⟩
      · exact absurd tie more.ne
      · exact tie.2
      · rw [nearest] at pos
        cases pos
      · rw [nearest] at neg
        cases neg
    by_cases full : m + 1 = 2 ^ (q + 1)
    · rw [if_pos full]
      have same : ((2 ^ q : Nat) : K) * 2 ^ (e + 1) = (m + 1) * 2 ^ e := by
        have fullK : (m : K) + 1 = 2 ^ (q + 1) := by exact_mod_cast full
        rw [fullK, zpow_add₀ two, pow_succ]
        push_cast
        ring
      refine ⟨_, _, _, rfl, le_rfl, Nat.pow_lt_pow_right (by norm_num) (by omega), ⟨m, e, h.between, ?_, fun _ _ => ?_⟩, ?_⟩
      · exact .inl ⟨up, same⟩
      · exact Nat.mod_eq_zero_of_dvd (dvd_pow_self 2 (by omega))
      · rw [Nat.add_sub_cancel, same]
        exact differs
    · rw [if_neg full]
      refine ⟨_, _, _, rfl, by omega, by omega, ⟨m, e, h.between, ?_, fun nearest tie => ?_⟩, ?_⟩
      · exact .inl ⟨up, by push_cast; rfl⟩
      · have := odd nearest tie
        omega
      · rw [Nat.cast_succ]
        exact differs
  · rw [if_neg (mt decision.mp up)]
    refine ⟨_, _, _, rfl, low, high, ⟨m, e, h.between, .inr ⟨up, rfl⟩, fun nearest tie => ?_⟩, inexact.trans ne_comm⟩
    by_contra odd
    exact up (.inl ⟨nearest, .inr ⟨tie, by omega⟩⟩)

/-- R586: the rounding of an exact magnitude. -/
theorem Exact.Means.rounds {q : Nat} (h : x.Means a) (mode : RMode) (some : 1 ≤ q) (small : q ≤ 52) :
    ∃ man exp inexact, x.round mode (q + 1) = (man, exp, inexact) ∧ x.RoundsTo q mode a man exp inexact := by
  obtain ⟨m, e, rem, half, cut, is⟩ := h.cut_is small
  exact is.rounds mode some cut

end

end Sys2Proof.Machine
end

section
/-!
PROOFS. A number rounded to a format: in its range, above it and below it (46_fpu.md R583 to R586).
-/

namespace Sys2Proof.Machine

section
variable {K : Type} [Field K] [LinearOrder K] [IsStrictOrderedRing K]

/-! ## The numbers of a format -/

theorem value_num (neg : Bool) (man : Nat) (exp : Int) (sub : Bool) :
    (Fp.num neg man exp sub).value = signedBy neg ((man : ℚ) * 2 ^ exp) := by
  cases neg <;> simp [Fp.value, signedBy]

theorem cast_value_num (neg : Bool) (man : Nat) (exp : Int) (sub : Bool) :
    (((Fp.num neg man exp sub).value : ℚ) : K) = signedBy neg ((man : K) * 2 ^ exp) := by
  rw [value_num]
  cases neg <;> simp [signedBy]

/-- R582: the finite numbers of a format in any field. -/
def Fmt.Number (f : Fmt) (y : K) : Prop := ∃ q, f.grid q ∧ y = (q : K)

theorem number_rat (f : Fmt) : f.Number (K := ℚ) = f.grid := by
  funext y
  simp [Fmt.Number]

/-- R582: the numbers of a format have its precision. -/
theorem Fmt.Number.rep {f : Fmt} {y : K} (h : f.Number y) : Rep (f.frac + 1) y := by
  obtain ⟨q, ⟨z, finite, rfl⟩, rfl⟩ := h
  have small := fracOf_lt f z
  have size : 2 ^ (f.frac + 1) = 2 ^ f.frac + 2 ^ f.frac := by rw [pow_succ]; omega
  rw [decodeFp_eq, fpOf] at finite ⊢
  split at finite
  · split at finite <;> exact finite.elim
  · rename_i top
    rw [if_neg top]
    split
    · split
      · exact ⟨0, 0, by simp, by simp [Fp.value]⟩
      · rw [cast_value_num]
        exact (rep_nat _ (by omega)).signedBy _
    · rw [cast_value_num]
      exact (rep_nat _ (by omega)).signedBy _

theorem Fmt.Number.of_decode {f : Fmt} {z : DWord} {neg : Bool} {man : Nat} {exp : Int} {sub : Bool}
    (h : decodeFp f z = .num neg man exp sub) : f.Number (signedBy neg ((man : K) * 2 ^ exp)) :=
  ⟨_, ⟨z, by rw [h]; trivial, rfl⟩, by rw [h, cast_value_num]⟩

/-! ## Bounds of a rounded number -/

variable {x : Exact} {a y : K} {q man : Nat} {exp : Int} {inexact : Bool} {mode : RMode}

/-- A normalised mantissa tells the exponent. -/
theorem exponent_iff (low : 2 ^ q ≤ man) (high : man < 2 ^ (q + 1)) (n : Int) : n ≤ exp + q ↔ (2 : K) ^ n ≤ man * 2 ^ exp := by
  have two : (2 : K) ≠ 0 := by norm_num
  have unit : (0 : K) < 2 ^ exp := zpow_pos (by norm_num) _
  have lowK : (2 : K) ^ q ≤ man := by exact_mod_cast low
  have highK : (man : K) < 2 ^ (q + 1) := by exact_mod_cast high
  constructor
  · intro le
    calc (2 : K) ^ n ≤ 2 ^ (exp + q) := zpow_le_zpow_right₀ (by norm_num) le
      _ = 2 ^ q * 2 ^ exp := by rw [zpow_add₀ two, zpow_natCast, mul_comm]
      _ ≤ man * 2 ^ exp := mul_le_mul_of_nonneg_right lowK unit.le
  · intro le
    have less : (2 : K) ^ n < 2 ^ (exp + q + 1) := by
      calc (2 : K) ^ n ≤ man * 2 ^ exp := le
        _ < 2 ^ (q + 1) * 2 ^ exp := mul_lt_mul_of_pos_right highK unit
        _ = 2 ^ (exp + q + 1) := by rw [add_assoc, zpow_add₀ two, mul_comm, ← Nat.cast_succ, zpow_natCast]
    have := (zpow_lt_zpow_iff_right₀ (by norm_num)).mp less
    omega

/-- A number has one normalised mantissa. -/
theorem normalised_unique {man' : Nat} {exp' : Int} (low : 2 ^ q ≤ man) (high : man < 2 ^ (q + 1)) (low' : 2 ^ q ≤ man')
    (high' : man' < 2 ^ (q + 1)) (same : (man : K) * 2 ^ exp = man' * 2 ^ exp') : man = man' ∧ exp = exp' := by
  have ge := (exponent_iff (K := K) (exp := exp') low' high' (exp + q)).mpr (same ▸ (exponent_iff low high _).mp le_rfl)
  have le := (exponent_iff (K := K) (exp := exp) low high (exp' + q)).mpr (same ▸ (exponent_iff low' high' _).mp le_rfl)
  obtain rfl : exp = exp' := by omega
  have unit : (2 : K) ^ exp ≠ 0 := (zpow_pos (by norm_num) _).ne'
  exact ⟨by exact_mod_cast mul_right_cancel₀ unit same, rfl⟩

/-- A number stands between one pair of neighbours. -/
theorem Between.unique {m m' : Nat} {e e' : Int} (h : Between q m e a) (h' : Between q m' e' a) : m = m' ∧ e = e' := by
  refine normalised_unique (K := K) h.low h.high h'.low h'.high (le_antisymm ?_ ?_)
  · refine le_of_not_gt fun gt => ?_
    exact absurd (h'.lt.trans_le (rep_gap h'.low (rep_nat e h.high) gt)) (not_lt.mpr h.ge)
  · refine le_of_not_gt fun gt => ?_
    exact absurd (h.lt.trans_le (rep_gap h.low (rep_nat e' h'.high) gt)) (not_lt.mpr h'.ge)

theorem Exact.Means.top_lt_iff (h : x.Means a) (n : Int) : x.top < n ↔ a < 2 ^ n := by
  obtain ⟨low, high⟩ := h.top
  constructor
  · intro lt
    exact high.trans_le (zpow_le_zpow_right₀ (by norm_num) (by omega))
  · intro lt
    exact (zpow_lt_zpow_iff_right₀ (by norm_num)).mp (low.trans_lt lt)

/-- Rounding keeps a bound that the precision holds. -/
theorem Exact.RoundsTo.le (h : x.RoundsTo q mode a man exp inexact) (rep : Rep (q + 1) y) (le : a ≤ y) : (man : K) * 2 ^ exp ≤ y := by
  obtain ⟨m, e, between, round, -⟩ := h.between
  rcases round with ⟨up, same⟩ | ⟨-, same⟩
  · rw [same]
    refine rep_gap between.low rep (lt_of_lt_of_le (lt_of_le_of_ne between.ge fun exact_ => ?_) le)
    rcases up with ⟨-, more | tie⟩ | ⟨-, -, ne⟩ | ⟨-, -, ne⟩
    · rw [← exact_] at more
      have unit : (0 : K) < 2 ^ e := zpow_pos (by norm_num) _
      linarith
    · have tie := tie.1
      rw [← exact_] at tie
      have unit : (0 : K) < 2 ^ e := zpow_pos (by norm_num) _
      linarith
    · exact ne exact_.symm
    · exact ne exact_.symm
  · rw [same]
    exact between.ge.trans le

theorem Exact.RoundsTo.ge (h : x.RoundsTo q mode a man exp inexact) (rep : Rep (q + 1) y) (le : y ≤ a) : y ≤ man * 2 ^ exp := by
  obtain ⟨m, e, between, round, -⟩ := h.between
  have lower : y ≤ m * 2 ^ e := le_of_not_gt fun gt => absurd (rep_gap between.low rep gt) (not_le.mpr (le.trans_lt between.lt))
  rcases round with ⟨-, same⟩ | ⟨-, same⟩ <;> rw [same]
  · have unit : (0 : K) < 2 ^ e := zpow_pos (by norm_num) _
    linarith
  · exact lower

omit [LinearOrder K] [IsStrictOrderedRing K] in
theorem rep_two_zpow (q : Nat) (n : Int) : Rep (q + 1) ((2 : K) ^ n) :=
  ⟨1, n, by rw [abs_one]; exact one_lt_pow₀ (by norm_num) (by omega), by simp⟩

/-! ## The range of a format -/

/-- R582: the largest finite number and the smallest normal one. -/
def Fmt.most (f : Fmt) : K := ((2 ^ (f.frac + 1) - 1 : Nat) : K) * 2 ^ ((f.bias : Int) - f.frac)
@[inherit_doc Fmt.most]
def Fmt.least (f : Fmt) : K := 2 ^ f.emin

theorem value_max (f : Fmt) : (decodeFp f (maxFp f false)).value = f.most := by
  rw [decode_max, value_num]
  rfl

theorem value_min (f : Fmt) : (decodeFp f (minFp f false)).value = f.least := by
  have split : (2 : ℚ) ^ f.emin = 2 ^ (f.frac : Int) * 2 ^ (f.emin - f.frac) := by
    rw [← zpow_add₀ (by norm_num)]
    congr 1
    omega
  rw [decode_min, value_num, Fmt.least, split, zpow_natCast]
  push_cast
  rfl

theorem Fmt.most_succ (f : Fmt) : ((2 ^ (f.frac + 1) - 1 : Nat) + 1 : K) * 2 ^ ((f.bias : Int) - f.frac) = 2 ^ (f.bias + 1) := by
  have whole : (((2 ^ (f.frac + 1) - 1 : Nat) + 1 : Nat) : K) = 2 ^ (f.frac + 1) := by
    rw [Nat.sub_add_cancel (Nat.one_le_two_pow)]
    push_cast
    rfl
  push_cast at whole
  rw [whole, ← zpow_natCast, ← zpow_natCast, ← zpow_add₀ (by norm_num)]
  congr 1
  push_cast
  ring

theorem Fmt.most_lt (f : Fmt) : (f.most : K) < 2 ^ (f.bias + 1) := by
  rw [← f.most_succ, Fmt.most]
  exact mul_lt_mul_of_pos_right (lt_add_one _) (zpow_pos (by norm_num) _)

theorem Fmt.most_lt_zpow (f : Fmt) : (f.most : K) < 2 ^ ((f.bias : Int) + 1) := by
  rw [← Nat.cast_succ, zpow_natCast]
  exact f.most_lt

omit [LinearOrder K] [IsStrictOrderedRing K] in
theorem Fmt.most_rep (f : Fmt) : Rep (f.frac + 1) (f.most : K) := rep_nat _ (Nat.sub_lt (by positivity) (by norm_num))

theorem Fmt.least_le_most (f : Fmt) : (f.least : K) ≤ f.most := by
  have two := Nat.one_le_two_pow (n := f.frac)
  refine (exponent_iff (q := f.frac) ?_ ?_ _).mp ?_
  · rw [pow_succ]
    omega
  · rw [pow_succ]
    omega
  · have := f.bias_pos
    rw [Fmt.emin_eq]
    omega

/-- R586: what a magnitude within the range of the normal numbers is rounded to. -/
theorem Exact.Means.roundFp_within (h : x.Means a) (w : Word) (f : Fmt) (least : f.least ≤ a) (most : a ≤ f.most) :
    ∃ man exp inexact, x.RoundsTo f.frac (fpRm w) a man exp inexact ∧ (f.emin - f.frac ≤ exp ∧ exp ≤ f.bias - f.frac) ∧
      roundFp w f x = (if inexact then detI else 0, normalFp f x.neg man exp) := by
  have wide := f.frac_pos
  obtain ⟨man, exp, inexact, round, rounds⟩ := h.rounds (q := f.frac) (fpRm w) (by omega) wide.2
  have upper : ¬ (f.bias : Int) + 1 ≤ exp + f.frac := by
    rw [exponent_iff (K := K) rounds.low rounds.high, not_le]
    exact (rounds.le f.most_rep most).trans_lt f.most_lt_zpow
  have lower := (exponent_iff rounds.low rounds.high _).mpr (rounds.ge (rep_two_zpow _ _) least)
  refine ⟨man, exp, inexact, rounds, ⟨by omega, by omega⟩, ?_⟩
  rw [roundFp, round]
  have inside : ¬ x.top < f.emin := by
    rw [h.top_lt_iff]
    exact not_lt.mpr least
  simp only [if_neg inside]
  exact if_neg (by omega)

/-- R586: what a magnitude above the largest finite number is rounded to. -/
theorem Exact.Means.roundFp_above (h : x.Means a) (w : Word) (f : Fmt) (above : f.most < a) :
    ∃ up : Bool, (up = true ↔ 2 ^ (f.bias + 1) ≤ a ∨
        GoesUp (fpRm w) x.neg (2 ^ (f.frac + 1) - 1) ((f.bias : Int) - f.frac) a) ∧
      roundFp w f x = if up then (detO ||| detI, overflowFp f (fpRm w) x.neg) else (detI, maxFp f x.neg) := by
  have wide := f.frac_pos
  have two := Nat.one_le_two_pow (n := f.frac)
  have low : 2 ^ f.frac ≤ 2 ^ (f.frac + 1) - 1 := by rw [pow_succ]; omega
  have high : 2 ^ (f.frac + 1) - 1 < 2 ^ (f.frac + 1) := by rw [pow_succ]; omega
  obtain ⟨man, exp, inexact, round, rounds⟩ := h.rounds (q := f.frac) (fpRm w) (by omega) wide.2
  have exceeds : (f.bias : Int) < exp + f.frac ↔ (2 : K) ^ (f.bias + 1) ≤ man * 2 ^ exp := by
    rw [Int.lt_iff_add_one_le, exponent_iff (K := K) rounds.low rounds.high]
    norm_cast
  have rounded : roundFp w f x = if (f.bias : Int) < exp + f.frac then (detO ||| detI, overflowFp f (fpRm w) x.neg)
      else (if inexact then detI else 0, normalFp f x.neg man exp) := by
    have inside : ¬ x.top < f.emin := by
      rw [h.top_lt_iff]
      exact not_lt.mpr (f.least_le_most.trans above.le)
    rw [roundFp, round]
    simp only [if_neg inside]
    split
    · cases inexact <;> rfl
    · rfl
  refine ⟨decide ((f.bias : Int) < exp + f.frac), ?_, ?_⟩
  · rw [decide_eq_true_iff, exceeds]
    rcases le_or_gt ((2 : K) ^ (f.bias + 1)) a with far | near
    · refine iff_of_true (rounds.ge ?_ far) (.inl far)
      rw [← zpow_natCast]
      exact rep_two_zpow _ _
    · obtain ⟨m, e, between, isRound, -⟩ := rounds.between
      have same : Between f.frac (2 ^ (f.frac + 1) - 1) ((f.bias : Int) - f.frac) a :=
        ⟨low, high, above.le, near.trans_eq (f.most_succ (K := K)).symm⟩
      obtain ⟨rfl, rfl⟩ := between.unique same
      have below : ((2 ^ (f.frac + 1) - 1 : Nat) : K) * 2 ^ ((f.bias : Int) - f.frac) < 2 ^ (f.bias + 1) := f.most_lt
      rcases isRound with ⟨up, value⟩ | ⟨down, value⟩
      · exact iff_of_true (value.trans (f.most_succ (K := K))).ge (.inr up)
      · exact iff_of_false (by rw [value]; exact not_le.mpr below) (not_or.mpr ⟨not_le.mpr near, down⟩)
  · rw [rounded]
    by_cases far : (f.bias : Int) < exp + f.frac
    · rw [if_pos far, if_pos (decide_eq_true far)]
    · rw [if_neg far, if_neg (mt of_decide_eq_true far)]
      have lower := rounds.ge f.most_rep above.le
      obtain ⟨rfl, rfl⟩ : man = 2 ^ (f.frac + 1) - 1 ∧ exp = (f.bias : Int) - f.frac := by
        refine normalised_unique (K := K) rounds.low rounds.high low high (le_antisymm (le_of_not_gt fun gt => ?_) lower)
        have := rep_gap low (rep_nat exp rounds.high) gt
        rw [f.most_succ] at this
        exact far (exceeds.mpr this)
      rw [rounds.inexact.mpr above.ne, if_pos rfl, normalFp, maxFp]
      have bias := f.two_bias
      congr 2
      · omega
      · rw [pow_succ]
        omega

/-- R585: what a magnitude below the smallest normal number is rounded to. -/
theorem Exact.Means.roundFp_below (h : x.Means a) (w : Word) (f : Fmt) (below : a < f.least) : roundFp w f x = flushOut w f x := by
  have wide := f.frac_pos
  obtain ⟨man, exp, inexact, round, rounds⟩ := h.rounds (q := f.frac) (fpRm w) (by omega) wide.2
  have small : ¬ (f.bias : Int) < exp + f.frac := by
    rw [Int.lt_iff_add_one_le, exponent_iff (K := K) rounds.low rounds.high, not_le]
    exact ((rounds.le (rep_two_zpow _ _) below.le).trans f.least_le_most).trans_lt f.most_lt_zpow
  rw [roundFp, round]
  simp only [if_neg small, if_pos ((h.top_lt_iff _).mpr below)]

/-! ## Correct rounding -/

theorem Exact.RoundsTo.roundedTo {f : Fmt} (h : x.RoundsTo f.frac mode a man exp inexact)
    (fits : f.emin - f.frac ≤ exp ∧ exp ≤ f.bias - f.frac) :
    RoundedTo mode f.Number (signedBy x.neg a) (signedBy x.neg ((man : K) * 2 ^ exp)) := by
  obtain ⟨m, e, between, round, -⟩ := h.between
  exact round.roundedTo between (fun y hy => hy.rep) (.of_decode (decode_normal f x.neg ⟨h.low, h.high⟩ fits))

end

/-! ## The result of an operation with an exact value -/

/-- R586: the result of the rounding of a magnitude. -/
def roundRes (w : Word) (f : Fmt) (x : Exact) : FpRes := ⟨(roundFp w f x).1, (roundFp w f x).2, false⟩

variable {x : Exact} {a : ℚ}

theorem abs_sign (h : x.Means a) : |signedBy x.neg a| = a := by rw [abs_signedBy, abs_of_pos h.pos]

theorem sign_neg (h : x.Means a) : decide (signedBy x.neg a < 0) = x.neg := by
  cases n : x.neg
  · exact decide_eq_false (not_lt.mpr h.pos.le)
  · exact decide_eq_true (neg_lt_zero.mpr h.pos)

theorem signedBy_inj {neg : Bool} {b c : ℚ} : signedBy neg b = signedBy neg c ↔ b = c :=
  ⟨fun same => by rw [← signedBy_signedBy neg b, same, signedBy_signedBy], fun same => by rw [same]⟩

/-- R583, R586: within the range of the normal numbers. -/
theorem Exact.Means.roundRes_rounds (h : x.Means a) (w : Word) (f : Fmt) (least : f.least ≤ a) (most : a ≤ f.most) :
    (roundRes w f x).Rounds f (fpRm w) (signedBy x.neg a) := by
  obtain ⟨man, exp, inexact, rounds, fits, round⟩ := h.roundFp_within w f least most
  have normal := decode_normal f x.neg ⟨rounds.low, rounds.high⟩ fits
  have value : (decodeFp f (roundRes w f x).val).value = signedBy x.neg ((man : ℚ) * 2 ^ exp) := by
    rw [roundRes, round]
    exact (congrArg Fp.value normal).trans (value_num ..)
  have correct := rounds.roundedTo fits
  rw [number_rat] at correct
  refine ⟨?_, value ▸ correct, fun nearest ⟨y, grid, ne, near⟩ => ?_, ?_, rfl⟩
  · rw [roundRes, round]
    exact normal ▸ trivial
  · rw [value] at ne near
    obtain ⟨m, e, between, isRound, even⟩ := rounds.between
    rw [nearest] at isRound
    have rep : Rep (f.frac + 1) y := Fmt.Number.rep (f := f) (by rwa [number_rat])
    have low := even nearest (isRound.tie between rep ne near)
    rw [roundRes, round, normalFp_odd f x.neg ⟨rounds.low, rounds.high⟩ fits]
    exact decide_eq_false (by omega)
  · simp only [value, signedBy_inj]
    have det : (roundRes w f x).det = if inexact then detI else 0 := by rw [roundRes, round]
    rw [det]
    cases i : inexact with
    | true => rw [if_neg (rounds.inexact.mp i)]; rfl
    | false =>
      rw [if_pos (not_ne_iff.mp fun ne => Bool.false_ne_true (i.symm.trans (rounds.inexact.mpr ne)))]
      rfl

/-- R584: above the largest finite number. -/
theorem Exact.Means.roundRes_overflows (h : x.Means a) (w : Word) (f : Fmt) :
    (roundRes w f x).Overflows f (fpRm w) (signedBy x.neg a) := by
  unfold FpRes.Overflows
  simp only [abs_sign h, sign_neg h, value_max]
  intro above
  obtain ⟨up, upIff, round⟩ := h.roundFp_above w f above
  have middle : (2 * ((2 ^ (f.frac + 1) - 1 : Nat) : ℚ) + 1) * 2 ^ ((f.bias : Int) - f.frac) = f.most + 2 ^ (f.bias + 1) := by
    rw [← f.most_succ, Fmt.most]
    ring
  have odd : (2 ^ (f.frac + 1) - 1) % 2 = 1 := by
    have := Nat.one_le_two_pow (n := f.frac)
    rw [pow_succ]
    omega
  have ne : a ≠ ((2 ^ (f.frac + 1) - 1 : Nat) : ℚ) * 2 ^ ((f.bias : Int) - f.frac) := above.ne'
  have exceeds : up = true ↔ 2 ^ (f.bias + 1) ≤ a ∨
      (fpRm w = .nearest ∧ f.most + 2 ^ (f.bias + 1) ≤ 2 * a) ∨ (fpRm w = .pos ∧ x.neg = false) ∨ (fpRm w = .neg ∧ x.neg = true) := by
    rw [upIff, GoesUp, middle]
    simp only [odd, and_true, ← le_iff_lt_or_eq, ne_eq, ne, not_false_eq_true]
  have default : roundRes w f x = if up then ⟨detO ||| detI, overflowFp f (fpRm w) x.neg, false⟩ else ⟨detI, maxFp f x.neg, false⟩ := by
    rw [roundRes, round]
    cases up <;> rfl
  rw [default]
  generalize fpRm w = mode at exceeds ⊢
  generalize x.neg = neg at exceeds ⊢
  refine ⟨fun ex => ?_, fun below => ?_⟩
  · rw [if_pos (exceeds.mpr ?_)]
    · cases mode <;> cases neg <;> rfl
    · cases mode <;> cases neg <;> simp at ex ⊢ <;> exact ex
  · rw [if_neg (mt exceeds.mp ?_)]
    cases mode <;> cases neg <;> simp at below ⊢ <;> exact below

/-- R585: below the smallest normal number. -/
theorem Exact.Means.roundRes_underflows (h : x.Means a) (w : Word) (f : Fmt) : (roundRes w f x).Underflows f w (signedBy x.neg a) := by
  unfold FpRes.Underflows
  simp only [abs_sign h, sign_neg h, value_min]
  intro _ below
  have round : roundRes w f x = ⟨(flushOut w f x).1, (flushOut w f x).2, false⟩ := by rw [roundRes, h.roundFp_below w f below]
  have half : f.emin - 1 ≤ x.top ↔ (f.least : ℚ) ≤ 2 * a := by
    rw [← not_lt, h.top_lt_iff, not_lt, zpow_sub_one₀ (by norm_num), Fmt.least, ← div_eq_mul_inv, div_le_iff₀ (by norm_num), mul_comm]
  rw [round, flushOut]
  refine ⟨fun off => ?_, fun on => ?_⟩
  · rw [fpFs, off]
    rfl
  · rw [fpFs, on]
    refine ⟨rfl, rfl, ?_⟩
    simp only [Bool.not_true, Bool.false_eq_true, if_false]
    cases fpRm w with
    | nearest => exact if_congr (by rw [Bool.and_eq_true, decide_eq_true_iff, half]; rfl) rfl rfl
    | zero => rfl
    | pos => rfl
    | neg => rfl

/-- R583 to R586: in every range. -/
theorem Exact.Means.roundRes_exactly (h : x.Means a) (w : Word) (f : Fmt) : (roundRes w f x).Exactly f w (signedBy x.neg a) := by
  refine ⟨fun range => ?_, h.roundRes_overflows w f, h.roundRes_underflows w f⟩
  rw [Fmt.InRange, abs_sign h, value_min, value_max] at range
  exact h.roundRes_rounds w f range.1 range.2

end Sys2Proof.Machine
end

section
/-!
PROOFS. The patterns by their signs, the result template, and the exact operations (46_fpu.md R582, R585, R586, R594 to R601).
-/

namespace Sys2Proof.Machine

/-! ## Magnitudes and signs of patterns -/

/-- R582: the magnitude bits of a pattern. -/
def magOf (f : Fmt) (v : DWord) : Nat := v.toNat % 2 ^ (f.frac + f.ebits)

theorem expOf_mag (f : Fmt) (v : DWord) : expOf f v = magOf f v / 2 ^ f.frac := by
  rw [expOf, magOf, pow_add, Nat.mod_mul_right_div_self]

theorem fracOf_mag (f : Fmt) (v : DWord) : fracOf f v = magOf f v % 2 ^ f.frac := by
  rw [fracOf, magOf, pow_add, Nat.mod_mul_right_mod]

/-- R582: what a sign and magnitude bits stand for. -/
theorem decodeFp_mag (f : Fmt) (v : DWord) :
    decodeFp f v = fpOf f (signBit f v) (magOf f v / 2 ^ f.frac) (magOf f v % 2 ^ f.frac) := by
  rw [decodeFp_eq, expOf_mag, fracOf_mag]

/-- The sign of a pattern inverted. -/
def flipSign (f : Fmt) (v : DWord) : DWord := v ^^^ BitVec.twoPow 64 (f.frac + f.ebits)

theorem flipSign_sign (f : Fmt) (v : DWord) : signBit f (flipSign f v) = !signBit f v := by
  have inside : f.frac + f.ebits < 64 := by cases f <;> decide
  rw [signBit, flipSign, BitVec.getLsbD_xor, BitVec.getLsbD_twoPow]
  simp [signBit, inside]

theorem flipSign_mag (f : Fmt) (v : DWord) : magOf f (flipSign f v) = magOf f v := by
  refine Nat.eq_of_testBit_eq fun i => ?_
  rw [magOf, magOf, Nat.testBit_mod_two_pow, Nat.testBit_mod_two_pow, flipSign, BitVec.toNat_xor, Nat.testBit_xor]
  by_cases low : i < f.frac + f.ebits
  · have off : (BitVec.twoPow 64 (f.frac + f.ebits)).toNat.testBit i = false := by
      rw [BitVec.testBit_toNat, BitVec.getLsbD_twoPow]
      simp [low.ne']
    rw [off, Bool.xor_false]
  · simp [low]

theorem fpOf_negate (f : Fmt) (neg : Bool) (e fr : Nat) : fpOf f (!neg) e fr = (fpOf f neg e fr).negate := by
  unfold fpOf
  repeat' split
  all_goals rfl

theorem decode_flipSign (f : Fmt) (v : DWord) : decodeFp f (flipSign f v) = (decodeFp f v).negate := by
  rw [decodeFp_mag, decodeFp_mag, flipSign_sign, flipSign_mag, fpOf_negate]

/-- R582: a pattern is a NaN, or has the sign of its sign bit. -/
theorem decode_cases (f : Fmt) (v : DWord) :
    (∃ sig, decodeFp f v = .nan sig) ∨ decodeFp f v = .inf (signBit f v) ∨ decodeFp f v = .zero (signBit f v) ∨
      (∃ m e, decodeFp f v = .num (signBit f v) m e true ∧ 0 < m ∧ m < 2 ^ (f.frac + 1)) ∨
      ∃ m e, decodeFp f v = .num (signBit f v) m e false ∧ 0 < m ∧ m < 2 ^ (f.frac + 1) := by
  have small := fracOf_lt f v
  have size : 2 ^ (f.frac + 1) = 2 ^ f.frac + 2 ^ f.frac := by rw [pow_succ]; omega
  rw [decodeFp_eq, fpOf]
  split
  · split
    · exact .inr (.inl rfl)
    · exact .inl ⟨_, rfl⟩
  · split
    · split
      · exact .inr (.inr (.inl rfl))
      · exact .inr (.inr (.inr (.inl ⟨_, _, rfl, by omega, by omega⟩)))
    · exact .inr (.inr (.inr (.inr ⟨_, _, rfl, by omega, by omega⟩)))

theorem normal_cases {f : Fmt} {v : DWord} (h : (decodeFp f v).Normal) : decodeFp f v = .zero (signBit f v) ∨
    ∃ m e, decodeFp f v = .num (signBit f v) m e false ∧ 0 < m ∧ m < 2 ^ (f.frac + 1) := by
  obtain ⟨finite, plain⟩ := h
  rcases decode_cases f v with ⟨_, d⟩ | d | d | ⟨m, e, d, -⟩ | d
  · rw [d] at finite
    exact finite.elim
  · rw [d] at finite
    exact finite.elim
  · exact .inl d
  · rw [d] at plain
    exact absurd plain Bool.true_eq_false.mp
  · exact .inr d

/-- R585: a pattern with its subnormal number replaced. -/
theorem decode_flushed (f : Fmt) (v : DWord) : decodeFp f (flushedFp f v) = (decodeFp f v).flush := by
  rw [flushedFp]
  rcases decode_cases f v with ⟨_, d⟩ | d | d | ⟨m, e, d, -⟩ | ⟨m, e, d, -⟩ <;> rw [d]
  · exact d
  · exact d
  · exact d
  · exact decode_zero f _
  · exact d

/-! ## The template -/

theorem flush_of_plain {x : Fp} (h : x.isSubnormal = false) : x.flush = x := by
  cases x with
  | num n m e s =>
    obtain rfl : s = false := h
    rfl
  | _ => rfl

section
variable {p : Product} {w : Word} {f : Fmt} {xs : List Fp} {first : Bool} {table : List Fp → FpDet × DWord}

theorem template_snan (h : ∃ x ∈ xs, x.isSnan = true) : fpTemplate p w f xs first table = ⟨detV, quietNan p f, false⟩ := by
  rw [fpTemplate]
  exact if_pos (List.any_eq_true.mpr h)

theorem not_any {q : Fp → Bool} (h : ∀ x ∈ xs, q x = false) : ¬ xs.any q = true := by
  rw [List.any_eq_false.mpr fun x mem => by rw [h x mem]; exact Bool.false_ne_true]
  exact Bool.false_ne_true

theorem template_qnan (noSnan : ∀ x ∈ xs, x.isSnan = false) (h : ∃ x ∈ xs, x.isQnan = true) :
    fpTemplate p w f xs first table = ⟨0, quietNan p f, false⟩ := by
  rw [fpTemplate]
  exact (if_neg (not_any noSnan)).trans (if_pos (List.any_eq_true.mpr h))

variable (noSnan : ∀ x ∈ xs, x.isSnan = false) (noQnan : ∀ x ∈ xs, x.isQnan = false)
include noSnan noQnan

theorem template_numbers : fpTemplate p w f xs first table =
    if (xs.any Fp.isSubnormal && !fpFs w && !first) = true then ⟨detE, 0, false⟩
    else ⟨(table (xs.map Fp.flush)).1, (table (xs.map Fp.flush)).2, xs.any Fp.isSubnormal && fpFs w⟩ := by
  rw [fpTemplate]
  exact (if_neg (not_any noSnan)).trans (if_neg (not_any noQnan))

theorem template_plain (plain : ∀ x ∈ xs, x.isSubnormal = false) :
    fpTemplate p w f xs first table = ⟨(table xs).1, (table xs).2, false⟩ := by
  have same : xs.map Fp.flush = xs :=
    (List.map_congr_left (g := id) fun x mem => flush_of_plain (plain x mem)).trans (List.map_id xs)
  rw [template_numbers noSnan noQnan, same, Bool.eq_false_iff.mpr (not_any plain)]
  rfl

theorem template_rejects (sub : ∃ x ∈ xs, x.isSubnormal = true) (off : w.getLsbD 17 = false) (notFirst : first = false) :
    fpTemplate p w f xs first table = ⟨detE, 0, false⟩ := by
  rw [template_numbers noSnan noQnan, List.any_eq_true.mpr sub, fpFs, off, notFirst]
  rfl

theorem template_flushes (sub : ∃ x ∈ xs, x.isSubnormal = true) (on : w.getLsbD 17 = true) :
    fpTemplate p w f xs first table = ⟨(table (xs.map Fp.flush)).1, (table (xs.map Fp.flush)).2, true⟩ := by
  rw [template_numbers noSnan noQnan, List.any_eq_true.mpr sub, fpFs, on]
  rfl

end

/-! ## Cells -/

/-- R586: a cell of a number: zero, or an exact magnitude with its sign. -/
def Cell.Gives : Cell → ℚ → Prop
  | .zero _, v => v = 0
  | .exact x, v => ∃ a : ℚ, x.Means a ∧ v = signedBy x.neg a
  | _, _ => False

theorem Exact.means_plain {K : Type} [Field K] [LinearOrder K] [IsStrictOrderedRing K] {neg : Bool} {man : Nat} {exp : Int}
    (some : 0 < man) : (⟨neg, man, exp, false⟩ : Exact).Means ((man : K) * 2 ^ exp) :=
  ⟨some, fun _ => rfl, nofun⟩

theorem signedBy_ne_zero {neg : Bool} {a : ℚ} (h : 0 < a) : signedBy neg a ≠ 0 := by
  cases neg
  · exact h.ne'
  · exact neg_ne_zero.mpr h.ne'

theorem Cell.Gives.exact_of_ne {c : Cell} {v : ℚ} (h : c.Gives v) (ne : v ≠ 0) :
    ∃ x a, c = .exact x ∧ x.Means a ∧ v = signedBy x.neg a := by
  cases c with
  | zero _ => exact absurd h ne
  | exact x =>
    obtain ⟨a, means, same⟩ := h
    exact ⟨x, a, rfl, means, same⟩
  | _ => exact h.elim

theorem Cell.Gives.zero_of {c : Cell} (h : c.Gives 0) : ∃ n, c = .zero n := by
  cases c with
  | zero n => exact ⟨n, rfl⟩
  | exact x =>
    obtain ⟨a, means, same⟩ := h
    exact absurd same.symm (signedBy_ne_zero means.pos)
  | _ => exact h.elim

/-- R586: what a cell of a number gives. -/
theorem Cell.Gives.exactly {c : Cell} {v : ℚ} (h : c.Gives v) (ne : v ≠ 0) (p : Product) (w : Word) (f : Fmt) :
    FpRes.Exactly ⟨(c.eval p w f).1, (c.eval p w f).2, false⟩ f w v := by
  obtain ⟨x, a, rfl, means, rfl⟩ := h.exact_of_ne ne
  exact means.roundRes_exactly w f

/-! ## The exact operations -/

/-- A finite number has a mantissa that is not 0. -/
def Fp.Fits (x : Fp) : Prop := (∃ n, x = .zero n) ∨ ∃ n m e s, x = .num n m e s ∧ 0 < m

theorem negate_value (x : Fp) : x.negate.value = -x.value := by
  cases x with
  | num n m e s =>
    rw [Fp.negate, value_num, value_num]
    cases n
    · rfl
    · exact (neg_neg _).symm
  | _ => exact neg_zero.symm

theorem Fp.Fits.negate {x : Fp} (h : x.Fits) : x.negate.Fits := by
  rcases h with ⟨n, rfl⟩ | ⟨n, m, e, s, rfl, some⟩
  · exact .inl ⟨_, rfl⟩
  · exact .inr ⟨_, _, _, _, rfl, some⟩

theorem signedInt_cast (neg : Bool) (n : Nat) (e : Int) : ((signedInt neg n : Int) : ℚ) * 2 ^ e = signedBy neg ((n : ℚ) * 2 ^ e) := by
  cases neg <;> simp [signedInt, signedBy]

theorem signedInt_natAbs (t : Int) : signedInt (decide (t < 0)) t.natAbs = t := by
  rw [signedInt]
  by_cases neg : t < 0
  · rw [if_pos (decide_eq_true neg)]
    omega
  · rw [if_neg (by rwa [decide_eq_true_iff])]
    omega

/-- A mantissa shifted to a smaller exponent. -/
theorem shift_exponent (k : Nat) {e e' : Int} (le : e ≤ e') : ((k <<< (e' - e).toNat : Nat) : ℚ) * 2 ^ e = k * 2 ^ e' := by
  obtain ⟨j, rfl⟩ := Int.le.dest le
  rw [Nat.shiftLeft_eq, add_sub_cancel_left, Int.toNat_natCast, zpow_add₀ (by norm_num), zpow_natCast]
  push_cast
  ring

/-- R594: the sum. -/
theorem addCell_gives (mode : RMode) {x y : Fp} (hx : x.Fits) (hy : y.Fits) : (addCell mode x y).Gives (x.value + y.value) := by
  rcases hx with ⟨n, rfl⟩ | ⟨n, m, e, s, rfl, some⟩ <;> rcases hy with ⟨n', rfl⟩ | ⟨n', m', e', s', rfl, some'⟩
  · rw [addCell]
    split <;> exact add_zero 0
  · exact ⟨_, Exact.means_plain some', by rw [value_num]; exact zero_add _⟩
  · exact ⟨_, Exact.means_plain some, by rw [value_num]; exact add_zero _⟩
  · rw [addCell]
    have sum : ((signedInt n (m <<< (e - min e e').toNat) + signedInt n' (m' <<< (e' - min e e').toNat) : Int) : ℚ) * 2 ^ min e e' =
        (Fp.num n m e s).value + (Fp.num n' m' e' s').value := by
      rw [Int.cast_add, add_mul, signedInt_cast, signedInt_cast, shift_exponent m (min_le_left _ _), shift_exponent m' (min_le_right _ _),
        value_num, value_num]
    generalize signedInt n (m <<< (e - min e e').toNat) + signedInt n' (m' <<< (e' - min e e').toNat) = t at sum ⊢
    rw [← sum]
    split
    · rename_i zero
      rw [zero]
      exact mul_eq_zero_of_left Int.cast_zero _
    · rename_i ne
      refine ⟨_, Exact.means_plain (Int.natAbs_pos.mpr ne), ?_⟩
      rw [← signedInt_cast]
      rw [signedInt_natAbs]

theorem subCell_gives (mode : RMode) {x y : Fp} (hx : x.Fits) (hy : y.Fits) : (subCell mode x y).Gives (x.value - y.value) := by
  rw [subCell, sub_eq_add_neg, ← negate_value]
  exact addCell_gives mode hx hy.negate

theorem signedBy_mul (n n' : Bool) (a b : ℚ) : signedBy n a * signedBy n' b = signedBy (n ^^ n') (a * b) := by
  cases n <;> cases n' <;> simp [signedBy]

/-- R598: the exact product. -/
theorem mulFp_gives {x y : Fp} (hx : x.Fits) (hy : y.Fits) : ∃ t, mulFp x y = some t ∧ t.Fits ∧ t.value = x.value * y.value := by
  rcases hx with ⟨n, rfl⟩ | ⟨n, m, e, s, rfl, some⟩ <;> rcases hy with ⟨n', rfl⟩ | ⟨n', m', e', s', rfl, some'⟩
  · exact ⟨_, rfl, .inl ⟨_, rfl⟩, (zero_mul _).symm⟩
  · exact ⟨_, rfl, .inl ⟨_, rfl⟩, (zero_mul _).symm⟩
  · exact ⟨_, rfl, .inl ⟨_, rfl⟩, (mul_zero _).symm⟩
  · refine ⟨_, rfl, .inr ⟨_, _, _, _, rfl, Nat.mul_pos some some'⟩, ?_⟩
    rw [value_num, value_num, value_num, signedBy_mul, zpow_add₀ (by norm_num)]
    congr 1
    push_cast
    ring

theorem toCell_gives {x : Fp} (h : x.Fits) : x.toCell.Gives x.value := by
  rcases h with ⟨n, rfl⟩ | ⟨n, m, e, s, rfl, some⟩
  · rfl
  · exact ⟨_, Exact.means_plain some, value_num ..⟩

theorem mulCell_gives (mode : RMode) {x y : Fp} (hx : x.Fits) (hy : y.Fits) : (mulCell mode x y).Gives (x.value * y.value) := by
  obtain ⟨t, product, fits, value⟩ := mulFp_gives hx hy
  rw [mulCell, product, ← value]
  exact toCell_gives fits

/-- R600: the exact quotient of two magnitudes. -/
theorem quotient_means {neg : Bool} {m1 m2 : Nat} (e1 e2 : Int) (some1 : 0 < m1) (some2 : 0 < m2) (small : m2 < 2 ^ 53) :
    (quotient neg m1 e1 m2 e2).Means (((m1 : ℚ) * (2 : ℚ) ^ e1) / ((m2 : ℚ) * (2 : ℚ) ^ e2)) := by
  have two : (2 : ℚ) ≠ 0 := by norm_num
  have divisor : (0 : ℚ) < m2 := by exact_mod_cast some2
  have unit : (0 : ℚ) < 2 ^ (e1 - e2 - 128) := zpow_pos (by norm_num) _
  have long : 2 ^ 53 ≤ (m1 <<< 128) / m2 := by
    rw [Nat.le_div_iff_mul_le some2, Nat.shiftLeft_eq]
    calc 2 ^ 53 * m2 ≤ 1 * 2 ^ 128 := by omega
      _ ≤ m1 * 2 ^ 128 := Nat.mul_le_mul_right _ some1
  have parts : ((m1 <<< 128 : Nat) : ℚ) = m2 * ((m1 <<< 128 / m2 : Nat) : ℚ) + ((m1 <<< 128 % m2 : Nat) : ℚ) := by
    exact_mod_cast (Nat.div_add_mod (m1 <<< 128) m2).symm
  have value : ((m1 : ℚ) * (2 : ℚ) ^ e1) / ((m2 : ℚ) * (2 : ℚ) ^ e2) =
      (((m1 <<< 128 / m2 : Nat) : ℚ) + ((m1 <<< 128 % m2 : Nat) : ℚ) / m2) * 2 ^ (e1 - e2 - 128) := by
    have whole : ((m1 : ℚ) * (2 : ℚ) ^ e1) / ((m2 : ℚ) * (2 : ℚ) ^ e2) = ((m1 <<< 128 : Nat) : ℚ) / m2 * 2 ^ (e1 - e2 - 128) := by
      rw [Nat.shiftLeft_eq, zpow_sub₀ two, zpow_sub₀ two]
      push_cast
      field_simp
    rw [whole, parts]
    congr 1
    field_simp
  have rest : ((m1 <<< 128 % m2 : Nat) : ℚ) < m2 := by exact_mod_cast Nat.mod_lt _ some2
  rw [value]
  refine ⟨?_, fun plain => ?_, fun sticky => ⟨?_, ?_, long⟩⟩
  · show 0 < m1 <<< 128 / m2
    omega
  · have zero : m1 <<< 128 % m2 = 0 := by simpa [quotient] using plain
    rw [zero, Nat.cast_zero, zero_div, add_zero]
    rfl
  · have more : m1 <<< 128 % m2 ≠ 0 := by simpa [quotient] using sticky
    have moreQ : (0 : ℚ) < ((m1 <<< 128 % m2 : Nat) : ℚ) := by exact_mod_cast Nat.pos_of_ne_zero more
    exact mul_lt_mul_of_pos_right (lt_add_of_pos_right _ (div_pos moreQ divisor)) unit
  · refine mul_lt_mul_of_pos_right (add_lt_add_right ?_ _) unit
    exact (div_lt_one divisor).mpr rest

theorem signedBy_div (n n' : Bool) (a b : ℚ) : signedBy n a / signedBy n' b = signedBy (n ^^ n') (a / b) := by
  cases n <;> cases n' <;> simp [signedBy, neg_div, div_neg]

/-- R600: the quotient by a number that is not 0. -/
theorem divCell_gives (mode : RMode) {x : Fp} {n : Bool} {m : Nat} {e : Int} {s : Bool} (hx : x.Fits) (some : 0 < m) (small : m < 2 ^ 53) :
    (divCell mode x (.num n m e s)).Gives (x.value / (Fp.num n m e s).value) := by
  rcases hx with ⟨n', rfl⟩ | ⟨n', m', e', s', rfl, some'⟩
  · exact zero_div _
  · exact ⟨_, quotient_means e' e some' some small, by rw [value_num, value_num]; exact signedBy_div ..⟩

end Sys2Proof.Machine
end

section
/-!
PROOFS. Sums, differences, products and quotients (46_fpu.md R594 to R601).
-/

namespace Sys2Proof.Machine

variable {p : Product} {w : Word} {f : Fmt} {b a : DWord} {op : RMode → Fp → Fp → Cell}

theorem forall_pair {α : Type} {x y : α} {q : α → Prop} (hx : q x) (hy : q y) : ∀ z ∈ [x, y], q z := by
  simp [hx, hy]

theorem exists_pair {α : Type} {x y : α} {q : α → Prop} (h : q x ∨ q y) : ∃ z ∈ [x, y], q z := by
  simpa using h

theorem flush_isSnan (x : Fp) : x.flush.isSnan = x.isSnan := by
  cases x with
  | num n m e s => cases s <;> rfl
  | _ => rfl

theorem flush_isQnan (x : Fp) : x.flush.isQnan = x.isQnan := by
  cases x with
  | num n m e s => cases s <;> rfl
  | _ => rfl

theorem flush_isSubnormal (x : Fp) : x.flush.isSubnormal = false := by
  cases x with
  | num n m e s => cases s <;> rfl
  | _ => rfl

/-! ## Operands that are no normal numbers -/

theorem arith_snan (h : (decodeFp f b).isSnan = true ∨ (decodeFp f a).isSnan = true) :
    fpArith2 p w f op b a = ⟨detV, quietNan p f, false⟩ :=
  template_snan (exists_pair h)

theorem arith_qnan (hb : (decodeFp f b).isSnan = false) (ha : (decodeFp f a).isSnan = false)
    (h : (decodeFp f b).isQnan = true ∨ (decodeFp f a).isQnan = true) : fpArith2 p w f op b a = ⟨0, quietNan p f, false⟩ :=
  template_qnan (forall_pair hb ha) (exists_pair h)

/-- R586: the result for operands that are neither NaNs nor subnormal. -/
theorem arith_plain (snanB : (decodeFp f b).isSnan = false) (snanA : (decodeFp f a).isSnan = false)
    (qnanB : (decodeFp f b).isQnan = false) (qnanA : (decodeFp f a).isQnan = false)
    (subB : (decodeFp f b).isSubnormal = false) (subA : (decodeFp f a).isSubnormal = false) : fpArith2 p w f op b a =
      ⟨((op (fpRm w) (decodeFp f b) (decodeFp f a)).eval p w f).1, ((op (fpRm w) (decodeFp f b) (decodeFp f a)).eval p w f).2, false⟩ :=
  template_plain (forall_pair snanB snanA) (forall_pair qnanB qnanA) (forall_pair subB subA)

/-- R585: subnormal operands are flushed, or detect E. -/
theorem arith_subnormal (snanB : (decodeFp f b).isSnan = false) (snanA : (decodeFp f a).isSnan = false)
    (qnanB : (decodeFp f b).isQnan = false) (qnanA : (decodeFp f a).isQnan = false)
    (sub : (decodeFp f b).isSubnormal = true ∨ (decodeFp f a).isSubnormal = true) :
    (w.getLsbD 17 = false → (fpArith2 p w f op b a).det = detE) ∧
      (w.getLsbD 17 = true → fpArith2 p w f op b a = { fpArith2 p w f op (flushedFp f b) (flushedFp f a) with flushed := true }) := by
  constructor
  · intro off
    rw [fpArith2, template_rejects (forall_pair snanB snanA) (forall_pair qnanB qnanA) (exists_pair sub) off rfl]
  · intro on
    rw [arith_plain (b := flushedFp f b) (a := flushedFp f a) (by rwa [decode_flushed, flush_isSnan])
      (by rwa [decode_flushed, flush_isSnan]) (by rwa [decode_flushed, flush_isQnan]) (by rwa [decode_flushed, flush_isQnan])
      (by rw [decode_flushed, flush_isSubnormal]) (by rw [decode_flushed, flush_isSubnormal]), decode_flushed, decode_flushed]
    exact template_flushes (forall_pair snanB snanA) (forall_pair qnanB qnanA) (exists_pair sub) on

/-! ## Numbers -/

/-- A pattern of an infinity, or of a number that is not subnormal. -/
def Fp.Plain (x : Fp) : Prop := x.isSnan = false ∧ x.isQnan = false ∧ x.isSubnormal = false

theorem Fp.Normal.plain {x : Fp} (h : x.Normal) : x.Plain := by
  obtain ⟨finite, plain⟩ := h
  cases x with
  | nan _ => exact finite.elim
  | inf _ => exact finite.elim
  | _ => exact ⟨rfl, rfl, plain⟩

theorem plain_inf {x : Fp} {n : Bool} (h : x = .inf n) : x.Plain := by
  rw [h]
  exact ⟨rfl, rfl, rfl⟩

/-- R586: what the table gives for operands that it is asked for. -/
theorem arith_eval {x y : Fp} (hx : decodeFp f b = x) (hy : decodeFp f a = y) (px : x.Plain) (py : y.Plain) {c : Cell}
    (cell : op (fpRm w) x y = c) : fpArith2 p w f op b a = ⟨(c.eval p w f).1, (c.eval p w f).2, false⟩ := by
  subst hx hy cell
  exact arith_plain px.1 py.1 px.2.1 py.2.1 px.2.2 py.2.2

theorem normal_fits (h : (decodeFp f b).Normal) : (decodeFp f b).Fits := by
  rcases normal_cases h with d | ⟨m, e, d, some, -⟩
  · exact .inl ⟨_, d⟩
  · exact .inr ⟨_, _, _, _, d, some⟩

theorem arith_exactly {v : ℚ} (hb : (decodeFp f b).Normal) (ha : (decodeFp f a).Normal)
    (gives : (op (fpRm w) (decodeFp f b) (decodeFp f a)).Gives v) (ne : v ≠ 0) : (fpArith2 p w f op b a).Exactly f w v := by
  rw [arith_eval (op := op) rfl rfl hb.plain ha.plain rfl]
  exact gives.exactly ne p w f

theorem divide_gives (hb : (decodeFp f b).Normal) (ha : (decodeFp f a).Normal) (ne : (decodeFp f a).value ≠ 0) :
    (divCell (fpRm w) (decodeFp f b) (decodeFp f a)).Gives ((decodeFp f b).value / (decodeFp f a).value) := by
  rcases normal_cases ha with d | ⟨m, e, d, some, small⟩
  · rw [d] at ne
    exact absurd rfl ne
  · rw [d]
    refine divCell_gives _ (normal_fits hb) some (small.trans_le (Nat.pow_le_pow_right (by norm_num) ?_))
    have := f.frac_pos
    omega

theorem least_pos (f : Fmt) : (0 : ℚ) < f.least := zpow_pos (by norm_num) _

theorem inRange_ne {v : ℚ} (h : f.InRange v) : v ≠ 0 := by
  rintro rfl
  rw [Fmt.InRange, value_min, abs_zero] at h
  exact absurd h.1 (not_le.mpr (least_pos f))

/-- R584, R585: a result outside the range of the normal numbers. -/
theorem arith_outside {v : ℚ} (hb : (decodeFp f b).Normal) (ha : (decodeFp f a).Normal)
    (gives : (op (fpRm w) (decodeFp f b) (decodeFp f a)).Gives v) :
    (fpArith2 p w f op b a).Overflows f (fpRm w) v ∧ (fpArith2 p w f op b a).Underflows f w v := by
  by_cases zero : v = 0
  · subst zero
    refine ⟨fun above => ?_, fun ne => absurd rfl ne⟩
    rw [abs_zero, value_max] at above
    exact absurd ((least_pos f).le.trans f.least_le_most) (not_le.mpr above)
  · exact (arith_exactly hb ha gives zero).2

/-- R594: an exact sum of zero. -/
theorem addCell_zero {mode : RMode} {n n' : Bool} {x y : Fp} (hx : x = .zero n ∨ ∃ m e, x = .num n m e false ∧ 0 < m)
    (hy : y = .zero n' ∨ ∃ m e, y = .num n' m e false ∧ 0 < m) (zero : x.value + y.value = 0) :
    addCell mode x y = .zero (if n = n' then n else mode == .neg) := by
  have nonzero {n : Bool} {m : Nat} (e : Int) (some : 0 < m) : (Fp.num n m e false).value ≠ 0 := by
    rw [value_num]
    have positive : (0 : ℚ) < m := by exact_mod_cast some
    exact signedBy_ne_zero (mul_pos positive (zpow_pos (by norm_num) _))
  rcases hx with rfl | ⟨m, e, rfl, some⟩ <;> rcases hy with rfl | ⟨m', e', rfl, some'⟩
  · rw [addCell]
    split <;> rfl
  · exact absurd ((zero_add _).symm.trans zero) (nonzero e' some')
  · exact absurd ((add_zero _).symm.trans zero) (nonzero e some)
  · have gives := addCell_gives mode (x := .num n m e false) (y := .num n' m' e' false) (.inr ⟨_, _, _, _, rfl, some⟩)
      (.inr ⟨_, _, _, _, rfl, some'⟩)
    rw [zero] at gives
    obtain ⟨k, cell⟩ := gives.zero_of
    have apart : n ≠ n' := by
      rintro rfl
      rw [value_num, value_num] at zero
      have positive : (0 : ℚ) < m := by exact_mod_cast some
      have positive' : (0 : ℚ) < m' := by exact_mod_cast some'
      have first := mul_pos positive (zpow_pos (by norm_num : (0 : ℚ) < 2) e)
      have second := mul_pos positive' (zpow_pos (by norm_num : (0 : ℚ) < 2) e')
      cases n <;> simp only [signedBy, Bool.false_eq_true, if_false, if_true] at zero <;> linarith
    rw [if_neg apart, cell]
    rw [addCell] at cell
    split at cell
    · exact cell.symm
    · cases cell

/-- R596: a difference is the sum with the sign of the second operand inverted. -/
theorem sub_eq_add (p : Product) (w : Word) (f : Fmt) (b a : DWord) :
    fpArith2 p w f subCell b a = fpArith2 p w f addCell b (flipSign f a) := by
  rw [fpArith2, fpArith2, decode_flipSign]
  generalize decodeFp f b = x
  cases decodeFp f a with
  | num n m e s => cases s <;> rfl
  | _ => rfl

end Sys2Proof.Machine

open Sys2Proof.Machine

/-- Settles O33: the exact value of each operation is what the model rounds. -/
theorem arithmeticIsCorrectlyRounded : Obligations.ArithmeticIsCorrectlyRounded := by
  intro p w f b a x y grid rounds hb ha subB subA
  have normalB : (decodeFp f b).Normal := ⟨hb, subB⟩
  have normalA : (decodeFp f a).Normal := ⟨ha, subA⟩
  have correct {op : RMode → Fp → Fp → Cell} {v : ℚ} (gives : (op (fpRm w) x y).Gives v) : rounds op v := fun low high =>
    (arith_exactly (p := p) normalB normalA gives (inRange_ne (f := f) ⟨low, high⟩)).1 ⟨low, high⟩
  exact ⟨correct (addCell_gives _ (normal_fits normalB) (normal_fits normalA)),
    correct (subCell_gives _ (normal_fits normalB) (normal_fits normalA)),
    correct (mulCell_gives _ (normal_fits normalB) (normal_fits normalA)), fun ne => correct (divide_gives normalB normalA ne)⟩

/-- Settles O34: the rows of the tables, by the kinds of the operands. -/
theorem arithmeticFollowsItsTables : Obligations.ArithmeticFollowsItsTables := by
  intro p w f b a x y sb sa result gives invalid numbers anyway
  have every (op : RMode → Fp → Fp → Cell) : anyway op :=
    ⟨arith_snan, arith_qnan, fun ⟨snanB, snanA, qnanB, qnanA⟩ sub => arith_subnormal snanB snanA qnanB qnanA sub⟩
  refine ⟨every _, every _, every _, every _, fun hb ha => ?_, fun hb ha => ?_, fun hb ha => ?_, fun hb ha zero => ?_,
    fun hb ha => ?_, fun hb ha => ?_, sub_eq_add .., fun hb ha => ?_⟩
  · have eval {op : RMode → Fp → Fp → Cell} {c : Cell} :=
      arith_eval (p := p) (w := w) (op := op) (c := c) hb ha (plain_inf rfl) (plain_inf rfl)
    refine ⟨?_, eval rfl, eval rfl⟩
    split
    · exact eval (op := addCell) (c := .inf sb) (if_pos ‹_›)
    · exact eval (op := addCell) (c := .invalid) (if_neg ‹_›)
  · have eval {op : RMode → Fp → Fp → Cell} {c : Cell} :=
      arith_eval (p := p) (w := w) (op := op) (c := c) hb rfl (plain_inf rfl) ha.plain
    rcases normal_cases ha with d | ⟨m, e, d, -⟩
    · rw [if_pos d]
      exact ⟨eval (by rw [d]), eval (by rw [d]), eval (by rw [d])⟩
    · rw [if_neg (by rw [show y = _ from d]; nofun)]
      exact ⟨eval (by rw [d]), eval (by rw [d]), eval (by rw [d])⟩
  · have eval {op : RMode → Fp → Fp → Cell} {c : Cell} :=
      arith_eval (p := p) (w := w) (op := op) (c := c) rfl ha hb.plain (plain_inf rfl)
    rcases normal_cases hb with d | ⟨m, e, d, -⟩
    · rw [if_pos d]
      exact ⟨eval (by rw [d]), eval (by rw [d]), eval (by rw [d])⟩
    · rw [if_neg (by rw [show x = _ from d]; nofun)]
      exact ⟨eval (by rw [d]), eval (by rw [d]), eval (by rw [d])⟩
  · refine arith_eval (p := p) (op := addCell) rfl rfl hb.plain ha.plain (c := .zero (if sb = sa then sb else fpRm w == .neg)) ?_
    refine addCell_zero ?_ ?_ zero
    · exact (normal_cases hb).imp id fun ⟨m, e, d, pos, _⟩ => ⟨m, e, d, pos⟩
    · exact (normal_cases ha).imp id fun ⟨m, e, d, pos, _⟩ => ⟨m, e, d, pos⟩
  · have eval {op : RMode → Fp → Fp → Cell} {c : Cell} :=
      arith_eval (p := p) (w := w) (op := op) (c := c) hb rfl ⟨rfl, rfl, rfl⟩ ha.plain
    rcases normal_cases ha with d | ⟨m, e, d, -⟩
    · rw [if_pos d]
      exact ⟨eval (by rw [d]), eval (by rw [d])⟩
    · rw [if_neg (by rw [show y = _ from d]; nofun)]
      exact ⟨eval (by rw [d]), eval (by rw [d])⟩
  · have eval {op : RMode → Fp → Fp → Cell} {c : Cell} :=
      arith_eval (p := p) (w := w) (op := op) (c := c) rfl ha hb.plain ⟨rfl, rfl, rfl⟩
    rcases normal_cases hb with d | ⟨m, e, d, -⟩
    · exact ⟨eval (by rw [d]), fun ne => absurd d ne⟩
    · exact ⟨eval (by rw [d]), fun _ => eval (by rw [d])⟩
  · exact ⟨arith_outside hb ha (addCell_gives _ (normal_fits hb) (normal_fits ha)),
      arith_outside hb ha (subCell_gives _ (normal_fits hb) (normal_fits ha)),
      arith_outside hb ha (mulCell_gives _ (normal_fits hb) (normal_fits ha)), fun ne => arith_outside hb ha (divide_gives hb ha ne)⟩
end

section
/-!
PROOFS. Fused multiply-adds, conversions to floating point, and the tables of one operand (46_fpu.md R606 to R615, 47_fpu.md R641).
-/

namespace Sys2Proof.Machine

variable {p : Product} {w : Word} {f : Fmt} {a b c : DWord}

/-! ## One operand -/

section
variable {dst : Fmt} {first : Bool} {table : List Fp → FpDet × DWord}

theorem template_one_snan (h : (decodeFp f a).isSnan = true) :
    fpTemplate p w dst [decodeFp f a] first table = ⟨detV, quietNan p dst, false⟩ :=
  template_snan ⟨_, List.mem_singleton_self _, h⟩

theorem not_snan_of_qnan {x : Fp} (h : x.isQnan = true) : x.isSnan = false := by
  cases x with
  | nan sig =>
    cases sig
    · rfl
    · cases h
  | _ => cases h

theorem template_one_qnan (h : (decodeFp f a).isQnan = true) :
    fpTemplate p w dst [decodeFp f a] first table = ⟨0, quietNan p dst, false⟩ :=
  template_qnan (List.forall_mem_singleton.mpr (not_snan_of_qnan h)) ⟨_, List.mem_singleton_self _, h⟩

theorem template_one_plain {x : Fp} (h : decodeFp f a = x) (plain : x.Plain) :
    fpTemplate p w dst [decodeFp f a] first table = ⟨(table [x]).1, (table [x]).2, false⟩ := by
  rw [h]
  exact template_plain (List.forall_mem_singleton.mpr plain.1) (List.forall_mem_singleton.mpr plain.2.1)
    (List.forall_mem_singleton.mpr plain.2.2)

theorem subnormal_eq (h : (decodeFp f a).isSubnormal = true) : ∃ m e, decodeFp f a = .num (signBit f a) m e true := by
  rcases decode_cases f a with ⟨_, d⟩ | d | d | ⟨m, e, d, -⟩ | ⟨m, e, d, -⟩
  · rw [d] at h
    cases h
  · rw [d] at h
    cases h
  · rw [d] at h
    cases h
  · exact ⟨m, e, d⟩
  · rw [d] at h
    cases h

/-- R585: a subnormal operand is flushed, or detects E. -/
theorem template_one_subnormal (h : (decodeFp f a).isSubnormal = true) :
    (w.getLsbD 17 = false → fpTemplate p w dst [decodeFp f a] false table = ⟨detE, 0, false⟩) ∧
      (w.getLsbD 17 = true → fpTemplate p w dst [decodeFp f a] first table =
        ⟨(table [.zero (signBit f a)]).1, (table [.zero (signBit f a)]).2, true⟩) := by
  obtain ⟨m, e, d⟩ := subnormal_eq h
  rw [d]
  have noSnan : ∀ x ∈ [Fp.num (signBit f a) m e true], x.isSnan = false := List.forall_mem_singleton.mpr rfl
  have noQnan : ∀ x ∈ [Fp.num (signBit f a) m e true], x.isQnan = false := List.forall_mem_singleton.mpr rfl
  have sub : ∃ x ∈ [Fp.num (signBit f a) m e true], x.isSubnormal = true := ⟨_, List.mem_singleton_self _, rfl⟩
  exact ⟨fun off => template_rejects noSnan noQnan sub off rfl, fun on => template_flushes noSnan noQnan sub on⟩

end

/-! ## Operands that are no NaN -/

/-- An infinity or a number with its sign. -/
def Fp.Signed (x : Fp) (n : Bool) : Prop := x = .inf n ∨ x = .zero n ∨ ∃ m e s, x = .num n m e s ∧ 0 < m

theorem signed_of (snan : (decodeFp f a).isSnan = false) (qnan : (decodeFp f a).isQnan = false) : (decodeFp f a).Signed (signBit f a) := by
  rcases decode_cases f a with ⟨sig, d⟩ | d | d | ⟨m, e, d, some, -⟩ | ⟨m, e, d, some, -⟩
  · rw [d] at snan qnan
    cases sig
    · cases qnan
    · cases snan
  · exact .inl d
  · exact .inr (.inl d)
  · exact .inr (.inr ⟨m, e, _, d, some⟩)
  · exact .inr (.inr ⟨m, e, _, d, some⟩)

theorem Fp.Signed.flush {x : Fp} {n : Bool} (h : x.Signed n) : x.flush.Signed n := by
  rcases h with rfl | rfl | ⟨m, e, s, rfl, some⟩
  · exact .inl rfl
  · exact .inr (.inl rfl)
  · cases s
    · exact .inr (.inr ⟨m, e, _, rfl, some⟩)
    · exact .inr (.inl rfl)

theorem Fp.Signed.fits {x : Fp} {n : Bool} (h : x.Signed n) (ne : x ≠ .inf n) : x.Fits := by
  rcases h with h | h | ⟨m, e, s, h, some⟩
  · exact absurd h ne
  · exact .inl ⟨n, h⟩
  · exact .inr ⟨n, m, e, s, h, some⟩

/-- R612: the addend with its sign. -/
def addend (sub : Bool) (z : Fp) : Fp := if sub then z.negate else z

theorem Fp.Signed.addend {z : Fp} {n : Bool} (h : z.Signed n) (sub : Bool) : (addend sub z).Signed (n ^^ sub) := by
  cases sub
  · rw [Bool.xor_false]
    exact h
  · rw [Bool.xor_true]
    rcases h with rfl | rfl | ⟨m, e, s, rfl, some⟩
    · exact .inl rfl
    · exact .inr (.inl rfl)
    · exact .inr (.inr ⟨m, e, s, rfl, some⟩)

theorem addend_inf {z : Fp} {n : Bool} (h : z.Signed n) (sub : Bool) : addend sub z = .inf (n ^^ sub) ↔ z = .inf n := by
  rcases h with rfl | rfl | ⟨m, e, s, rfl, some⟩ <;> cases sub <;> cases n <;> simp [Machine.addend, Fp.negate]

theorem addend_value (sub : Bool) (z : Fp) : (addend sub z).value = if sub then -z.value else z.value := by
  cases sub
  · rfl
  · exact negate_value z

section
variable {x y z : Fp} {n n' k sub : Bool} {mode : RMode}

/-- R612: zero times infinity. -/
def ZeroTimesInf (x y : Fp) (n n' : Bool) : Prop := (x = .zero n ∧ y = .inf n') ∨ (x = .inf n ∧ y = .zero n')

theorem mulFp_none (h : ZeroTimesInf x y n n') : mulFp x y = none := by
  rcases h with ⟨rfl, rfl⟩ | ⟨rfl, rfl⟩ <;> rfl

theorem mulFp_inf (hx : x.Signed n) (hy : y.Signed n') (inf : x = .inf n ∨ y = .inf n') (ok : ¬ ZeroTimesInf x y n n') :
    mulFp x y = some (.inf (n ^^ n')) := by
  rcases hx with rfl | rfl | ⟨m, e, s, rfl, some⟩
  · rcases hy with rfl | rfl | ⟨m', e', s', rfl, some'⟩
    · rfl
    · exact absurd (.inr ⟨rfl, rfl⟩) ok
    · rfl
  · rcases inf with no | rfl
    · cases no
    · exact absurd (.inl ⟨rfl, rfl⟩) ok
  · rcases inf with no | rfl
    · cases no
    · rfl

theorem mulFp_finite (hx : x.Signed n) (hy : y.Signed n') (nx : x ≠ .inf n) (ny : y ≠ .inf n') :
    ∃ t, mulFp x y = some t ∧ t.value = x.value * y.value ∧
      (t = .zero (n ^^ n') ∨ ∃ m e, t = .num (n ^^ n') m e false ∧ 0 < m) := by
  obtain ⟨t, product, -, value⟩ := mulFp_gives (hx.fits nx) (hy.fits ny)
  refine ⟨t, product, value, ?_⟩
  rcases hx with rfl | rfl | ⟨m, e, s, rfl, some⟩
  · exact absurd rfl nx
  · rcases hy with rfl | rfl | ⟨m', e', s', rfl, some'⟩
    · exact absurd rfl ny
    · exact .inl (Option.some.inj product).symm
    · exact .inl (Option.some.inj product).symm
  · rcases hy with rfl | rfl | ⟨m', e', s', rfl, some'⟩
    · exact absurd rfl ny
    · exact .inl (Option.some.inj product).symm
    · exact .inr ⟨_, _, (Option.some.inj product).symm, Nat.mul_pos some some'⟩

theorem fmaCell_some {t : Fp} (h : mulFp x y = some t) : fmaCell mode sub x y z = addCell mode t (addend sub z) := by
  rw [fmaCell, h]
  rfl

/-- R612: an invalid operation. -/
def FmaInvalid (x y z : Fp) (n n' k sub : Bool) : Prop :=
  ZeroTimesInf x y n n' ∨ ((x = .inf n ∨ y = .inf n') ∧ z = .inf k ∧ (n ^^ n') ≠ (k ^^ sub))

section
variable (hx : x.Signed n) (hy : y.Signed n') (hz : z.Signed k)
include hx hy hz

theorem fmaCell_invalid (h : FmaInvalid x y z n n' k sub) : fmaCell mode sub x y z = .invalid := by
  by_cases none : ZeroTimesInf x y n n'
  · rw [fmaCell, mulFp_none none]
    rfl
  · obtain ⟨inf, infZ, apart⟩ := h.resolve_left none
    rw [fmaCell_some (mulFp_inf hx hy inf none), (addend_inf hz sub).mpr infZ]
    exact if_neg apart

theorem fmaCell_inf (h : ¬ FmaInvalid x y z n n' k sub) (inf : x = .inf n ∨ y = .inf n') : fmaCell mode sub x y z = .inf (n ^^ n') := by
  obtain ⟨ok, noInf⟩ := not_or.mp h
  rw [fmaCell_some (mulFp_inf hx hy inf ok)]
  rcases hz.addend sub with d | d | ⟨m, e, s, d, -⟩ <;> rw [d]
  · have same : (n ^^ n') = (k ^^ sub) := by
      by_contra apart
      exact noInf ⟨inf, (addend_inf hz sub).mp d, apart⟩
    exact if_pos same
  · rfl
  · rfl

theorem fmaCell_addend (nx : x ≠ .inf n) (ny : y ≠ .inf n') (infZ : z = .inf k) : fmaCell mode sub x y z = .inf (k ^^ sub) := by
  obtain ⟨t, product, -, rfl | ⟨m, e, rfl, -⟩⟩ := mulFp_finite hx hy nx ny <;>
    rw [fmaCell_some product, (addend_inf hz sub).mpr infZ] <;> rfl

theorem fmaCell_gives (nx : x ≠ .inf n) (ny : y ≠ .inf n') (nz : z ≠ .inf k) :
    (fmaCell mode sub x y z).Gives (x.value * y.value + if sub then -z.value else z.value) := by
  obtain ⟨t, product, value, kind⟩ := mulFp_finite hx hy nx ny
  rw [fmaCell_some product, ← value, ← addend_value]
  refine addCell_gives _ (kind.imp (fun h => ⟨_, h⟩) fun ⟨m, e, h, pos⟩ => ⟨_, _, _, _, h, pos⟩) ?_
  exact (hz.addend sub).fits (mt (addend_inf hz sub).mp nz)

/-- R612: an exact zero. -/
theorem fmaCell_zero (nx : x ≠ .inf n) (ny : y ≠ .inf n') (plainZ : z = .zero k ∨ ∃ m e, z = .num k m e false ∧ 0 < m)
    (zero : (x.value * y.value + if sub then -z.value else z.value) = 0) :
    fmaCell mode sub x y z = .zero (if (n ^^ n') = (k ^^ sub) then n ^^ n' else mode == .neg) := by
  obtain ⟨t, product, value, kind⟩ := mulFp_finite hx hy nx ny
  rw [fmaCell_some product]
  refine addCell_zero kind ?_ (by rw [value, addend_value, zero])
  rcases plainZ with rfl | ⟨m, e, rfl, some⟩ <;> cases sub <;> simp [Machine.addend, Fp.negate, *]

/-- R612: only an invalid operation is in an invalid cell. -/
theorem fmaCell_invalid_iff : (fmaCell mode sub x y z == .invalid) = true ↔ FmaInvalid x y z n n' k sub := by
  refine ⟨fun cell => ?_, fun h => beq_iff_eq.mpr (fmaCell_invalid hx hy hz h)⟩
  rw [beq_iff_eq] at cell
  by_contra ok
  by_cases inf : x = .inf n ∨ y = .inf n'
  · rw [fmaCell_inf hx hy hz ok inf] at cell
    cases cell
  · obtain ⟨nx, ny⟩ := not_or.mp inf
    by_cases infZ : z = .inf k
    · rw [fmaCell_addend hx hy hz nx ny infZ] at cell
      cases cell
    · have gives := fmaCell_gives (mode := mode) (sub := sub) hx hy hz nx ny infZ
      rw [cell] at gives
      exact gives

end

theorem FmaInvalid.flush (h : FmaInvalid x y z n n' k sub) : FmaInvalid x.flush y.flush z.flush n n' k sub := by
  rcases h with (⟨rfl, rfl⟩ | ⟨rfl, rfl⟩) | ⟨rfl | rfl, rfl, apart⟩
  · exact .inl (.inl ⟨rfl, rfl⟩)
  · exact .inl (.inr ⟨rfl, rfl⟩)
  · exact .inr ⟨.inl rfl, rfl, apart⟩
  · exact .inr ⟨.inr rfl, rfl, apart⟩

end

/-! ## The fused multiply-add -/

/-- R612: the table of the fused multiply-add. -/
def fmaTable (p : Product) (w : Word) (sub : Bool) (x y z : Fp) : FpDet × DWord := (fmaCell (fpRm w) sub x y z).eval p w .single

/-- R612: the table of the template. -/
def fmaRows (p : Product) (w : Word) (sub : Bool) : List Fp → FpDet × DWord
  | [x, y, z] => fmaTable p w sub x y z
  | _ => (0, 0)

theorem fma_template (p : Product) (w : Word) (sub : Bool) (b a c : DWord) : fpFma p w sub false b a c =
    fpTemplate p w .single [decodeFp .single b, decodeFp .single a, decodeFp .single c]
      (fmaCell (fpRm w) sub (decodeFp .single b) (decodeFp .single a) (decodeFp .single c) == .invalid) (fmaRows p w sub) := rfl

theorem forall_three {x y z : Fp} {q : Fp → Bool} (h : ¬ (q x = true ∨ q y = true ∨ q z = true)) : ∀ u ∈ [x, y, z], q u = false := by
  simpa using h

theorem exists_three {x y z : Fp} {q : Fp → Bool} (h : q x = true ∨ q y = true ∨ q z = true) : ∃ u ∈ [x, y, z], q u = true := by
  simpa using h

section
variable {sub : Bool}

theorem fma_snan (h : (decodeFp .single b).isSnan = true ∨ (decodeFp .single a).isSnan = true ∨ (decodeFp .single c).isSnan = true) :
    fpFma p w sub false b a c = ⟨detV, quietNan p .single, false⟩ :=
  (fma_template ..).trans (template_snan (exists_three h))

variable (noSnan : ¬ ((decodeFp .single b).isSnan = true ∨ (decodeFp .single a).isSnan = true ∨ (decodeFp .single c).isSnan = true))
include noSnan

theorem fma_qnan (h : (decodeFp .single b).isQnan = true ∨ (decodeFp .single a).isQnan = true ∨ (decodeFp .single c).isQnan = true) :
    fpFma p w sub false b a c = ⟨0, quietNan p .single, false⟩ :=
  (fma_template ..).trans (template_qnan (forall_three noSnan) (exists_three h))

variable (noQnan : ¬ ((decodeFp .single b).isQnan = true ∨ (decodeFp .single a).isQnan = true ∨ (decodeFp .single c).isQnan = true))
include noQnan

theorem fma_plain
    (plain : ¬ ((decodeFp .single b).isSubnormal = true ∨ (decodeFp .single a).isSubnormal = true ∨
      (decodeFp .single c).isSubnormal = true)) :
    fpFma p w sub false b a c = ⟨(fmaTable p w sub (decodeFp .single b) (decodeFp .single a) (decodeFp .single c)).1,
      (fmaTable p w sub (decodeFp .single b) (decodeFp .single a) (decodeFp .single c)).2, false⟩ :=
  (fma_template ..).trans (template_plain (forall_three noSnan) (forall_three noQnan) (forall_three plain))

theorem fma_signs : (decodeFp .single b).Signed (signBit .single b) ∧ (decodeFp .single a).Signed (signBit .single a) ∧
    (decodeFp .single c).Signed (signBit .single c) := by
  have snan := forall_three noSnan
  have qnan := forall_three noQnan
  simp only [List.forall_mem_cons] at snan qnan
  exact ⟨signed_of snan.1 qnan.1, signed_of snan.2.1 qnan.2.1, signed_of snan.2.2.1 qnan.2.2.1⟩

theorem fma_numbers : fpFma p w sub false b a c =
    if ([decodeFp .single b, decodeFp .single a, decodeFp .single c].any Fp.isSubnormal && !fpFs w &&
      !(fmaCell (fpRm w) sub (decodeFp .single b) (decodeFp .single a) (decodeFp .single c) == .invalid)) = true then ⟨detE, 0, false⟩
    else ⟨(fmaTable p w sub (decodeFp .single b).flush (decodeFp .single a).flush (decodeFp .single c).flush).1,
      (fmaTable p w sub (decodeFp .single b).flush (decodeFp .single a).flush (decodeFp .single c).flush).2,
      [decodeFp .single b, decodeFp .single a, decodeFp .single c].any Fp.isSubnormal && fpFs w⟩ :=
  (fma_template ..).trans (template_numbers (forall_three noSnan) (forall_three noQnan))

/-- R612: an invalid operation detects V, beside a subnormal operand too. -/
theorem fma_invalid (h : FmaInvalid (decodeFp .single b) (decodeFp .single a) (decodeFp .single c) (signBit .single b)
    (signBit .single a) (signBit .single c) sub) :
    (fpFma p w sub false b a c).det = detV ∧ (fpFma p w sub false b a c).val = quietNan p .single := by
  obtain ⟨hx, hy, hz⟩ := fma_signs noSnan noQnan
  rw [fma_numbers noSnan noQnan, (fmaCell_invalid_iff hx hy hz).mpr h, Bool.not_true, Bool.and_false, if_neg Bool.false_ne_true, fmaTable,
    fmaCell_invalid hx.flush hy.flush hz.flush h.flush]
  exact ⟨rfl, rfl⟩

/-- R585: a subnormal operand. -/
theorem fma_subnormal (ok : ¬ FmaInvalid (decodeFp .single b) (decodeFp .single a) (decodeFp .single c) (signBit .single b)
    (signBit .single a) (signBit .single c) sub)
    (some : (decodeFp .single b).isSubnormal = true ∨ (decodeFp .single a).isSubnormal = true ∨
      (decodeFp .single c).isSubnormal = true) :
    (w.getLsbD 17 = false → (fpFma p w sub false b a c).det = detE) ∧
      (w.getLsbD 17 = true → fpFma p w sub false b a c =
        { fpFma p w sub false (flushedFp .single b) (flushedFp .single a) (flushedFp .single c) with flushed := true }) := by
  obtain ⟨hx, hy, hz⟩ := fma_signs noSnan noQnan
  have notFirst : (fmaCell (fpRm w) sub (decodeFp .single b) (decodeFp .single a) (decodeFp .single c) == .invalid) = false :=
    Bool.eq_false_iff.mpr (mt (fmaCell_invalid_iff hx hy hz).mp ok)
  have run := fma_numbers (p := p) (w := w) (sub := sub) noSnan noQnan
  rw [List.any_eq_true.mpr (exists_three some), notFirst] at run
  constructor
  · intro off
    rw [run, fpFs, off]
    rfl
  · intro on
    rw [run, fpFs, on, fma_plain (b := flushedFp .single b) (a := flushedFp .single a) (c := flushedFp .single c)]
    · simp only [decode_flushed]
      rfl
    · simpa only [decode_flushed, flush_isSnan] using noSnan
    · simpa only [decode_flushed, flush_isQnan] using noQnan
    · simp only [decode_flushed, flush_isSubnormal]
      decide

end

/-! ## Conversions to integers of special operands -/

section
variable {mode : Option RMode} {signed : Bool} {width : Nat}

theorem toInt_nan {sig : Bool} (d : decodeFp f a = .nan sig) :
    fpToInt w f mode signed width a = ⟨detV, BitVec.ofInt 64 (intMin signed width), false⟩ := by
  simp only [fpToInt, d]

theorem toInt_inf {n : Bool} (d : decodeFp f a = .inf n) : fpToInt w f mode signed width a =
    ⟨detV, BitVec.ofInt 64 (if n then intMin signed width else intMax signed width), false⟩ := by
  simp only [fpToInt, d]

theorem toInt_zero {n : Bool} (d : decodeFp f a = .zero n) : fpToInt w f mode signed width a = ⟨0, 0, false⟩ := by
  simp only [fpToInt, d]

theorem toInt_subnormal {n : Bool} {m : Nat} {e : Int} (d : decodeFp f a = .num n m e true) :
    fpToInt w f mode signed width a = if w.getLsbD 17 then ⟨0, 0, true⟩ else ⟨detE, 0, false⟩ := by
  simp only [fpToInt, d, if_true]
  rfl

end

/-! ## Reciprocals below the range -/

theorem Exact.means_recip {neg : Bool} {m : Nat} {e : Int} (some : 0 < m) (small : m < 2 ^ 53) :
    (quotient neg 1 0 m e).Means (1 / ((m : ℚ) * 2 ^ e)) := by
  have means := quotient_means (neg := neg) 0 e Nat.one_pos some small
  simpa using means

theorem recip_value (n : Bool) (m : Nat) (e : Int) (s : Bool) : 1 / (Fp.num n m e s).value = signedBy n (1 / ((m : ℚ) * 2 ^ e)) := by
  rw [value_num]
  cases n
  · rfl
  · exact one_div_neg_eq_neg_one_div _

theorem small_mantissa {m : Nat} (h : m < 2 ^ (f.frac + 1)) : m < 2 ^ 53 :=
  h.trans_le (Nat.pow_le_pow_right (by norm_num) (Nat.succ_le_succ f.frac_pos.2))

/-- R734: a reciprocal below the smallest normal number. -/
theorem recip_below {k : Option Int} (normal : (decodeFp f a).Normal) (ne : (decodeFp f a).value ≠ 0)
    (below : |1 / (decodeFp f a).value| < f.least) : ∃ r : FpRes, r.Underflows f w (1 / (decodeFp f a).value) ∧
      fpRecip p w f recipCell k a = { r with det := r.det ||| detI } := by
  rcases normal_cases normal with d | ⟨m, e, d, some, small⟩
  · rw [d] at ne
    exact absurd rfl ne
  · rw [d, recip_value] at below ⊢
    have means := Exact.means_recip (neg := signBit f a) (e := e) some (small_mantissa small)
    refine ⟨_, means.roundRes_underflows w f, ?_⟩
    have low : 1 / ((m : ℚ) * 2 ^ e) < f.least := by
      rwa [abs_signedBy, abs_of_pos means.pos] at below
    rw [fpRecip, template_one_plain d ⟨rfl, rfl, rfl⟩, roundRes, means.roundFp_below w f low]
    dsimp only
    rw [recipCell]
    simp only [if_pos ((means.top_lt_iff _).mpr low)]

end Sys2Proof.Machine

open Sys2Proof.Machine

/-- Settles O36: the rows of the tables, by the kinds of the operands. -/
theorem rootsAndConversionsFollowTheirTables : Obligations.RootsAndConversionsFollowTheirTables := by
  refine ⟨fun p w f k a => ?_, fun p w sub b a c => ?_, fun w f mode signed width a _ => ?_⟩
  · intro x neg tables root recip rsqrt
    have every (table : List Fp → FpDet × Sys2Proof.DWord) : tables fun a => fpTemplate p w f [decodeFp f a] false table := by
      refine ⟨template_one_snan, template_one_qnan, fun sub => ?_⟩
      obtain ⟨off, on⟩ := template_one_subnormal (p := p) (w := w) (dst := f) (first := false) (table := table) sub
      refine ⟨fun h => congrArg FpRes.det (off h), fun h => ?_⟩
      dsimp only
      rw [on h, template_one_plain (decode_zero f neg) ⟨rfl, rfl, rfl⟩]
    refine ⟨every _, every _, every _, fun d => ?_, fun d => ?_, fun h => ?_, fun normal ne below => ?_⟩
    · exact ⟨template_one_plain d ⟨rfl, rfl, rfl⟩, template_one_plain d ⟨rfl, rfl, rfl⟩, template_one_plain d ⟨rfl, rfl, rfl⟩⟩
    · refine ⟨template_one_plain d ⟨rfl, rfl, rfl⟩, fun pos => ?_⟩
      rw [pos] at d
      exact ⟨template_one_plain d ⟨rfl, rfl, rfl⟩, template_one_plain d ⟨rfl, rfl, rfl⟩⟩
    · have negative : ∃ m e, x = .inf true ∨ x = .num true m e false := by
        rcases h with d | ⟨normal, less⟩
        · exact ⟨0, 0, .inl d⟩
        · rcases normal_cases normal with d | ⟨m, e, d, some, -⟩
          · rw [show x = _ from d] at less
            exact absurd less (lt_irrefl 0)
          · refine ⟨m, e, .inr ?_⟩
            rw [show x = _ from d, value_num] at less
            cases n : signBit f a
            · rw [n] at less
              exact absurd less (not_lt.mpr (mul_nonneg (Nat.cast_nonneg _) (zpow_nonneg (by norm_num) _)))
            · exact d.trans (by rw [n])
      obtain ⟨m, e, d | d⟩ := negative
      · exact ⟨template_one_plain d ⟨rfl, rfl, rfl⟩, template_one_plain d ⟨rfl, rfl, rfl⟩⟩
      · exact ⟨template_one_plain d ⟨rfl, rfl, rfl⟩, template_one_plain d ⟨rfl, rfl, rfl⟩⟩
    · rw [value_min] at below
      exact recip_below normal ne below
  · intro x y z product addend r any xInf yInf zInf xZero yZero invalid
    refine ⟨fma_snan, fma_qnan, fun noSnan noQnan => ?_⟩
    obtain ⟨hx, hy, hz⟩ := fma_signs noSnan noQnan
    have same : invalid ↔ FmaInvalid x y z (signBit .single b) (signBit .single a) (signBit .single c) sub := or_assoc.symm
    refine ⟨fun h => fma_invalid noSnan noQnan (same.mp h), fun ok => fma_subnormal noSnan noQnan (mt same.mpr ok),
      fun plain ok inf => ?_, fun plain nx ny infZ => ?_⟩
    · exact (fma_plain noSnan noQnan plain).trans (by rw [fmaTable, fmaCell_inf hx hy hz (mt same.mpr ok) inf]; rfl)
    · exact (fma_plain noSnan noQnan plain).trans (by rw [fmaTable, fmaCell_addend hx hy hz nx ny infZ]; rfl)
  · intro x r least
    refine ⟨fun nan => ?_, fun d => ?_, fun d => ?_, fun d => ?_, fun sub => ?_⟩
    · have d : ∃ sig, decodeFp f a = .nan sig := by
        rcases nan with h | h
        all_goals
          rcases decode_cases f a with d | d | d | ⟨m, e, d, -⟩ | ⟨m, e, d, -⟩
          · exact d
          all_goals cases (congrArg _ d).symm.trans h
      obtain ⟨sig, d⟩ := d
      exact toInt_nan d
    · exact toInt_inf d
    · exact toInt_inf d
    · exact toInt_zero d
    · obtain ⟨m, e, d⟩ := subnormal_eq sub
      have run : r = _ := toInt_subnormal d
      refine ⟨fun off => ?_, fun on => ?_⟩
      · rw [run, off]
        rfl
      · rw [run, on]
        rfl
end

section
/-!
PROOFS. What is rounded once: fused multiply-adds and conversions to floating point (46_fpu.md R612 to R615, 47_fpu.md R641).
-/

namespace Sys2Proof.Machine

variable {p : Product} {w : Word} {f : Fmt} {a b c : DWord}

/-- No range of the results holds zero. -/
theorem exactly_zero (r : FpRes) (f : Fmt) (w : Word) : r.Exactly f w 0 := by
  refine ⟨fun range => absurd rfl (inRange_ne range), fun above => ?_, fun ne => absurd rfl ne⟩
  rw [abs_zero, value_max] at above
  exact absurd ((least_pos f).le.trans f.least_le_most) (not_le.mpr above)

theorem Cell.Gives.exactly_always {c : Cell} {v : ℚ} (h : c.Gives v) (p : Product) (w : Word) (f : Fmt) :
    FpRes.Exactly ⟨(c.eval p w f).1, (c.eval p w f).2, false⟩ f w v := by
  by_cases zero : v = 0
  · subst zero
    exact exactly_zero _ f w
  · exact h.exactly zero p w f

/-! ## The fused multiply-add of normal numbers -/

theorem Fp.Normal.signed (h : (decodeFp f a).Normal) : (decodeFp f a).Signed (signBit f a) :=
  signed_of h.plain.1 h.plain.2.1

theorem Fp.Normal.ne_inf {x : Fp} {n : Bool} (h : x.Normal) : x ≠ .inf n := by
  rintro rfl
  exact h.1

theorem fma_normal {sub : Bool} (hb : (decodeFp .single b).Normal) (ha : (decodeFp .single a).Normal) (hc : (decodeFp .single c).Normal) :
    fpFma p w sub false b a c = ⟨(fmaTable p w sub (decodeFp .single b) (decodeFp .single a) (decodeFp .single c)).1,
      (fmaTable p w sub (decodeFp .single b) (decodeFp .single a) (decodeFp .single c)).2, false⟩ := by
  refine fma_plain ?_ ?_ ?_
  · simp [hb.plain.1, ha.plain.1, hc.plain.1]
  · simp [hb.plain.2.1, ha.plain.2.1, hc.plain.2.1]
  · simp [hb.2, ha.2, hc.2]

/-! ## Numbers that a format holds -/

section
variable {x : Exact} {y : ℚ} {q man : Nat} {exp : Int} {inexact : Bool} {mode : RMode}

/-- R586: a number of the precision is not changed. -/
theorem Exact.RoundsTo.exact (h : x.RoundsTo q mode y man exp inexact) (rep : Rep (q + 1) y) :
    (man : ℚ) * 2 ^ exp = y ∧ inexact = false := by
  have same : (man : ℚ) * 2 ^ exp = y := le_antisymm (h.le rep le_rfl) (h.ge rep le_rfl)
  exact ⟨same, Bool.eq_false_iff.mpr fun i => h.inexact.mp i same⟩

/-- R586: a normal number of the format is given as it is. -/
theorem Exact.Means.roundFp_exact (h : x.Means y) (w : Word) (f : Fmt) (rep : Rep (f.frac + 1) y) (least : f.least ≤ y)
    (most : y ≤ f.most) :
    ∃ m e, (roundFp w f x).1 = 0 ∧ decodeFp f (roundFp w f x).2 = .num x.neg m e false ∧ (m : ℚ) * 2 ^ e = y ∧
      signBit f (roundFp w f x).2 = x.neg := by
  obtain ⟨man, exp, inexact, rounds, fits, round⟩ := h.roundFp_within w f least most
  obtain ⟨same, plain⟩ := rounds.exact rep
  have bias := f.two_bias
  have size := f.emin_eq
  have high := rounds.high
  rw [pow_succ] at high
  refine ⟨man, exp, ?_, ?_, same, ?_⟩ <;> rw [round]
  · rw [plain]
    rfl
  · exact decode_normal f x.neg ⟨rounds.low, rounds.high⟩ fits
  · exact packFp_sign f x.neg (by omega) (by omega)

end

/-- R582: the exponents of a format. -/
theorem decode_exponent {n s : Bool} {m : Nat} {e : Int} (d : decodeFp f a = .num n m e s) :
    f.emin - f.frac ≤ e ∧ e ≤ f.bias - f.frac ∧ 0 < m ∧ m < 2 ^ (f.frac + 1) := by
  have small := fracOf_lt f a
  have exponent := expOf_lt f a
  have size : 2 ^ (f.frac + 1) = 2 ^ f.frac + 2 ^ f.frac := by rw [pow_succ]; omega
  have bias := f.two_bias
  have positive := f.bias_pos
  have least := f.emin_eq
  rw [decodeFp_eq, fpOf] at d
  split at d
  · split at d <;> cases d
  · split at d
    · split at d
      · cases d
      · cases d
        omega
    · cases d
      omega

theorem Fmt.le_most {K : Type} [Field K] [LinearOrder K] [IsStrictOrderedRing K] (f : Fmt) {n : Int} (h : n ≤ f.bias) :
    (2 : K) ^ n ≤ f.most := by
  have two := Nat.one_le_two_pow (n := f.frac)
  refine (exponent_iff (q := f.frac) ?_ ?_ _).mp ?_
  · rw [pow_succ]
    omega
  · rw [pow_succ]
    omega
  · omega

/-! ## Half precision -/

/-- R684: a half-precision number is a normal number of single precision. -/
theorem half_range {n s : Bool} {m : Nat} {e : Int} (d : decodeFp .half a = .num n m e s) :
    Rep 24 ((m : ℚ) * 2 ^ e) ∧ Fmt.least .single ≤ (m : ℚ) * 2 ^ e ∧ (m : ℚ) * 2 ^ e ≤ Fmt.most .single := by
  obtain ⟨low, high, some, small⟩ := decode_exponent d
  change (-24 : Int) ≤ e at low
  change e ≤ (5 : Int) at high
  change m < 2 ^ 11 at small
  have unit : (0 : ℚ) < 2 ^ e := zpow_pos (by norm_num) _
  have someQ : (1 : ℚ) ≤ m := by exact_mod_cast some
  have smallQ : (m : ℚ) ≤ 2 ^ 11 := by exact_mod_cast small.le
  refine ⟨rep_nat _ (small.trans (by norm_num)), ?_, ?_⟩
  · calc Fmt.least .single ≤ (2 : ℚ) ^ (-24 : Int) := zpow_le_zpow_right₀ (by norm_num) (by decide)
      _ ≤ 2 ^ e := zpow_le_zpow_right₀ (by norm_num) low
      _ ≤ m * 2 ^ e := le_mul_of_one_le_left unit.le someQ
  · calc (m : ℚ) * 2 ^ e ≤ 2 ^ 11 * 2 ^ (5 : Int) :=
        mul_le_mul smallQ (zpow_le_zpow_right₀ (by norm_num) high) unit.le (by norm_num)
      _ = 2 ^ (16 : Int) := by norm_num
      _ ≤ Fmt.most .single := Fmt.le_most .single (by decide)

theorem signBit_half (h : Half) : signBit .half (h.setWidth 64) = h.getLsbD 15 := by
  rw [signBit, BitVec.getLsbD_setWidth]
  rfl

/-! ## The width of the results -/

/-- R641: a pattern of a format has no bit above its width. -/
def Fmt.Wide (f : Fmt) (v : DWord) : Prop := v.toNat < 2 ^ (f.frac + f.ebits + 1)

theorem packFp_wide (f : Fmt) (neg : Bool) {e fr : Nat} (he : e < 2 ^ f.ebits) (hfr : fr < 2 ^ f.frac) : f.Wide (packFp f neg e fr) := by
  rw [Fmt.Wide, packFp_toNat f neg he hfr]
  have := Bool.toNat_le neg
  cases f <;> simp only [Fmt.frac, Fmt.ebits] at * <;> omega

theorem zeroFp_wide (f : Fmt) (neg : Bool) : f.Wide (zeroFp f neg) := packFp_wide f neg (by positivity) (by positivity)

theorem infFp_wide (f : Fmt) (neg : Bool) : f.Wide (infFp f neg) := by
  have := f.two_bias
  exact packFp_wide f neg (by omega) (by positivity)

theorem maxFp_wide (f : Fmt) (neg : Bool) : f.Wide (maxFp f neg) := by
  have := f.two_bias
  exact packFp_wide f neg (by omega) (Nat.sub_lt (by positivity) (by norm_num))

theorem minFp_wide (f : Fmt) (neg : Bool) : f.Wide (minFp f neg) := by
  have := f.two_bias
  exact packFp_wide f neg (by omega) (by positivity)

theorem overflowFp_wide (f : Fmt) (mode : RMode) (neg : Bool) : f.Wide (overflowFp f mode neg) := by
  cases mode <;> cases neg
  · exact infFp_wide _ _
  · exact infFp_wide _ _
  · exact maxFp_wide _ _
  · exact maxFp_wide _ _
  · exact infFp_wide _ _
  · exact maxFp_wide _ _
  · exact maxFp_wide _ _
  · exact infFp_wide _ _

theorem flushOut_wide (w : Word) (f : Fmt) (x : Exact) : f.Wide (flushOut w f x).2 := by
  have zero : f.Wide 0 := by rw [Fmt.Wide]; exact Nat.pow_pos (by norm_num)
  rw [flushOut]
  split
  · exact zero
  · dsimp only
    split
    · split
      · exact minFp_wide _ _
      · exact zeroFp_wide _ _
    · exact zeroFp_wide _ _
    · split
      · exact zeroFp_wide _ _
      · exact minFp_wide _ _
    · split
      · exact minFp_wide _ _
      · exact zeroFp_wide _ _

theorem Exact.Means.roundFp_wide {x : Exact} {y : ℚ} (h : x.Means y) (w : Word) (f : Fmt) : f.Wide (roundFp w f x).2 := by
  rcases lt_or_ge y f.least with below | least
  · rw [h.roundFp_below w f below]
    exact flushOut_wide ..
  · rcases lt_or_ge f.most y with above | most
    · obtain ⟨up, -, round⟩ := h.roundFp_above w f above
      rw [round]
      cases up
      · exact maxFp_wide ..
      · exact overflowFp_wide ..
    · obtain ⟨man, exp, inexact, rounds, fits, round⟩ := h.roundFp_within w f least most
      rw [round]
      have := f.two_bias
      have := f.emin_eq
      have high := rounds.high
      rw [pow_succ] at high
      exact packFp_wide f _ (by omega) (by omega)

/-! ## Conversions between the formats -/

section
variable {src dst : Fmt}

/-- R641: what a number is converted to. -/
theorem toFp_normal (normal : (decodeFp src a).Normal) : fpToFp p w src dst a =
    ⟨((decodeFp src a).toCell.eval p w dst).1, ((decodeFp src a).toCell.eval p w dst).2, false⟩ :=
  template_one_plain rfl normal.plain

theorem toFp_subnormal (sub : (decodeFp src a).isSubnormal = true) : (w.getLsbD 17 = false → fpToFp p w src dst a = ⟨detE, 0, false⟩) ∧
    (w.getLsbD 17 = true → fpToFp p w src dst a = ⟨0, zeroFp dst (signBit src a), true⟩) :=
  ⟨(template_one_subnormal (first := false) sub).1, (template_one_subnormal sub).2⟩

/-- R774: a result in half precision has 16 bits. -/
theorem toFp_half : (fpToFp p w src .half a).val.toNat < 2 ^ 16 := by
  have quiet : (quietNan p .half).toNat < 2 ^ 16 := by
    rw [quietNan, BitVec.toNat_setWidth_of_le (by decide)]
    exact p.qnanH.isLt
  rcases decode_cases src a with ⟨sig, d⟩ | d | d | ⟨m, e, d, -⟩ | ⟨m, e, d, some, -⟩
  · cases sig
    · rw [fpToFp, template_one_qnan (by rw [d]; rfl)]
      exact quiet
    · rw [fpToFp, template_one_snan (by rw [d]; rfl)]
      exact quiet
  · rw [fpToFp, template_one_plain d ⟨rfl, rfl, rfl⟩]
    exact infFp_wide .half _
  · rw [fpToFp, template_one_plain d ⟨rfl, rfl, rfl⟩]
    exact zeroFp_wide .half _
  · obtain ⟨off, on⟩ := toFp_subnormal (p := p) (w := w) (dst := .half) (src := src) (a := a) (by rw [d]; rfl)
    cases fs : w.getLsbD 17
    · rw [off fs]
      decide
    · rw [on fs]
      exact zeroFp_wide .half _
  · rw [fpToFp, template_one_plain d ⟨rfl, rfl, rfl⟩]
    exact (Exact.means_plain (K := ℚ) some).roundFp_wide w .half

end

/-- R641: an integer of 64 bits is rounded. -/
theorem ofInt_rounds {n : Int} (wide : f ≠ .half) (ne : n ≠ 0) (small : |n| < 2 ^ 64) : (fpOfInt w f n).Rounds f (fpRm w) n := by
  have means : (⟨decide (n < 0), n.natAbs, 0, false⟩ : Exact).Means ((n.natAbs : ℚ) * 2 ^ (0 : Int)) :=
    Exact.means_plain (Int.natAbs_pos.mpr ne)
  have value : signedBy (decide (n < 0)) ((n.natAbs : ℚ) * 2 ^ (0 : Int)) = n := by
    rw [← signedInt_cast, signedInt_natAbs, zpow_zero, mul_one]
  have some : (1 : ℚ) ≤ n.natAbs := by exact_mod_cast Int.natAbs_pos.mpr ne
  have bound : (n.natAbs : ℚ) ≤ 2 ^ 64 := by
    have : n.natAbs < 2 ^ 64 := by
      rw [Int.abs_eq_natAbs] at small
      exact_mod_cast small
    exact_mod_cast this.le
  have run : fpOfInt w f n = roundRes w f ⟨decide (n < 0), n.natAbs, 0, false⟩ := if_neg ne
  rw [run, ← value]
  refine means.roundRes_rounds w f ?_ ?_ <;> rw [zpow_zero, mul_one]
  · refine le_trans (zpow_le_one_of_nonpos₀ (by norm_num) ?_) some
    have := f.bias_pos
    rw [Fmt.emin_eq]
    omega
  · refine bound.trans ?_
    have enough : 64 ≤ f.bias := by
      cases f with
      | half => exact absurd rfl wide
      | single => decide
      | double => decide
    exact_mod_cast f.le_most (K := ℚ) (n := 64) (by exact_mod_cast enough)

/-! ## Half to single precision -/

section
variable {h : Half}

theorem ofHalf_nan {sig : Bool} (d : decodeFp .half (h.setWidth 64) = .nan sig) :
    fpOfHalf p w h = ⟨if sig then detV else 0, quietNan p .single, false⟩ := by
  simp only [fpOfHalf, d]

theorem ofHalf_inf {n : Bool} (d : decodeFp .half (h.setWidth 64) = .inf n) : fpOfHalf p w h = ⟨0, infFp .single n, false⟩ := by
  simp only [fpOfHalf, d]
  rfl

theorem ofHalf_zero {n : Bool} (d : decodeFp .half (h.setWidth 64) = .zero n) : fpOfHalf p w h = ⟨0, zeroFp .single n, false⟩ := by
  simp only [fpOfHalf, d]
  rfl

theorem ofHalf_num {n s : Bool} {m : Nat} {e : Int} (d : decodeFp .half (h.setWidth 64) = .num n m e s) :
    fpOfHalf p w h = roundRes w .single ⟨n, m, e, false⟩ := by
  simp only [fpOfHalf, d]
  rfl

/-- R684: the value of a half-precision number is kept. -/
theorem ofHalf_finite (finite : (decodeFp .half (h.setWidth 64)).finite) : (fpOfHalf p w h).det = 0 ∧ (fpOfHalf p w h).flushed = false ∧
    (decodeFp .single (fpOfHalf p w h).val).finite ∧
    (decodeFp .single (fpOfHalf p w h).val).value = (decodeFp .half (h.setWidth 64)).value ∧
    (fpOfHalf p w h).val.getLsbD 31 = h.getLsbD 15 := by
  have number {n s : Bool} {m : Nat} {e : Int} (d : decodeFp .half (h.setWidth 64) = .num n m e s) (sign : n = h.getLsbD 15) :
      (fpOfHalf p w h).det = 0 ∧ (fpOfHalf p w h).flushed = false ∧ (decodeFp .single (fpOfHalf p w h).val).finite ∧
        (decodeFp .single (fpOfHalf p w h).val).value = (decodeFp .half (h.setWidth 64)).value ∧
        (fpOfHalf p w h).val.getLsbD 31 = h.getLsbD 15 := by
    obtain ⟨rep, least, most⟩ := half_range d
    obtain ⟨m', e', det, single, same, bit⟩ :=
      (Exact.means_plain (neg := n) (decode_exponent d).2.2.1).roundFp_exact w .single rep least most
    rw [ofHalf_num d, roundRes, d, value_num]
    refine ⟨det, rfl, ?_, ?_, bit.trans sign⟩
    · rw [single]
      trivial
    · rw [single, value_num, same]
  rcases decode_cases .half (h.setWidth 64) with ⟨sig, d⟩ | d | d | ⟨m, e, d, -⟩ | ⟨m, e, d, -⟩
  · rw [d] at finite
    exact finite.elim
  · rw [d] at finite
    exact finite.elim
  · rw [ofHalf_zero d]
    refine ⟨rfl, rfl, ?_, ?_, ?_⟩
    · rw [decode_zero]
      trivial
    · rw [decode_zero, d]
    · exact (packFp_sign .single _ (by decide) (by decide)).trans (signBit_half h)
  · exact number d (signBit_half h)
  · exact number d (signBit_half h)

end

end Sys2Proof.Machine

open Sys2Proof.Machine

/-- Settles O37: each result is one rounding of an exact value. -/
theorem fusedAndConvertedResultsRoundOnce : Obligations.FusedAndConvertedResultsRoundOnce := by
  refine ⟨fun p w sub b a c => ?_, fun p w src dst a _ => ?_, fun p w h => ?_, fun w f n wide => ⟨ofInt_rounds wide, ?_⟩⟩
  · intro x y z product addend exact r
    refine ⟨fun hb ha hc => ?_, ?_⟩
    · have run : r = _ := fma_normal hb ha hc
      rw [run]
      refine ⟨(fmaCell_gives hb.signed ha.signed hc.signed hb.ne_inf ha.ne_inf hc.ne_inf).exactly_always p w .single, fun zero => ?_⟩
      have plain : z = .zero (signBit .single c) ∨ ∃ m e, z = .num (signBit .single c) m e false ∧ 0 < m :=
        (normal_cases hc).imp id fun ⟨m, e, d, pos, _⟩ => ⟨m, e, d, pos⟩
      rw [fmaTable, fmaCell_zero hb.signed ha.signed hc.signed hb.ne_inf ha.ne_inf plain zero]
      rfl
    · have run : fpFma p w sub true b a c = { r with val := negateResult .single r.val } := rfl
      rw [run, negateResult]
      cases decodeFp .single r.val <;> rfl
  · intro x neg r
    refine ⟨fun normal => ?_, fun half => ?_, fun d => template_one_plain d ⟨rfl, rfl, rfl⟩, fun d => template_one_plain d ⟨rfl, rfl, rfl⟩,
      template_one_snan, template_one_qnan, fun sub => ?_⟩
    · rw [show r = _ from toFp_normal normal]
      exact (toCell_gives (normal_fits normal)).exactly_always p w dst
    · subst half
      exact toFp_half
    · obtain ⟨off, on⟩ := toFp_subnormal (p := p) (w := w) (dst := dst) sub
      exact ⟨fun h => congrArg FpRes.det (off h), on⟩
  · intro x r
    refine ⟨ofHalf_finite, ofHalf_inf, fun sig => ?_, fun quiet => ?_⟩
    · rcases decode_cases .half (h.setWidth 64) with ⟨_ | _, d⟩ | d | d | ⟨m, e, d, -⟩ | ⟨m, e, d, -⟩
      rotate_left
      · exact ofHalf_nan d
      all_goals cases (congrArg Fp.isSnan d).symm.trans sig
    · rcases decode_cases .half (h.setWidth 64) with ⟨_ | _, d⟩ | d | d | ⟨m, e, d, -⟩ | ⟨m, e, d, -⟩
      · exact ofHalf_nan d
      all_goals cases (congrArg Fp.isQnan d).symm.trans quiet
  · cases f <;> rfl
end

section
/-!
PROOFS. FPU moves, exact conversions and comparisons (46_fpu.md R590 to R593, R616 to R620, 47_fpu.md R691, R693).
-/

namespace Sys2Proof.Machine

variable {s : State} {i : Instr} {w : Word}

/-- R641: a number of 33 bits is converted to double precision as it is. -/
theorem ofInt_double {n : Int} (small : |n| < 2 ^ 33) : (decodeFp .double (fpOfInt w .double n).val).finite ∧
    (decodeFp .double (fpOfInt w .double n).val).value = n ∧ (n = 0 → (fpOfInt w .double n).val = 0) := by
  by_cases zero : n = 0
  · subst zero
    have run : (fpOfInt w .double 0).val = zeroFp .double false := congrArg FpRes.val (if_pos rfl)
    rw [run, decode_zero]
    exact ⟨trivial, Int.cast_zero.symm, fun _ => rfl⟩
  · have means : (⟨decide (n < 0), n.natAbs, 0, false⟩ : Exact).Means ((n.natAbs : ℚ) * 2 ^ (0 : Int)) :=
      Exact.means_plain (Int.natAbs_pos.mpr zero)
    have value : signedBy (decide (n < 0)) ((n.natAbs : ℚ) * 2 ^ (0 : Int)) = n := by
      rw [← signedInt_cast, signedInt_natAbs, zpow_zero, mul_one]
    have bound : n.natAbs < 2 ^ 33 := by
      rw [Int.abs_eq_natAbs] at small
      exact_mod_cast small
    have some : (1 : ℚ) ≤ n.natAbs := by exact_mod_cast Int.natAbs_pos.mpr zero
    have boundQ : (n.natAbs : ℚ) ≤ 2 ^ (33 : Int) := by exact_mod_cast bound.le
    obtain ⟨m, e, -, double, same, -⟩ := means.roundFp_exact w .double (rep_nat _ (bound.trans (by decide)))
      (by rw [zpow_zero, mul_one]; exact (zpow_le_one_of_nonpos₀ (by norm_num) (by decide)).trans some)
      (by rw [zpow_zero, mul_one]; exact boundQ.trans (Fmt.le_most .double (by decide)))
    have run : (fpOfInt w .double n).val = (roundFp w .double ⟨decide (n < 0), n.natAbs, 0, false⟩).2 :=
      congrArg FpRes.val (if_neg zero)
    rw [run, double, value_num, same, value]
    exact ⟨trivial, rfl, fun z => absurd z zero⟩

/-- R691, R693: the conversion of a word to double precision. -/
theorem fpuMoves_word {dst : FpOperand} {n : Int} (small : |n| < 2 ^ 33) (h : exec i s = s.fpuMove dst (fpOfInt s.sys.fpsr .double n).val) :
    FpuUnusable i s ∧ ∃ v, FpuMoves i s dst v ∧ (decodeFp .double v).finite ∧ (decodeFp .double v).value = n ∧ (n = 0 → v = 0) := by
  obtain ⟨unusable, moves⟩ := fpuMoves_of h
  obtain ⟨finite, value, zero⟩ := ofInt_double (w := s.sys.fpsr) small
  exact ⟨unusable, _, moves, finite, value, zero⟩

/-! ## Comparison -/

/-- R616: V is detected for a signaling NaN, and for any NaN if the top bit of the condition asks for it. -/
theorem fpCompare_invalid (f : Fmt) (fcond : BitVec 4) (b a : DWord) : (fpCompare f fcond b a).1 = true ↔
    ((decodeFp f b).isSnan = true ∨ (decodeFp f a).isSnan = true) ∨
      ((((decodeFp f b).isSnan = true ∨ (decodeFp f a).isSnan = true) ∨ (decodeFp f b).isQnan = true ∨ (decodeFp f a).isQnan = true) ∧
        fcond.getLsbD 3 = true) := by
  rw [fpCompare]
  split
  · rename_i nan
    cases sb : (decodeFp f b).isSnan <;> cases sa : (decodeFp f a).isSnan <;> simp_all
  · rename_i ordered
    simp_all

/-- R616: less, equal or unordered, as the condition selects. -/
theorem fpCompare_holds (f : Fmt) (fcond : BitVec 4) (b a : DWord) : (fpCompare f fcond b a).2 = true ↔
    ((((decodeFp f b).isSnan = true ∨ (decodeFp f a).isSnan = true) ∨ (decodeFp f b).isQnan = true ∨ (decodeFp f a).isQnan = true) ∧
        fcond.getLsbD 0 = true) ∨
      (¬ (((decodeFp f b).isSnan = true ∨ (decodeFp f a).isSnan = true) ∨ (decodeFp f b).isQnan = true ∨ (decodeFp f a).isQnan = true) ∧
        ((orderKey f b < orderKey f a ∧ fcond.getLsbD 2 = true) ∨ (orderKey f b = orderKey f a ∧ fcond.getLsbD 1 = true))) := by
  have unordered : ((decodeFp f b).isSnan || (decodeFp f b).isQnan || (decodeFp f a).isSnan || (decodeFp f a).isQnan) = true ↔
      (((decodeFp f b).isSnan = true ∨ (decodeFp f a).isSnan = true) ∨ (decodeFp f b).isQnan = true ∨ (decodeFp f a).isQnan = true) := by
    simp only [Bool.or_eq_true]
    tauto
  rw [fpCompare]
  split
  · rename_i nan
    simp only [← unordered, nan, true_and, not_true_eq_false, false_and, or_false]
  · rename_i ordered
    simp only [← unordered, ordered, Bool.false_eq_true, false_and, not_false_eq_true, true_and, false_or, Bool.or_eq_true,
      Bool.and_eq_true, decide_eq_true_iff, beq_iff_eq, and_comm]

/-- R616: a comparison writes its condition bit. -/
theorem fpuCompares_of {f : Fmt} {fcond : BitVec 4} {fff : BitVec 3} {r1 r2 : FpOperand} {invalid holds : Prop} {det : FpDet}
    (h : exec i s = s.fpuCompare f fcond fff r1 r2) (truth : (fpCompare f fcond (s.fpGet r2) (s.fpGet r1)).2 = true ↔ holds)
    (detects : (fpCompare f fcond (s.fpGet r2) (s.fpGet r1)).1 = true ↔ invalid)
    (is : if det = 0 then ¬ invalid else det = detV ∧ invalid) :
    FpuUnusable i s ∧ FpuTraps i s ⟨det, 0, false⟩ ∧
      (s.psw.getLsbD 16 = true → ¬ Trapped s.sys.fpsr det →
        ∃ t w, exec i s = .next t ∧ s.NextAfter t 4 ∧ s.Frame t noReg noByte 0 ∧ t.wr = s.wr ∧ t.link = s.link ∧
          t.halt = s.halt ∧ t.sys = { s.sys with fpsr := t.sys.fpsr } ∧ StatusAfter s.sys.fpsr w det false ∧
          ∀ k, k < 32 → (t.sys.fpsr.getLsbD k = true ↔ if k = 24 + fff.toNat then holds else w.getLsbD k = true)) := by
  have same : (if (fpCompare f fcond (s.fpGet r2) (s.fpGet r1)).1 then detV else 0) = det := by
    split at is
    · rename_i none
      rw [if_neg (mt detects.mp is), none]
    · rw [if_pos (detects.mpr is.2), is.1]
  have run : exec i s = s.withFpu (s.fpuFinish ⟨det, 0, false⟩ fun t =>
      t.setFpsr (putCc t.sys.fpsr fff (fpCompare f fcond (s.fpGet r2) (s.fpGet r1)).2)) := by
    rw [h, State.fpuCompare, same]
  refine ⟨fpuUnusable_of run, fpuTraps_of run, fun usable quiet => ?_⟩
  have next : exec i s = .next (((s.setFpsr (fpKeep (fpCause s.sys.fpsr det false) det)).setFpsr
      (putCc (fpKeep (fpCause s.sys.fpsr det false) det) fff (fpCompare f fcond (s.fpGet r2) (s.fpGet r1)).2)).advance 4) := by
    rw [run, State.withFpu, if_pos usable, State.fpuFinish, if_neg (mt (fpTaken_iff ..).mp quiet)]
    rfl
  refine ⟨_, fpKeep (fpCause s.sys.fpsr det false) det, next, rfl, ?_, rfl, rfl, rfl, rfl, statusAfter_keep _ _ _, fun k _ => ?_⟩
  · exact ((State.frame_setFpsr _ _).trans (State.frame_setFpsr _ _)).trans (State.frame_advance _ _)
  · have inside : 24 + fff.toNat < 32 := by
      have := fff.isLt
      omega
    refine Iff.trans (Bool.eq_iff_iff.mp (putBit_getLsbD _ _ _ k inside)) ?_
    by_cases bit : k = 24 + fff.toNat
    · rw [if_pos bit, if_pos bit, truth]
    · rw [if_neg bit, if_neg bit]

end Sys2Proof.Machine

open Sys2Proof.Machine

/-- Settles O40: the moves keep FPSR, a comparison writes one condition bit. -/
theorem fpuMovesAndComparisonsTouchTheirBits : Obligations.FpuMovesAndComparisonsTouchTheirBits := by
  refine ⟨fun s p1 p2 p3 r1 r2 r3 fff => ?_, fun s fcond fff p1 p2 r1 r2 => ?_⟩
  · intro moves condition word
    have signed : |(s.reg r2).toInt| < 2 ^ 33 := by
      have low := (s.reg r2).le_toInt
      have high := (s.reg r2).toInt_lt
      rw [abs_lt]
      omega
    have unsigned : |((s.reg r2).toNat : Int)| < 2 ^ 33 := by
      have high := (s.reg r2).isLt
      rw [Nat.abs_cast]
      omega
    refine ⟨fpuMoves_of rfl, fpuMoves_of rfl, fpuMoves_of rfl, fpuMoves_of rfl, fpuMoves_of rfl, fpuMoves_of rfl,
      fpuMoves_word signed rfl, fpuMoves_word unsigned rfl, fpuUnusable_of rfl, fun usable => ?_⟩
    have run : exec (.trfsr fff) s = .next ((s.setZ (s.cc fff)).advance 4) := by
      show s.withFpu _ = _
      rw [State.withFpu, if_pos usable]
    refine ⟨_, run, by simp [State.NextAfter], (State.frame_setZ _ _ rfl).trans (State.frame_advance _ _),
      ⟨by simp, by simp, by simp, by simp⟩, ?_⟩
    have z : ((s.setZ (s.cc fff)).advance 4).zf = s.cc fff := by
      have := setZ_zf s (s.cc fff)
      simpa [State.zf] using this
    exact Bool.eq_iff_iff.mp z
  · intro compares
    exact ⟨fun det is => fpuCompares_of rfl (fpCompare_holds ..) (fpCompare_invalid ..) is,
      fun det is => fpuCompares_of rfl (fpCompare_holds ..) (fpCompare_invalid ..) is⟩
end

section
/-!
PROOFS. The order of the numbers, maximum and minimum (46_fpu.md R587, R602 to R605, R616).
-/

namespace Sys2Proof.Machine

variable {f : Fmt} {v b a : DWord}

/-! ## The value of magnitude bits -/

/-- R582: the number that finite magnitude bits stand for. -/
def magValue (f : Fmt) (n : Nat) : ℚ := (fpOf f false (n / 2 ^ f.frac) (n % 2 ^ f.frac)).value

/-- The magnitude bits of an infinity; those of finite numbers are smaller. -/
def infMag (f : Fmt) : Nat := (2 ^ f.ebits - 1) * 2 ^ f.frac

theorem exponent_lt {n : Nat} (h : n < infMag f) : n / 2 ^ f.frac < 2 ^ f.ebits - 1 := (Nat.div_lt_iff_lt_mul (by positivity)).mpr h

theorem magValue_subnormal {n : Nat} (zero : n / 2 ^ f.frac = 0) : magValue f n = ((n % 2 ^ f.frac : Nat) : ℚ) * 2 ^ (f.emin - f.frac) := by
  have := f.two_bias
  rw [magValue, zero, fpOf, if_neg (by omega), if_pos rfl]
  split
  · rename_i none
    rw [none, Nat.cast_zero, zero_mul]
    rfl
  · exact value_num ..

theorem magValue_normal {n : Nat} (some : 0 < n / 2 ^ f.frac) (h : n < infMag f) : magValue f n =
    ((2 ^ f.frac + n % 2 ^ f.frac : Nat) : ℚ) * 2 ^ (((n / 2 ^ f.frac : Nat) : Int) - f.bias - f.frac) := by
  rw [magValue, fpOf_normal f false some (exponent_lt h), value_num]
  rfl

theorem two_pow_split (f : Fmt) (e : Int) : (2 : ℚ) ^ e = 2 ^ f.frac * 2 ^ (e - f.frac) := by
  rw [zpow_sub₀ (by norm_num), zpow_natCast]
  field_simp

/-- R582: the binade of a magnitude. -/
theorem magValue_lt {n : Nat} (h : n < infMag f) : magValue f n < 2 ^ (((n / 2 ^ f.frac : Nat) : Int) + 1 - f.bias) := by
  have rest := Nat.mod_lt n (show 0 < 2 ^ f.frac by positivity)
  rcases Nat.eq_zero_or_pos (n / 2 ^ f.frac) with zero | some
  · have same : ((0 : Nat) : Int) + 1 - f.bias = f.emin := by rw [Fmt.emin_eq, Nat.cast_zero, zero_add]
    rw [magValue_subnormal zero, zero, same, two_pow_split f f.emin]
    exact mul_lt_mul_of_pos_right (by exact_mod_cast rest) (zpow_pos (by norm_num) _)
  · have double : (2 : ℚ) ^ (((n / 2 ^ f.frac : Nat) : Int) + 1 - f.bias) =
        (2 ^ f.frac + 2 ^ f.frac) * 2 ^ (((n / 2 ^ f.frac : Nat) : Int) - f.bias - f.frac) := by
      rw [two_pow_split f, show ((n / 2 ^ f.frac : Nat) : Int) + 1 - f.bias - f.frac =
        ((n / 2 ^ f.frac : Nat) : Int) - f.bias - f.frac + 1 by ring, zpow_add_one₀ (by norm_num)]
      ring
    rw [magValue_normal some h, double]
    refine mul_lt_mul_of_pos_right ?_ (zpow_pos (by norm_num) _)
    exact_mod_cast Nat.add_lt_add_left rest _

theorem le_magValue {n : Nat} (some : 0 < n / 2 ^ f.frac) (h : n < infMag f) :
    (2 : ℚ) ^ (((n / 2 ^ f.frac : Nat) : Int) - f.bias) ≤ magValue f n := by
  rw [magValue_normal some h, two_pow_split f]
  refine mul_le_mul_of_nonneg_right ?_ (zpow_pos (by norm_num) _).le
  exact_mod_cast Nat.le_add_right _ _

theorem magValue_nonneg {n : Nat} (h : n < infMag f) : 0 ≤ magValue f n := by
  rcases Nat.eq_zero_or_pos (n / 2 ^ f.frac) with zero | some
  · rw [magValue_subnormal zero]
    positivity
  · exact (zpow_pos (by norm_num) _).le.trans (le_magValue some h)

theorem magValue_zero (f : Fmt) : magValue f 0 = 0 := by
  rw [magValue_subnormal (Nat.zero_div _), Nat.zero_mod, Nat.cast_zero, zero_mul]

/-- R587: larger magnitude bits stand for a larger number. -/
theorem magValue_strict {n n' : Nat} (less : n < n') (h' : n' < infMag f) : magValue f n < magValue f n' := by
  have h := less.trans h'
  rcases (Nat.div_le_div_right less.le : n / 2 ^ f.frac ≤ n' / 2 ^ f.frac).lt_or_eq with below | same
  · refine (magValue_lt h).trans_le (le_trans (zpow_le_zpow_right₀ (by norm_num) ?_) (le_magValue (Nat.zero_lt_of_lt below) h'))
    omega
  · have rest : n % 2 ^ f.frac < n' % 2 ^ f.frac := by
      have first := Nat.div_add_mod n (2 ^ f.frac)
      have second := Nat.div_add_mod n' (2 ^ f.frac)
      rw [same] at first
      omega
    rcases Nat.eq_zero_or_pos (n / 2 ^ f.frac) with zero | some
    · rw [magValue_subnormal zero, magValue_subnormal (same ▸ zero)]
      exact mul_lt_mul_of_pos_right (by exact_mod_cast rest) (zpow_pos (by norm_num) _)
    · rw [magValue_normal some h, magValue_normal (same ▸ some) h', same]
      exact mul_lt_mul_of_pos_right (by exact_mod_cast Nat.add_lt_add_left rest _) (zpow_pos (by norm_num) _)

/-! ## The value of an order key -/

/-- R587: the number of an order key. -/
def keyValue (f : Fmt) (k : Int) : ℚ := if k < 0 then -magValue f k.natAbs else magValue f k.natAbs

theorem keyValue_strict {k k' : Int} (less : k < k') (h : k.natAbs < infMag f) (h' : k'.natAbs < infMag f) :
    keyValue f k < keyValue f k' := by
  rw [keyValue, keyValue]
  split
  · split
    · exact neg_lt_neg (magValue_strict (by omega) h)
    · have positive : magValue f 0 < magValue f k.natAbs := magValue_strict (by omega) h
      rw [magValue_zero] at positive
      exact (neg_lt_zero.mpr positive).trans_le (magValue_nonneg h')
  · rw [if_neg (by omega)]
    exact magValue_strict (by omega) h'

theorem keyValue_iff {k k' : Int} (h : k.natAbs < infMag f) (h' : k'.natAbs < infMag f) :
    (k < k' ↔ keyValue f k < keyValue f k') ∧ (k = k' ↔ keyValue f k = keyValue f k') := by
  rcases lt_trichotomy k k' with less | rfl | more
  · have strict := keyValue_strict less h h'
    exact ⟨iff_of_true less strict, iff_of_false less.ne strict.ne⟩
  · exact ⟨iff_of_false (lt_irrefl _) (lt_irrefl _), iff_of_true rfl rfl⟩
  · have strict := keyValue_strict more h' h
    exact ⟨iff_of_false more.asymm strict.asymm, iff_of_false more.ne' strict.ne'⟩

theorem orderKey_eq (f : Fmt) (v : DWord) : orderKey f v = signedInt (signBit f v) (magOf f v) := rfl

theorem orderKey_natAbs (f : Fmt) (v : DWord) : (orderKey f v).natAbs = magOf f v := by
  rw [orderKey_eq, signedInt]
  split <;> omega

theorem value_signed (f : Fmt) (neg : Bool) (e fr : Nat) : (fpOf f neg e fr).value = signedBy neg (fpOf f false e fr).value := by
  cases neg
  · rfl
  · exact (congrArg Fp.value (fpOf_negate f false e fr)).trans (negate_value _)

/-- R587: a finite pattern has the number of its key. -/
theorem value_key (f : Fmt) (v : DWord) : (decodeFp f v).value = keyValue f (orderKey f v) := by
  rw [decodeFp_mag, value_signed, keyValue, orderKey_natAbs]
  change signedBy (signBit f v) (magValue f (magOf f v)) = _
  rw [orderKey_eq, signedInt]
  cases signBit f v
  · rw [if_neg Bool.false_ne_true, if_neg (by omega)]
    rfl
  · rw [if_pos rfl]
    split
    · rfl
    · have zero : magOf f v = 0 := by omega
      rw [zero, magValue_zero]
      exact neg_zero

/-- The key of an infinity. -/
def infKey (f : Fmt) (neg : Bool) : Int := signedInt neg (infMag f)

theorem infKey_false (f : Fmt) : infKey f false = infMag f := rfl
theorem infKey_true (f : Fmt) : infKey f true = -(infMag f : Int) := rfl

theorem infMag_pos (f : Fmt) : 0 < infMag f := by
  have := f.two_bias
  exact Nat.mul_pos (by omega) (by positivity)

/-- R582: a pattern that is no NaN is finite, with a key between those of the infinities, or an infinity with its key. -/
theorem key_cases (snan : (decodeFp f v).isSnan = false) (qnan : (decodeFp f v).isQnan = false) :
    ((decodeFp f v).finite ∧ (orderKey f v).natAbs < infMag f) ∨ ∃ n, decodeFp f v = .inf n ∧ orderKey f v = infKey f n := by
  have small : magOf f v < 2 ^ f.ebits * 2 ^ f.frac := by
    rw [← pow_add, Nat.add_comm]
    exact Nat.mod_lt _ (by positivity)
  have parts := Nat.div_add_mod (magOf f v) (2 ^ f.frac)
  have bias := f.two_bias
  by_cases top : magOf f v / 2 ^ f.frac = 2 ^ f.ebits - 1
  · have special := decodeFp_mag f v
    rw [fpOf, if_pos top] at special
    split at special
    · rename_i zero
      refine .inr ⟨_, special, ?_⟩
      rw [top, zero, Nat.add_zero, Nat.mul_comm] at parts
      rw [orderKey_eq, ← parts]
      rfl
    · obtain ⟨sig, d⟩ : ∃ sig, decodeFp f v = .nan sig := ⟨_, special⟩
      rw [d] at snan qnan
      cases sig
      · cases qnan
      · cases snan
  · have below : magOf f v / 2 ^ f.frac < 2 ^ f.ebits - 1 := by
      have := (Nat.div_lt_iff_lt_mul (show 0 < 2 ^ f.frac by positivity)).mpr small
      omega
    refine .inl ⟨?_, ?_⟩
    · rw [decodeFp_mag, fpOf, if_neg top]
      split
      · split <;> trivial
      · trivial
    · rw [orderKey_natAbs]
      exact (Nat.div_lt_iff_lt_mul (by positivity)).mp below

theorem finite_not_nan {x : Fp} (h : x.finite) : x.isSnan = false ∧ x.isQnan = false := by
  cases x with
  | nan _ => exact h.elim
  | _ => exact ⟨rfl, rfl⟩

theorem finite_key (h : (decodeFp f v).finite) : (orderKey f v).natAbs < infMag f := by
  obtain ⟨snan, qnan⟩ := finite_not_nan h
  rcases key_cases snan qnan with ⟨-, key⟩ | ⟨n, d, -⟩
  · exact key
  · rw [d] at h
    exact h.elim

theorem inf_key {n : Bool} (h : decodeFp f v = .inf n) : orderKey f v = infKey f n := by
  rcases key_cases (f := f) (v := v) (by rw [h]; rfl) (by rw [h]; rfl) with ⟨finite, -⟩ | ⟨n', d, key⟩
  · rw [h] at finite
    exact finite.elim
  · rw [h] at d
    cases d
    exact key

theorem inf_of_key {n : Bool} (snan : (decodeFp f v).isSnan = false) (qnan : (decodeFp f v).isQnan = false)
    (key : orderKey f v = infKey f n) : decodeFp f v = .inf n := by
  have some := infMag_pos f
  rcases key_cases snan qnan with ⟨-, small⟩ | ⟨n', d, key'⟩
  · rw [key] at small
    cases n
    · rw [infKey_false] at small
      omega
    · rw [infKey_true] at small
      omega
  · rw [key] at key'
    cases n <;> cases n'
    · exact d
    · rw [infKey_false, infKey_true] at key'
      omega
    · rw [infKey_false, infKey_true] at key'
      omega
    · exact d

theorem key_bounds (snan : (decodeFp f v).isSnan = false) (qnan : (decodeFp f v).isQnan = false) :
    -(infMag f : Int) ≤ orderKey f v ∧ orderKey f v ≤ infMag f := by
  rcases key_cases snan qnan with ⟨-, small⟩ | ⟨n, -, key⟩
  · omega
  · rw [key]
    cases n
    · rw [infKey_false]
      omega
    · rw [infKey_true]
      omega

/-! ## Maximum and minimum -/


/-- R587: the order of the numbers. -/
theorem order_iff (hb : (decodeFp f b).finite) (ha : (decodeFp f a).finite) :
    (orderKey f b < orderKey f a ↔ (decodeFp f b).value < (decodeFp f a).value) ∧
      (orderKey f b = orderKey f a ↔ (decodeFp f b).value = (decodeFp f a).value) := by
  rw [value_key, value_key]
  exact keyValue_iff (finite_key hb) (finite_key ha)

variable {p : Product} {larger zero : Bool}

/-- R602: one quiet NaN gives the other operand, two give a quiet NaN. -/
theorem maxMin_quiet (hb : (decodeFp f b).isQnan = true) (ha : (decodeFp f a).isQnan = true) :
    fpMaxMin p f larger zero b a = ⟨0, quietNan p f, false⟩ := by
  simp [fpMaxMin, not_snan_of_qnan hb, not_snan_of_qnan ha, hb, ha]

theorem maxMin_quiet_left (hb : (decodeFp f b).isQnan = true) (snanA : (decodeFp f a).isSnan = false)
    (qnanA : (decodeFp f a).isQnan = false) : fpMaxMin p f larger zero b a = ⟨0, a, false⟩ := by
  simp [fpMaxMin, not_snan_of_qnan hb, hb, snanA, qnanA]

theorem maxMin_quiet_right (snanB : (decodeFp f b).isSnan = false) (qnanB : (decodeFp f b).isQnan = false)
    (ha : (decodeFp f a).isQnan = true) : fpMaxMin p f larger zero b a = ⟨0, b, false⟩ := by
  simp [fpMaxMin, not_snan_of_qnan ha, ha, snanB, qnanB]

section
variable (snanB : (decodeFp f b).isSnan = false) (snanA : (decodeFp f a).isSnan = false) (qnanB : (decodeFp f b).isQnan = false)
  (qnanA : (decodeFp f a).isQnan = false)
include snanB snanA qnanB qnanA

/-- R602: the maximum or the minimum of two operands that are no NaNs. -/
theorem maxMin_numbers : fpMaxMin p f larger zero b a =
    ⟨0, if orderKey f b = 0 ∧ orderKey f a = 0 then zeroFp f zero
      else if larger = decide (orderKey f b < orderKey f a) then a else b, false⟩ := by
  rw [fpMaxMin]
  simp only [snanB, snanA, qnanB, qnanA, Bool.or_self, Bool.and_self, Bool.false_eq_true, if_false, beq_iff_eq]
  split
  · rfl
  · split <;> rfl

/-- R602: an infinity lies beyond every number. -/
theorem maxMin_inf_left {n : Bool} (d : decodeFp f b = .inf n) :
    decodeFp f (fpMaxMin p f larger zero b a).val = if n = larger then decodeFp f a else .inf n := by
  have some := infMag_pos f
  have key := inf_key d
  have bound := key_bounds snanA qnanA
  rw [maxMin_numbers snanB snanA qnanB qnanA]
  cases n
  · rw [infKey_false] at key
    rw [if_neg (by omega), decide_eq_false (by omega)]
    cases larger
    · rfl
    · exact d
  · rw [infKey_true] at key
    rw [if_neg (by omega)]
    by_cases same : orderKey f a = infKey f true
    · rw [inf_of_key snanA qnanA same]
      split <;> split
      · exact inf_of_key snanA qnanA same
      · exact inf_of_key snanA qnanA same
      · exact d
      · exact d
    · rw [infKey_true] at same
      rw [decide_eq_true (by omega)]
      cases larger
      · exact d
      · rfl

theorem maxMin_inf_right {n : Bool} (d : decodeFp f a = .inf n) :
    decodeFp f (fpMaxMin p f larger zero b a).val = if n = larger then decodeFp f b else .inf n := by
  have some := infMag_pos f
  have key := inf_key d
  have bound := key_bounds snanB qnanB
  rw [maxMin_numbers snanB snanA qnanB qnanA]
  cases n
  · rw [infKey_false] at key
    rw [if_neg (by omega)]
    by_cases same : orderKey f b = infKey f false
    · rw [inf_of_key snanB qnanB same]
      split <;> split
      · exact d
      · exact d
      · exact inf_of_key snanB qnanB same
      · exact inf_of_key snanB qnanB same
    · rw [infKey_false] at same
      rw [decide_eq_true (by omega)]
      cases larger
      · rfl
      · exact d
  · rw [infKey_true] at key
    rw [if_neg (by omega), decide_eq_false (by omega)]
    cases larger
    · exact d
    · rfl

end

/-- R602: the larger or the smaller of two numbers. -/
theorem maxMin_finite (hb : (decodeFp f b).finite) (ha : (decodeFp f a).finite) :
    (decodeFp f (fpMaxMin p f larger zero b a).val).finite ∧
      (decodeFp f (fpMaxMin p f larger zero b a).val).value =
        (if larger then max (decodeFp f b).value (decodeFp f a).value else min (decodeFp f b).value (decodeFp f a).value) ∧
      (((decodeFp f b).value = 0 ∧ (decodeFp f a).value = 0 ∧ decodeFp f (fpMaxMin p f larger zero b a).val = .zero zero) ∨
        (fpMaxMin p f larger zero b a).val = b ∨ (fpMaxMin p f larger zero b a).val = a) := by
  obtain ⟨snanB, qnanB⟩ := finite_not_nan hb
  obtain ⟨snanA, qnanA⟩ := finite_not_nan ha
  obtain ⟨less, -⟩ := order_iff hb ha
  rw [maxMin_numbers snanB snanA qnanB qnanA]
  by_cases zeros : orderKey f b = 0 ∧ orderKey f a = 0
  · have value {v : DWord} (key : orderKey f v = 0) : (decodeFp f v).value = 0 := by
      rw [value_key, key]
      exact magValue_zero f
    rw [if_pos zeros, value zeros.1, value zeros.2, max_self, min_self, ite_self, decode_zero]
    exact ⟨trivial, rfl, .inl ⟨rfl, rfl, rfl⟩⟩
  · rw [if_neg zeros]
    by_cases below : orderKey f b < orderKey f a
    · have order := (less.mp below).le
      rw [decide_eq_true below]
      cases larger
      · exact ⟨hb, (min_eq_left order).symm, .inr (.inl rfl)⟩
      · exact ⟨ha, (max_eq_right order).symm, .inr (.inr rfl)⟩
    · have order := not_lt.mp (mt less.mpr below)
      rw [decide_eq_false below]
      cases larger
      · exact ⟨ha, (min_eq_right order).symm, .inr (.inr rfl)⟩
      · exact ⟨hb, (max_eq_left order).symm, .inr (.inl rfl)⟩

end Sys2Proof.Machine

open Sys2Proof.Machine

/-- Settles O38: the order keys are those of the numbers. -/
theorem comparisonOrdersNumbers : Obligations.ComparisonOrdersNumbers := by
  refine ⟨fun f b a => order_iff, fun f b a => ?_, fun p f larger zero b a => ?_⟩
  · intro x y
    have some := infMag_pos f
    refine ⟨fun d other => ?_, fun d other => ?_, fun n d d' => (inf_key d).trans (inf_key d').symm⟩
    · rw [inf_key d, infKey_true]
      rcases other with finite | d'
      · have := finite_key finite
        omega
      · rw [inf_key d', infKey_false]
        omega
    · rw [inf_key d, infKey_false]
      rcases other with finite | d'
      · have := finite_key finite
        omega
      · rw [inf_key d', infKey_true]
        omega
  · intro x y r z
    refine ⟨fun h => ?_, fun hx hy => ?_, fun hx qy sy => ?_, fun qx sx hy => ?_, fun sx qx sy qy => ?_⟩
    · exact if_pos (Bool.or_eq_true_iff.mpr h)
    · exact maxMin_quiet hx hy
    · exact maxMin_quiet_left hx sy qy
    · exact maxMin_quiet_right sx qx hy
    · exact ⟨congrArg FpRes.det (maxMin_numbers sx sy qx qy), congrArg FpRes.flushed (maxMin_numbers sx sy qx qy),
        fun n => maxMin_inf_left sx sy qx qy, fun n => maxMin_inf_right sx sy qx qy, maxMin_finite⟩
end

section
/-!
PROOFS. Conversions to integers (47_fpu.md R640).
-/

namespace Sys2Proof.Machine

variable {mode : RMode} {neg : Bool} {man : Nat} {exp : Int}

/-! ## Rounding a magnitude to an integer -/

/-- R640: `n` is a neighbouring integer of the magnitude `a`, in the mode and with the sign of the number. -/
def IntRound (mode : RMode) (neg : Bool) (a : ℚ) (n : Nat) : Prop :=
  match mode with
  | .nearest => |a - n| ≤ 1 / 2 ∧ (|a - n| = 1 / 2 → n % 2 = 0)
  | .zero => (n : ℚ) ≤ a ∧ a < n + 1
  | .pos => if neg then (n : ℚ) ≤ a ∧ a < n + 1 else a ≤ n ∧ (n : ℚ) < a + 1
  | .neg => if neg then a ≤ n ∧ (n : ℚ) < a + 1 else (n : ℚ) ≤ a ∧ a < n + 1

theorem intRound_self (mode : RMode) (neg : Bool) (n : Nat) : IntRound mode neg n n := by
  have zero : |((n : ℚ) - n)| = 0 := by rw [sub_self, abs_zero]
  cases mode with
  | nearest =>
    refine ⟨by rw [zero]; norm_num, fun half => ?_⟩
    rw [zero] at half
    norm_num at half
  | zero => exact ⟨le_rfl, lt_add_one _⟩
  | pos => cases neg <;> exact ⟨le_rfl, lt_add_one _⟩
  | neg => cases neg <;> exact ⟨le_rfl, lt_add_one _⟩

/-- R640: the model's decision, for `q` and a rest of `rem` in units of 1 / (2 * half). -/
theorem intRound_decision {q rem half : Nat} (some : 0 < half) (small : rem < 2 * half) :
    IntRound mode neg (q + rem / (2 * half)) (if roundsUp mode neg (q % 2 == 1) rem half false then q + 1 else q) := by
  have unit : (0 : ℚ) < 2 * half := by exact_mod_cast Nat.mul_pos two_pos some
  have rest : (0 : ℚ) ≤ rem / (2 * half) := by positivity
  have below : (rem : ℚ) / (2 * half) < 1 := (div_lt_one unit).mpr (by exact_mod_cast small)
  have most : half < rem ↔ (1 : ℚ) / 2 < rem / (2 * half) := by
    rw [lt_div_iff₀ unit, one_div, inv_mul_cancel_left₀ (two_ne_zero), Nat.cast_lt]
  have middle : rem = half ↔ (rem : ℚ) / (2 * half) = 1 / 2 := by
    rw [div_eq_iff unit.ne', one_div, inv_mul_cancel_left₀ (two_ne_zero), Nat.cast_inj]
  have none : rem = 0 ↔ (rem : ℚ) / (2 * half) = 0 := by
    rw [div_eq_zero_iff, Nat.cast_eq_zero, or_iff_left unit.ne']
  have down (r : ℚ) : |(q : ℚ) + r - q| = |r| := by rw [add_sub_cancel_left]
  have up (r : ℚ) : |(q : ℚ) + r - ((q + 1 : Nat) : ℚ)| = |r - 1| := by
    push_cast
    congr 1
    ring
  generalize (rem : ℚ) / (2 * half) = r at rest below most middle none ⊢
  have low : (q : ℚ) ≤ q + r ∧ (q : ℚ) + r < q + 1 := ⟨by linarith, by linarith⟩
  have high (ne : rem ≠ 0) : (q : ℚ) + r ≤ ((q + 1 : Nat) : ℚ) ∧ (((q + 1 : Nat) : ℚ)) < q + r + 1 := by
    have more : 0 < r := lt_of_le_of_ne rest (Ne.symm (mt none.mpr ne))
    push_cast
    exact ⟨by linarith, by linarith⟩
  have exact_ (zero : rem = 0) : (q : ℚ) + r ≤ q ∧ (q : ℚ) < q + r + 1 := by
    rw [none.mp zero]
    exact ⟨by linarith, by linarith⟩
  cases mode with
  | nearest =>
    have decision : roundsUp .nearest neg (q % 2 == 1) rem half false = true ↔ half < rem ∨ (rem = half ∧ q % 2 = 1) := by
      simp [roundsUp]
    by_cases goes : half < rem ∨ (rem = half ∧ q % 2 = 1)
    · rw [if_pos (decision.mpr goes), IntRound, up, abs_of_nonpos (by linarith)]
      rcases goes with more | ⟨tie, odd⟩
      · have := most.mp more
        exact ⟨by linarith, fun half => by linarith⟩
      · have := middle.mp tie
        exact ⟨by linarith, fun _ => by omega⟩
    · rw [if_neg (mt decision.mp goes), IntRound, down, abs_of_nonneg rest]
      obtain ⟨notMore, notTie⟩ := not_or.mp goes
      refine ⟨not_lt.mp (mt most.mpr notMore), fun tie => ?_⟩
      by_contra odd
      exact notTie ⟨middle.mpr tie, by omega⟩
  | zero =>
    rw [if_neg (by simp [roundsUp])]
    exact low
  | pos =>
    cases neg with
    | true =>
      rw [if_neg (by simp [roundsUp])]
      exact low
    | false =>
      by_cases zero : rem = 0
      · rw [if_neg (by simp [roundsUp, zero])]
        exact exact_ zero
      · rw [if_pos (by simp [roundsUp, zero])]
        exact high zero
  | neg =>
    cases neg with
    | false =>
      rw [if_neg (by simp [roundsUp])]
      exact low
    | true =>
      by_cases zero : rem = 0
      · rw [if_neg (by simp [roundsUp, zero])]
        exact exact_ zero
      · rw [if_pos (by simp [roundsUp, zero])]
        exact high zero

theorem intRound_inexact {q rem half : Nat} (some : 0 < half) (small : rem < 2 * half) : rem ≠ 0 ↔
    (q + rem / (2 * half) : ℚ) ≠ (if roundsUp mode neg (q % 2 == 1) rem half false then q + 1 else q : Nat) := by
  have unit : (0 : ℚ) < 2 * half := by exact_mod_cast Nat.mul_pos two_pos some
  by_cases zero : rem = 0
  · have stays : roundsUp mode neg (q % 2 == 1) 0 half false = false := by
      cases mode <;> simp [roundsUp, some.ne]
    rw [zero, stays]
    refine iff_of_false (not_not.mpr rfl) (not_not.mpr ?_)
    rw [Nat.cast_zero, zero_div, add_zero]
    rfl
  · refine iff_of_true zero ?_
    have rest : (0 : ℚ) < rem / (2 * half) := div_pos (by exact_mod_cast Nat.pos_of_ne_zero zero) unit
    have below : (rem : ℚ) / (2 * half) < 1 := (div_lt_one unit).mpr (by exact_mod_cast small)
    split
    · push_cast
      exact (add_lt_add_right below _).ne
    · exact (lt_add_of_pos_right _ rest).ne'

/-- R640: the integer that the model gives, and whether it differs from the number. -/
theorem roundInt_spec (mode : RMode) (neg : Bool) (man : Nat) (exp : Int) :
    IntRound mode neg ((man : ℚ) * 2 ^ exp) (roundInt mode neg man exp).1 ∧
      ((roundInt mode neg man exp).2 = true ↔ (man : ℚ) * 2 ^ exp ≠ (roundInt mode neg man exp).1) := by
  rw [roundInt]
  by_cases whole : 0 ≤ exp
  · obtain ⟨j, rfl⟩ := Int.eq_ofNat_of_zero_le whole
    have value : (man : ℚ) * 2 ^ (j : Int) = ((man <<< j : Nat) : ℚ) := by
      rw [Nat.shiftLeft_eq, zpow_natCast]
      push_cast
      rfl
    rw [if_pos whole, Int.toNat_natCast, value]
    exact ⟨intRound_self _ _ _, iff_of_false Bool.false_ne_true (not_not.mpr rfl)⟩
  · obtain ⟨k, hk⟩ : ∃ k : Nat, exp = -((k + 1 : Nat) : Int) := ⟨(-exp).toNat - 1, by omega⟩
    subst hk
    have parts := Nat.div_add_mod man (2 ^ (k + 1))
    have small := Nat.mod_lt man (show 0 < 2 ^ (k + 1) by positivity)
    have unit : (0 : ℚ) < 2 * (2 ^ k : Nat) := by positivity
    have value : (man : ℚ) * 2 ^ (-((k + 1 : Nat) : Int)) =
        ((man / 2 ^ (k + 1) : Nat) : ℚ) + ((man % 2 ^ (k + 1) : Nat) : ℚ) / (2 * (2 ^ k : Nat)) := by
      have partsQ : (man : ℚ) = 2 ^ (k + 1) * ((man / 2 ^ (k + 1) : Nat) : ℚ) + ((man % 2 ^ (k + 1) : Nat) : ℚ) := by
        exact_mod_cast parts.symm
      rw [zpow_neg, zpow_natCast]
      push_cast
      rw [pow_succ'] at *
      field_simp
      linarith
    rw [if_neg whole, neg_neg, Int.toNat_natCast]
    simp only [Nat.add_sub_cancel, Nat.shiftRight_eq_div_pow]
    rw [value]
    rw [pow_succ'] at small ⊢
    exact ⟨intRound_decision (by positivity) small, bne_iff_ne.trans (intRound_inexact (by positivity) small)⟩

/-! ## The conversion -/

/-- R640: what a normal number is converted to. -/
theorem toInt_normal {w : Word} {f : Fmt} {a : DWord} {rm : Option RMode} {signed : Bool} {width : Nat}
    (d : decodeFp f a = .num neg man exp false) : fpToInt w f rm signed width a =
      if signed = false ∧ neg = true then ⟨detV, 0, false⟩
      else if intMax signed width < signedInt neg (roundInt (rm.getD (fpRm w)) neg man exp).1 then
        ⟨detV, BitVec.ofInt 64 (intMax signed width), false⟩
      else if signedInt neg (roundInt (rm.getD (fpRm w)) neg man exp).1 < intMin signed width then
        ⟨detV, BitVec.ofInt 64 (intMin signed width), false⟩
      else ⟨if (roundInt (rm.getD (fpRm w)) neg man exp).2 = false then 0 else detI,
        BitVec.ofInt 64 (signedInt neg (roundInt (rm.getD (fpRm w)) neg man exp).1), false⟩ := by
  simp only [fpToInt, d, Bool.false_eq_true, if_false, Bool.and_eq_true, Bool.not_eq_true']
  cases (roundInt (rm.getD (fpRm w)) neg man exp).2 <;> rfl

theorem signedInt_value (neg : Bool) (n : Nat) : ((signedInt neg n : Int) : ℚ) = signedBy neg (n : ℚ) := by
  cases neg <;> simp [signedInt, signedBy]

theorem signedBy_sub_abs (neg : Bool) (x y : ℚ) : |signedBy neg x - signedBy neg y| = |x - y| := by
  rw [abs_sub_signedBy, signedBy_signedBy]

/-- R640: `n` is a neighbouring integer of `v` in the mode. -/
def IntNeighbour (mode : RMode) (v : ℚ) (n : Int) : Prop :=
  match mode with
  | .nearest => |v - n| ≤ 1 / 2 ∧ (|v - n| = 1 / 2 → n % 2 = 0)
  | .zero => |v - n| < 1 ∧ |(n : ℚ)| ≤ |v|
  | .pos => v ≤ n ∧ n < v + 1
  | .neg => n ≤ v ∧ v < n + 1

theorem IntRound.signed {a : ℚ} {n : Nat} (h : IntRound mode neg a n) (positive : 0 < a) :
    IntNeighbour mode (signedBy neg a) (signedInt neg n) := by
  unfold IntNeighbour
  simp only [signedInt_value, signedBy_sub_abs, abs_signedBy, Nat.abs_cast, abs_of_pos positive]
  cases mode with
  | nearest =>
    refine ⟨h.1, fun half => ?_⟩
    have even := h.2 half
    rw [signedInt]
    split <;> omega
  | zero =>
    refine ⟨?_, h.1⟩
    rw [abs_of_nonneg (sub_nonneg.mpr h.1), sub_lt_iff_lt_add']
    exact h.2
  | pos =>
    cases neg
    · exact h
    · refine ⟨neg_le_neg h.1, ?_⟩
      show -(n : ℚ) < -a + 1
      have := h.2
      linarith
  | neg =>
    cases neg
    · exact h
    · refine ⟨neg_le_neg h.1, ?_⟩
      show -a < -(n : ℚ) + 1
      have := h.2
      linarith

end Sys2Proof.Machine

open Sys2Proof.Machine

/-- Settles O39: the integer of the model is a neighbour in the mode. -/
theorem conversionsRoundToIntegers : Obligations.ConversionsRoundToIntegers := by
  intro w f mode signed width a _ x v lo hi finite plain ne
  rcases normal_cases (f := f) (v := a) ⟨finite, plain⟩ with d | ⟨m, e, d, some, -⟩
  · have zero : v = 0 := congrArg Fp.value d
    exact absurd zero ne
  · have someQ : (0 : ℚ) < m := by exact_mod_cast some
    have positive : 0 < (m : ℚ) * 2 ^ e := mul_pos someQ (zpow_pos (by norm_num) _)
    have value : v = signedBy (signBit f a) ((m : ℚ) * 2 ^ e) := (congrArg Fp.value d).trans (value_num ..)
    obtain ⟨round, inexact⟩ := roundInt_spec (mode.getD (fpRm w)) (signBit f a) m e
    refine ⟨signedInt (signBit f a) (roundInt (mode.getD (fpRm w)) (signBit f a) m e).1, ?_, ?_⟩
    · have neighbour := round.signed positive
      rw [← value] at neighbour
      exact neighbour
    · have below : v < 0 ↔ signBit f a = true := by
        have sign := sign_neg (Exact.means_plain (neg := signBit f a) (exp := e) (K := ℚ) some)
        rw [← value] at sign
        change decide (v < 0) = signBit f a at sign
        rw [← sign, decide_eq_true_iff]
      have differs : v = (signedInt (signBit f a) (roundInt (mode.getD (fpRm w)) (signBit f a) m e).1 : Int) ↔
          (roundInt (mode.getD (fpRm w)) (signBit f a) m e).2 = false := by
        rw [value, signedInt_value, signedBy_inj, ← Bool.not_eq_true, inexact, ne_eq, not_not]
      rw [toInt_normal d]
      simp only [below, differs]
      rfl
end

section
/-!
PROOFS. Square roots and reciprocal square roots of magnitudes (46_fpu.md R606, R610, R611).
-/

namespace Sys2Proof.Machine

/-! ## The integer square root -/

theorem sqrtBits_spec (v : Nat) : ∀ n r, r * r ≤ v → v < (r + 2 ^ n) * (r + 2 ^ n) →
    sqrtBits v n r * sqrtBits v n r ≤ v ∧ v < (sqrtBits v n r + 1) * (sqrtBits v n r + 1)
  | 0, _, low, high => ⟨low, high⟩
  | n + 1, r, low, high => by
    rw [sqrtBits]
    by_cases fits : (r + 2 ^ n) * (r + 2 ^ n) ≤ v
    · rw [if_pos fits]
      refine sqrtBits_spec v n _ fits ?_
      rwa [add_assoc, ← two_mul, ← pow_succ']
    · rw [if_neg fits]
      exact sqrtBits_spec v n r low (not_le.mp fits)

theorem isqrt_spec (v : Nat) : isqrt v * isqrt v ≤ v ∧ v < (isqrt v + 1) * (isqrt v + 1) := by
  refine sqrtBits_spec v _ 0 (Nat.zero_le _) ?_
  rw [zero_add, ← pow_add]
  exact Nat.lt_log2_self.trans_le (Nat.pow_le_pow_right (by norm_num) (by omega))

theorem le_isqrt {v n : Nat} (h : n * n ≤ v) : n ≤ isqrt v := by
  by_contra less
  have next : isqrt v + 1 ≤ n := by omega
  exact absurd ((isqrt_spec v).2.trans_le ((Nat.mul_le_mul next next).trans h)) (lt_irrefl _)

/-- A root that an integer and its successor enclose, as an exact magnitude. -/
theorem root_means {neg sticky : Bool} {r : Nat} {exp : Int} {t : ℝ} (positive : 0 < t)
    (low : (r : ℝ) * r ≤ t) (high : t < (r + 1) * (r + 1))
    (exact_ : sticky = false ↔ (r : ℝ) * r = t) (long : 2 ^ 53 ≤ r) :
    (⟨neg, r, exp, sticky⟩ : Exact).Means (Real.sqrt t * 2 ^ exp) := by
  have unit : (0 : ℝ) < 2 ^ exp := zpow_pos (by norm_num) _
  have nonneg : (0 : ℝ) ≤ r := Nat.cast_nonneg r
  have lower : (r : ℝ) ≤ Real.sqrt t := Real.le_sqrt_of_sq_le (by rwa [sq])
  have upper : Real.sqrt t < r + 1 := (Real.sqrt_lt' (by linarith)).mpr (by rwa [sq])
  refine ⟨(by norm_num : 0 < 2 ^ 53).trans_le long, fun plain => ?_, fun s => ⟨?_, mul_lt_mul_of_pos_right upper unit, long⟩⟩
  · rw [← exact_.mp plain, Real.sqrt_mul_self nonneg]
  · refine mul_lt_mul_of_pos_right (lt_of_le_of_ne lower fun same => ?_) unit
    have square : (r : ℝ) * r = t := by
      change (r : ℝ) = Real.sqrt t at same
      rw [same, Real.mul_self_sqrt positive.le]
    exact absurd ((exact_.mpr square).symm.trans s) Bool.false_ne_true

theorem sqrt_scale {t : ℝ} (positive : 0 ≤ t) (j : Int) : Real.sqrt (t * 2 ^ (2 * j)) = Real.sqrt t * 2 ^ j := by
  have square : (2 : ℝ) ^ (2 * j) = 2 ^ j * 2 ^ j := by rw [← zpow_add₀ (by norm_num), two_mul]
  rw [Real.sqrt_mul positive, square, Real.sqrt_mul_self (zpow_pos (by norm_num) _).le]

/-- R606: the exact square root. -/
theorem rootOf_means {man : Nat} (exp : Int) (some : 0 < man) : (rootOf man exp).Means (Real.sqrt ((man : ℝ) * 2 ^ exp)) := by
  obtain ⟨k, j, hk, big, even⟩ : ∃ (k : Nat) (j : Int), (if exp % 2 = 0 then 128 else 129) = k ∧ 128 ≤ k ∧ exp - (k : Int) = 2 * j := by
    split
    · exact ⟨128, (exp - 128) / 2, rfl, le_rfl, by omega⟩
    · exact ⟨129, (exp - 129) / 2, rfl, by norm_num, by omega⟩
  have root : rootOf man exp = ⟨false, isqrt (man <<< k), j, isqrt (man <<< k) * isqrt (man <<< k) != man <<< k⟩ := by
    rw [rootOf, hk]
    rw [even, Int.mul_ediv_cancel_left _ (by norm_num)]
  have value : (man : ℝ) * 2 ^ exp = ((man <<< k : Nat) : ℝ) * 2 ^ (2 * j) := by
    rw [← even, Nat.shiftLeft_eq, zpow_sub₀ (by norm_num), zpow_natCast]
    push_cast
    field_simp
  have size : 2 ^ 128 ≤ man <<< k := by
    rw [Nat.shiftLeft_eq]
    calc 2 ^ 128 = 1 * 2 ^ 128 := (one_mul _).symm
      _ ≤ man * 2 ^ k := Nat.mul_le_mul some (Nat.pow_le_pow_right (by norm_num) big)
  obtain ⟨low, high⟩ := isqrt_spec (man <<< k)
  rw [root, value, sqrt_scale (Nat.cast_nonneg _)]
  refine root_means ?_ (by exact_mod_cast low) (by exact_mod_cast high) ?_ (le_isqrt (le_trans (by norm_num) size))
  · exact_mod_cast lt_of_lt_of_le (by positivity) size
  · rw [bne_eq_false_iff_eq]
    norm_cast

/-- R610: the exact reciprocal square root. -/
theorem rsqrtOf_means {man : Nat} (exp : Int) (some : 0 < man) (small : man < 2 ^ 53) :
    (rsqrtOf man exp).Means (1 / Real.sqrt ((man : ℝ) * 2 ^ exp)) := by
  obtain ⟨k, j, hk, big, even⟩ : ∃ (k : Nat) (j : Int), (if exp % 2 = 0 then 256 else 257) = k ∧ 256 ≤ k ∧ exp + (k : Int) = 2 * j := by
    split
    · exact ⟨256, (exp + 256) / 2, rfl, le_rfl, by omega⟩
    · exact ⟨257, (exp + 257) / 2, rfl, by norm_num, by omega⟩
  have root : rsqrtOf man exp = ⟨false, isqrt (2 ^ k / man), -j, isqrt (2 ^ k / man) * isqrt (2 ^ k / man) * man != 2 ^ k⟩ := by
    rw [rsqrtOf, hk]
    rw [even, Int.mul_ediv_cancel_left _ (by norm_num)]
  have manR : (0 : ℝ) < man := by exact_mod_cast some
  have unit : (0 : ℝ) < 2 ^ exp := zpow_pos (by norm_num) _
  have value : 1 / ((man : ℝ) * 2 ^ exp) = (2 ^ k / man : ℝ) * 2 ^ (2 * -j) := by
    have split : (2 : ℝ) ^ (2 * -j) = (2 ^ exp * 2 ^ k)⁻¹ := by
      rw [show 2 * -j = -(exp + k) by omega, zpow_neg, zpow_add₀ (by norm_num), zpow_natCast]
    rw [split]
    field_simp
  have quotient : 2 ^ 203 ≤ 2 ^ k / man := by
    rw [Nat.le_div_iff_mul_le some]
    calc 2 ^ 203 * man ≤ 2 ^ 203 * 2 ^ 53 := Nat.mul_le_mul_left _ small.le
      _ = 2 ^ 256 := by norm_num
      _ ≤ 2 ^ k := Nat.pow_le_pow_right (by norm_num) big
  obtain ⟨low, high⟩ := isqrt_spec (2 ^ k / man)
  have floor : (isqrt (2 ^ k / man) * isqrt (2 ^ k / man)) * man ≤ 2 ^ k := (Nat.le_div_iff_mul_le some).mp low
  have ceil : 2 ^ k < ((isqrt (2 ^ k / man) + 1) * (isqrt (2 ^ k / man) + 1)) * man := (Nat.div_lt_iff_lt_mul some).mp high
  rw [root, ← Real.sqrt_one, ← Real.sqrt_div zero_le_one, value, sqrt_scale (by positivity)]
  refine root_means (by positivity) ?_ ?_ ?_ (le_isqrt (le_trans (by norm_num) quotient))
  · rw [le_div_iff₀ manR]
    exact_mod_cast floor
  · rw [div_lt_iff₀ manR]
    exact_mod_cast ceil
  · rw [bne_eq_false_iff_eq, eq_div_iff manR.ne']
    norm_cast

end Sys2Proof.Machine
end

section
/-!
PROOFS. Results within some units in the last place (46_fpu.md R608 to R611).
-/

namespace Sys2Proof.Machine

variable {f : Fmt}

theorem Fmt.eight_le (f : Fmt) : 8 ≤ 2 ^ f.frac := by cases f <;> decide

/-! ## Patterns near an exact magnitude -/

/-- R582: the number of a biased exponent and a fraction that may reach the next exponent. -/
theorem magValue_split {e r : Nat} (some : 0 < e) (fits : r ≤ 2 ^ f.frac) (inside : e + 1 < 2 ^ f.ebits - 1) :
    magValue f (e * 2 ^ f.frac + r) = ((2 ^ f.frac + r : Nat) : ℚ) * 2 ^ ((e : Int) - f.bias - f.frac) := by
  have positive : 0 < 2 ^ f.frac := by positivity
  rcases fits.lt_or_eq with less | rfl
  · have quotient : (e * 2 ^ f.frac + r) / 2 ^ f.frac = e := by
      rw [Nat.add_comm, Nat.add_mul_div_right _ _ positive, Nat.div_eq_of_lt less, Nat.zero_add]
    have rest : (e * 2 ^ f.frac + r) % 2 ^ f.frac = r := by
      rw [Nat.add_comm, Nat.add_mul_mod_self_right, Nat.mod_eq_of_lt less]
    have finite : e * 2 ^ f.frac + r < infMag f := (Nat.div_lt_iff_lt_mul positive).mp (by omega)
    rw [magValue_normal (by omega) finite, quotient, rest]
  · have next : e * 2 ^ f.frac + 2 ^ f.frac = (e + 1) * 2 ^ f.frac := by ring
    have quotient : (e + 1) * 2 ^ f.frac / 2 ^ f.frac = e + 1 := Nat.mul_div_cancel _ positive
    have rest : (e + 1) * 2 ^ f.frac % 2 ^ f.frac = 0 := Nat.mul_mod_left _ _
    have finite : (e + 1) * 2 ^ f.frac < infMag f := (Nat.div_lt_iff_lt_mul positive).mp (by omega)
    rw [next, magValue_normal (by omega) finite, quotient, rest, Nat.add_zero,
      show ((e + 1 : Nat) : Int) - f.bias - f.frac = (e : Int) - f.bias - f.frac + 1 by push_cast; ring, zpow_add_one₀ (by norm_num)]
    push_cast
    ring

/-- R587: the numbers of the magnitude bits are in their order. -/
theorem magValue_mono {n n' : Nat} (le : n ≤ n') (h' : n' < infMag f) : magValue f n ≤ magValue f n' := by
  rcases le.lt_or_eq with less | rfl
  · exact (magValue_strict less h').le
  · exact le_rfl

section
variable {e man ulps low : Nat} (some : 0 < e) (inside : e + 1 < 2 ^ f.ebits - 1) (least : 2 ^ f.frac ≤ man)
  (most : man < 2 ^ (f.frac + 1)) (few : ulps ≤ 2) (lowest : 2 * (man - ulps) ≤ low) (highest : low ≤ 2 * man)

include some inside least most few in
/-- The upper end of the band. -/
theorem gridFp_upper : gridFp f e (2 * (man + ulps)) false < infMag f ∧
    magValue f (gridFp f e (2 * (man + ulps)) false) ≤ ((man + ulps : Nat) : ℚ) * 2 ^ ((e : Int) - f.bias - f.frac) := by
  have eight := f.eight_le
  have top : (e + 1) * 2 ^ f.frac < infMag f := Nat.mul_lt_mul_of_pos_right inside (by positivity)
  have next : (e + 1) * 2 ^ f.frac = e * 2 ^ f.frac + 2 ^ f.frac := by ring
  rw [pow_succ] at most
  rw [gridFp, if_neg (by omega)]
  by_cases binade : 2 * (man + ulps) ≤ 4 * 2 ^ f.frac
  · rw [if_pos binade, if_neg Bool.false_ne_true, show 2 * (man + ulps) / 2 = man + ulps by omega,
      magValue_split some (by omega) inside, show 2 ^ f.frac + (man + ulps - 2 ^ f.frac) = man + ulps by omega]
    exact ⟨by omega, le_rfl⟩
  · have quarter : 2 * (man + ulps) / 4 = 2 ^ f.frac := by omega
    rw [if_neg binade, if_neg Bool.false_ne_true, quarter, Nat.sub_self, Nat.add_zero, next, magValue_split some le_rfl inside]
    refine ⟨by omega, mul_le_mul_of_nonneg_right ?_ (zpow_pos (by norm_num) _).le⟩
    exact_mod_cast (by omega : 2 ^ f.frac + 2 ^ f.frac ≤ man + ulps)

include some least most few highest in
/-- The lower end of the band lies below the upper one. -/
theorem gridFp_order : max (gridFp f e low true) (2 ^ f.frac) ≤ gridFp f e (2 * (man + ulps)) false := by
  have eight := f.eight_le
  have next : (e + 1) * 2 ^ f.frac = e * 2 ^ f.frac + 2 ^ f.frac := by ring
  have previous : (e - 1) * 2 ^ f.frac + 2 ^ f.frac = e * 2 ^ f.frac := by
    rw [← Nat.succ_mul, Nat.succ_eq_add_one, Nat.sub_add_cancel some]
  rw [pow_succ] at most
  have upper : e * 2 ^ f.frac + (man - 2 ^ f.frac) ≤ gridFp f e (2 * (man + ulps)) false := by
    rw [gridFp, if_neg (by omega)]
    split
    · rw [if_neg Bool.false_ne_true]
      omega
    · rw [if_neg Bool.false_ne_true]
      omega
  have lower : gridFp f e low true ≤ e * 2 ^ f.frac + (man - 2 ^ f.frac) := by
    rw [gridFp]
    split
    · omega
    · rw [if_pos (by omega), if_pos rfl]
      omega
  exact (max_le lower (by omega)).trans upper

include some inside least most few lowest highest in
/-- The lower end of the band. -/
theorem gridFp_lower :
    (low : ℚ) * 2 ^ ((e : Int) - f.bias - f.frac - 1) ≤ magValue f (max (gridFp f e low true) (2 ^ f.frac)) := by
  have eight := f.eight_le
  have finite : max (gridFp f e low true) (2 ^ f.frac) < infMag f :=
    (gridFp_order some least most few highest).trans_lt (gridFp_upper some inside least most few).1
  have double : (2 : ℚ) ^ ((e : Int) - f.bias - f.frac) = 2 * 2 ^ ((e : Int) - f.bias - f.frac - 1) := by
    rw [← zpow_one_add₀ (by norm_num)]
    congr 1
    ring
  have unit : (0 : ℚ) < 2 ^ ((e : Int) - f.bias - f.frac - 1) := zpow_pos (by norm_num) _
  rw [pow_succ] at most
  by_cases below : low < 2 * 2 ^ f.frac
  · rcases Nat.lt_or_ge 1 e with above | first
    · refine le_trans (le_of_eq ?_) (magValue_mono (le_max_left _ _) finite)
      rw [gridFp, if_pos below, magValue_split (by omega) (by omega) (by omega), show 2 ^ f.frac + (low - 2 ^ f.frac) = low by omega]
      congr 2
      omega
    · obtain rfl : e = 1 := by omega
      refine le_trans ?_ (magValue_mono (le_max_right _ _) finite)
      have smallest := magValue_split (f := f) (e := 1) (r := 0) some (Nat.zero_le _) inside
      rw [Nat.one_mul, Nat.add_zero, double] at smallest
      rw [smallest, ← mul_assoc]
      refine mul_le_mul_of_nonneg_right ?_ unit.le
      exact_mod_cast (by omega : low ≤ (2 ^ f.frac + 0) * 2)
  · refine le_trans ?_ (magValue_mono (le_max_left _ _) finite)
    rw [gridFp, if_neg below, if_pos (by omega), if_pos rfl, magValue_split some (by omega) inside, double, ← mul_assoc]
    refine mul_le_mul_of_nonneg_right ?_ unit.le
    exact_mod_cast (by omega : low ≤ (2 ^ f.frac + ((low + 1) / 2 - 2 ^ f.frac)) * 2)

end

/-! ## The band -/

theorem clampInt_nat {lo hi : Nat} (k : Int) (h : lo ≤ hi) : ∃ n, (clampInt lo hi k).toNat = n ∧ lo ≤ n ∧ n ≤ hi := by
  refine ⟨_, rfl, ?_⟩
  rw [clampInt]
  split
  · omega
  · split <;> omega

section
variable {K : Type} [Field K] [LinearOrder K] [IsStrictOrderedRing K] {x : Exact} {a : K}

/-- The binade of a number between two neighbours. -/
theorem Between.exponent {q m : Nat} {e : Int} (h : Between q m e a) (n : Int) : n ≤ e + q ↔ 2 ^ n ≤ a := by
  rw [exponent_iff (K := K) h.low h.high]
  refine ⟨fun le => le.trans h.ge, fun le => le_of_not_gt fun less => ?_⟩
  exact absurd (h.lt.trans_le (rep_gap h.low (rep_two_zpow q n) less)) (not_lt.mpr le)

/-- R608: the lower end of the band in halves of the last bit. -/
def bandLow (sticky : Bool) (man rem half ulps : Nat) : Nat :=
  if rem = 0 && !sticky then 2 * (man - ulps)
  else if rem < half || (rem == half && !sticky) then 2 * (man - ulps) + 1
  else 2 * (man - ulps) + 2

theorem bandFp_eq {f : Fmt} {ulps m rem half : Nat} {e k : Int} (cut : x.cut (f.frac + 1) = (m, e, rem, half)) :
    bandFp f x ulps k = packFp f x.neg 0 (clampInt
      ((max (gridFp f (e + f.frac + f.bias).toNat (bandLow x.sticky m rem half ulps) true) (2 ^ f.frac) : Nat) : Int)
      (gridFp f (e + f.frac + f.bias).toNat (2 * (m + ulps)) false)
      ((gridFp f (e + f.frac + f.bias).toNat (2 * m) false : Int) + k)).toNat := by
  rw [bandFp, cut]
  rfl

/-- The lower end of the band is at most `ulps` below the magnitude. -/
theorem Exact.IsCut.bandLow {q m rem half ulps : Nat} {e : Int} (is : x.IsCut q a m e rem half) (one : 1 ≤ ulps) (few : ulps ≤ m) :
    2 * (m - ulps) ≤ bandLow x.sticky m rem half ulps ∧ bandLow x.sticky m rem half ulps ≤ 2 * m ∧
      2 * a ≤ (bandLow x.sticky m rem half ulps + 2 * ulps : K) * 2 ^ e := by
  have whole : ((m - ulps : Nat) : K) = m - ulps := Nat.cast_sub few
  rw [Machine.bandLow]
  split
  · rename_i plain
    have value := is.even.mp (by simpa using plain)
    refine ⟨le_rfl, by omega, le_of_eq ?_⟩
    push_cast
    rw [whole, value]
    ring
  · split
    · rename_i below
      have upper : 2 * a ≤ (2 * (m : K) + 1) * 2 ^ e := by
        refine not_lt.mp fun more => ?_
        have := is.more.mpr more
        rw [Bool.or_eq_true, decide_eq_true_iff, Bool.and_eq_true, beq_iff_eq, Bool.not_eq_true'] at below
        rcases this with above | ⟨tie, sticky⟩ <;> rcases below with under | ⟨tie', plain⟩
        · omega
        · omega
        · omega
        · rw [sticky] at plain
          cases plain
      refine ⟨by omega, by omega, upper.trans_eq ?_⟩
      push_cast
      rw [whole]
      ring
    · refine ⟨by omega, by omega, (mul_lt_mul_of_pos_left is.between.lt two_pos).le.trans_eq ?_⟩
      push_cast
      rw [whole]
      ring

/-- R608, D24: the result of another product is within `ulps` units in the last place of the exact magnitude. -/
theorem Exact.Means.bandFp_near (h : x.Means a) (f : Fmt) {ulps : Nat} (one : 1 ≤ ulps) (few : ulps ≤ 2) (k : Int) (least : f.least ≤ a)
    (most : a ≤ 2 ^ ((f.bias : Int) - 1)) :
    ∃ n, bandFp f x ulps k = packFp f x.neg 0 n ∧ n < infMag f ∧ ∃ m e, Between f.frac m e a ∧
      a - ulps * 2 ^ e ≤ (magValue f n : K) ∧ (magValue f n : K) ≤ a + ulps * 2 ^ e := by
  obtain ⟨m, e, rem, half, cut, is⟩ := h.cut_is f.frac_pos.2
  have between := is.between
  have low := between.low
  have eight := f.eight_le
  have bias := f.two_bias
  have unit : (0 : K) < 2 ^ e := zpow_pos (by norm_num) _
  have exponentLow := (between.exponent _).mpr least
  have exponentHigh : e + f.frac ≤ (f.bias : Int) - 1 := by
    by_contra above
    have := (between.exponent (f.bias : Int)).mp (by omega)
    exact absurd ((this.trans most).trans_lt (zpow_lt_zpow_right₀ (by norm_num) (by omega))) (lt_irrefl _)
  rw [Fmt.emin_eq] at exponentLow
  obtain ⟨b, biased⟩ : ∃ b : Nat, e + f.frac + f.bias = b := ⟨_, (Int.toNat_of_nonneg (by omega)).symm⟩
  have exponent : (b : Int) - f.bias - f.frac = e := by omega
  obtain ⟨lowest, highest, below⟩ := is.bandLow one (by omega)
  have order := gridFp_order (f := f) (e := b) (by omega) low between.high few highest
  obtain ⟨finite, upper⟩ := gridFp_upper (f := f) (e := b) (by omega) (by omega) low between.high few
  have lower := gridFp_lower (f := f) (e := b) (by omega) (by omega) low between.high few lowest highest
  rw [exponent] at upper lower
  have eq := bandFp_eq (ulps := ulps) (k := k) cut
  rw [biased, Int.toNat_natCast] at eq
  obtain ⟨n, same, nLow, nHigh⟩ := clampInt_nat ((gridFp f b (2 * m) false : Int) + k) order
  rw [same] at eq
  have above := lower.trans (magValue_mono nLow (nHigh.trans_lt finite))
  have under := (magValue_mono nHigh finite).trans upper
  rw [← Rat.cast_le (K := K)] at above under
  push_cast at above under
  rw [zpow_sub_one₀ (by norm_num)] at above
  refine ⟨n, eq, nHigh.trans_lt finite, m, e, between, ?_, ?_⟩
  · linarith
  · have := between.ge
    linarith

end

end Sys2Proof.Machine
end

section
/-!
PROOFS. The accuracy of square roots and reciprocals (46_fpu.md R606, R608 to R611).
-/

namespace Sys2Proof.Machine

variable {p : Product} {w : Word} {f : Fmt} {a : DWord}

/-- R582: a normal number in numbers. -/
theorem decode_normal_range {K : Type} [Field K] [LinearOrder K] [IsStrictOrderedRing K] {n : Bool} {m : Nat} {e : Int}
    (d : decodeFp f a = .num n m e false) : (f.least : K) ≤ m * 2 ^ e ∧ (m : K) * 2 ^ e ≤ f.most := by
  obtain ⟨low, high, some, small⟩ := decode_exponent d
  have full : 2 ^ f.frac ≤ m := by
    rw [decodeFp_eq, fpOf] at d
    split at d
    · split at d <;> cases d
    · split at d
      · split at d <;> cases d
      · cases d
        exact Nat.le_add_right _ _
  have unit : (0 : K) < 2 ^ e := zpow_pos (by norm_num) _
  refine ⟨(exponent_iff full small _).mp (by omega), ?_⟩
  have mantissa : (m : K) ≤ ((2 ^ (f.frac + 1) - 1 : Nat) : K) := by exact_mod_cast Nat.le_sub_one_of_lt small
  exact mul_le_mul mantissa (zpow_le_zpow_right₀ (by norm_num) high) unit.le (Nat.cast_nonneg _)

theorem normal_pos {n : Bool} {m : Nat} {e : Int} (d : decodeFp f a = .num n m e false) : n = signBit f a ∧ 0 < m ∧ m < 2 ^ 53 := by
  obtain ⟨-, -, some, small⟩ := decode_exponent d
  refine ⟨?_, some, small_mantissa small⟩
  rcases decode_cases f a with ⟨_, d'⟩ | d' | d' | ⟨_, _, d', -⟩ | ⟨_, _, d', -⟩ <;> cases d.symm.trans d'
  rfl

/-- R582: a magnitude below that of infinity, with a sign. -/
theorem decode_band {n : Nat} (neg : Bool) (h : n < infMag f) :
    (decodeFp f (packFp f neg 0 n)).finite ∧ (decodeFp f (packFp f neg 0 n)).value = signedBy neg (magValue f n) := by
  have top := exponent_lt h
  have parts : packFp f neg 0 n = packFp f neg (n / 2 ^ f.frac) (n % 2 ^ f.frac) := by
    have split := Nat.div_add_mod n (2 ^ f.frac)
    rw [packFp, packFp, Nat.add_zero, Nat.add_mul, Nat.add_assoc, Nat.mul_comm (n / _), split]
  rw [parts, decode_pack f neg (top.trans_le (Nat.sub_le _ _)) (Nat.mod_lt _ (by positivity))]
  refine ⟨?_, value_signed f neg _ _⟩
  rw [fpOf, if_neg top.ne]
  split
  · split <;> trivial
  · trivial

section
variable {K : Type} [Field K] [LinearOrder K] [IsStrictOrderedRing K] {x : Exact} {y : K}

theorem IsRound.near {q m : Nat} {e : Int} {mode : RMode} {neg : Bool} {c : K} (h : IsRound mode neg m e y c) (between : Between q m e y) :
    |c - y| ≤ 2 ^ e := by
  have low := between.ge
  have high := between.lt
  have step : ((m : K) + 1) * 2 ^ e = m * 2 ^ e + 2 ^ e := by ring
  rw [step] at high
  rcases h with ⟨-, rfl⟩ | ⟨-, rfl⟩
  · rw [step, abs_of_nonneg] <;> linarith
  · rw [abs_of_nonpos] <;> linarith

/-- R608 to R611: the result is near the exact magnitude, and correctly rounded if it has no free offset. -/
theorem Exact.Means.nearFp_near (h : x.Means y) (w : Word) (f : Fmt) {ulps : Nat} (one : 1 ≤ ulps) (few : ulps ≤ 2) (k : Option Int)
    (least : f.least ≤ y) (most : y ≤ 2 ^ ((f.bias : Int) - 1)) :
    ∃ c : ℚ, (decodeFp f (nearFp w f x ulps k)).finite ∧ (decodeFp f (nearFp w f x ulps k)).value = signedBy x.neg c ∧
      (∃ m e, Between f.frac m e y ∧ |(c : K) - y| ≤ ulps * 2 ^ e) ∧
      (k = none → RoundedTo (fpRm w) f.Number (signedBy x.neg y) (signedBy x.neg (c : K))) := by
  cases k with
  | none =>
    obtain ⟨man, exp, inexact, rounds, fits, round⟩ := h.roundFp_within w f least (most.trans (f.le_most (by omega)))
    obtain ⟨m, e, between, isRound, -⟩ := rounds.between
    have normal := decode_normal f x.neg ⟨rounds.low, rounds.high⟩ fits
    have value : (((man : ℚ) * 2 ^ exp : ℚ) : K) = (man : K) * 2 ^ exp := by push_cast; rfl
    have unit : (0 : K) < 2 ^ e := zpow_pos (by norm_num) _
    have several : (1 : K) ≤ ulps := by exact_mod_cast one
    refine ⟨(man : ℚ) * 2 ^ exp, ?_, ?_, ⟨m, e, between, ?_⟩, fun _ => ?_⟩
    · rw [nearFp, round, normal]
      trivial
    · rw [nearFp, round, normal]
      exact value_num ..
    · rw [value]
      exact (isRound.near between).trans (le_mul_of_one_le_left unit.le several)
    · rw [value]
      exact rounds.roundedTo fits
  | some k =>
    obtain ⟨n, band, finite, m, e, between, low, high⟩ := h.bandFp_near f one few k least most
    obtain ⟨number, value⟩ := decode_band x.neg finite
    refine ⟨magValue f n, ?_, ?_, ⟨m, e, between, ?_⟩, nofun⟩
    · rw [nearFp, band]
      exact number
    · rw [nearFp, band]
      exact value
    · rw [abs_le]
      constructor <;> linarith

/-- The unit in the last place belongs to the binade. -/
theorem Between.unit {q m : Nat} {e e' : Int} (h : Between q m e y) (low : 2 ^ e' ≤ y) (high : y < 2 ^ (e' + 1)) : e = e' - q := by
  have le := (h.exponent e').mpr low
  have lt := mt (h.exponent (e' + 1)).mp (not_le.mpr high)
  omega

end

theorem not_top_lt {K : Type} [Field K] [LinearOrder K] [IsStrictOrderedRing K] {x : Exact} {y : K} (h : x.Means y) (f : Fmt)
    (least : f.least ≤ y) : ¬ x.top < f.emin := by
  rw [h.top_lt_iff]
  exact not_lt.mpr least

/-- R608, R609: the reciprocal of a normal number. -/
theorem recip_accurate {k : Option Int} {e : Int} {n : Bool} {m : Nat} {exp : Int} (d : decodeFp f a = .num n m exp false)
    (low : (2 : ℚ) ^ e ≤ |1 / (decodeFp f a).value|) (high : |1 / (decodeFp f a).value| < (2 : ℚ) ^ (e + 1))
    (least : f.least ≤ |1 / (decodeFp f a).value|) :
    (fpRecip p w f recipCell k a).det = detI ∧ (fpRecip p w f recipCell k a).flushed = false ∧
      (decodeFp f (fpRecip p w f recipCell k a).val).finite ∧
      |(decodeFp f (fpRecip p w f recipCell k a).val).value - 1 / (decodeFp f a).value| ≤ 2 ^ (e - f.frac) ∧
      (k = none → RoundedTo (fpRm w) f.grid (1 / (decodeFp f a).value) (decodeFp f (fpRecip p w f recipCell k a).val).value) := by
  obtain ⟨-, some, small⟩ := normal_pos d
  have means := Exact.means_recip (neg := n) (e := exp) some small
  have sign : (quotient n 1 0 m exp).neg = n := rfl
  rw [d, recip_value, abs_signedBy, abs_of_pos means.pos] at low high least
  have most : 1 / ((m : ℚ) * 2 ^ exp) ≤ 2 ^ ((f.bias : Int) - 1) := by
    have bound := (decode_normal_range (K := ℚ) d).1
    have flip : (2 : ℚ) ^ ((f.bias : Int) - 1) = 1 / f.least := by
      rw [Fmt.least, Fmt.emin_eq, one_div, ← zpow_neg]
      congr 1
      ring
    rw [flip]
    exact one_div_le_one_div_of_le (least_pos f) bound
  have run : fpRecip p w f recipCell k a = ⟨detI, nearFp w f (quotient n 1 0 m exp) 1 k, false⟩ := by
    rw [fpRecip, template_one_plain d ⟨rfl, rfl, rfl⟩]
    dsimp only
    rw [recipCell]
    simp only [if_neg (not_top_lt means f least)]
  obtain ⟨c, finite, value, ⟨m', e', between, near⟩, rounded⟩ := means.nearFp_near w f le_rfl (by norm_num) k least most
  have unit := between.unit low high
  rw [sign] at value rounded
  rw [run, d, recip_value]
  refine ⟨rfl, rfl, finite, ?_, fun none => ?_⟩
  · rw [value, signedBy_sub_abs, ← unit]
    simpa using near
  · have correct := rounded none
    rw [number_rat] at correct
    rw [value]
    simpa using correct

/-- R610: the reciprocal square root of a positive number, as a real number. -/
theorem rsqrt_range {v : ℝ} (positive : 0 < v) (least : (f.least : ℝ) ≤ v) (most : v ≤ f.most) :
    (f.least : ℝ) ≤ 1 / Real.sqrt v ∧ 1 / Real.sqrt v ≤ 2 ^ ((f.bias : Int) - 1) := by
  have root := Real.sqrt_pos.mpr positive
  have square : Real.sqrt v * Real.sqrt v = v := Real.mul_self_sqrt positive.le
  have two : (2 : ℝ) ≠ 0 := by norm_num
  have bias : 7 ≤ f.bias := by cases f <;> decide
  constructor
  · have upper : Real.sqrt v ≤ 2 ^ ((f.bias : Int) - 1) := by
      refine Real.sqrt_le_iff.mpr ⟨(zpow_pos (by norm_num) _).le, (most.trans f.most_lt_zpow.le).trans ?_⟩
      rw [sq, ← zpow_add₀ two]
      exact zpow_le_zpow_right₀ (by norm_num) (by omega)
    rw [le_div_iff₀ root]
    calc f.least * Real.sqrt v ≤ f.least * 2 ^ ((f.bias : Int) - 1) := mul_le_mul_of_nonneg_left upper (zpow_pos (by norm_num) _).le
      _ = 1 := by
        rw [Fmt.least, Fmt.emin_eq, ← zpow_add₀ two]
        norm_num
  · have lower : 2 ^ (1 - (f.bias : Int)) ≤ Real.sqrt v := by
      refine Real.le_sqrt_of_sq_le (le_trans ?_ least)
      rw [sq, ← zpow_add₀ two]
      exact zpow_le_zpow_right₀ (by norm_num) (by rw [Fmt.emin_eq]; omega)
    rw [div_le_iff₀ root]
    calc (1 : ℝ) = 2 ^ ((f.bias : Int) - 1) * 2 ^ (1 - (f.bias : Int)) := by
          rw [← zpow_add₀ two]
          norm_num
      _ ≤ 2 ^ ((f.bias : Int) - 1) * Real.sqrt v := mul_le_mul_of_nonneg_left lower (zpow_pos (by norm_num) _).le

/-- R610: the binade of a reciprocal square root. -/
theorem rsqrt_binade {v : ℝ} {e : Int} (low : (2 : ℝ) ^ e * 2 ^ e ≤ 1 / v) (high : 1 / v < (2 : ℝ) ^ (e + 1) * 2 ^ (e + 1)) :
    (2 : ℝ) ^ e ≤ 1 / Real.sqrt v ∧ 1 / Real.sqrt v < 2 ^ (e + 1) := by
  have root : 1 / Real.sqrt v = Real.sqrt (1 / v) := by rw [Real.sqrt_div zero_le_one, Real.sqrt_one]
  rw [root]
  exact ⟨Real.le_sqrt_of_sq_le (by rwa [sq]), (Real.sqrt_lt' (zpow_pos (by norm_num) _)).mpr (by rwa [sq])⟩

/-- R610: a number within two units in the last place of a reciprocal square root. -/
theorem rsqrt_band {v y u : ℚ} (positive : 0 < v) (near : |(y : ℝ) - 1 / Real.sqrt v| ≤ 2 * u) (above : 4 * (u : ℝ) < 1 / Real.sqrt v) :
    0 < y - 2 * u ∧ (y - 2 * u) * (y - 2 * u) * v ≤ 1 ∧ 1 ≤ (y + 2 * u) * (y + 2 * u) * v := by
  have positiveR : (0 : ℝ) < v := by exact_mod_cast positive
  have root := Real.sqrt_pos.mpr positiveR
  have one : 1 / Real.sqrt v * (1 / Real.sqrt v) * v = 1 := by
    have square : Real.sqrt v * Real.sqrt v = v := Real.mul_self_sqrt positiveR.le
    rw [div_mul_div_comm, square]
    field_simp
  have inverse : 0 < 1 / Real.sqrt v := one_div_pos.mpr root
  obtain ⟨low, high⟩ := abs_le.mp near
  generalize 1 / Real.sqrt (v : ℝ) = t at *
  have under : 0 < (y : ℝ) - 2 * u := by linarith
  refine ⟨by exact_mod_cast under, ?_, ?_⟩
  · have square : ((y : ℝ) - 2 * u) * (y - 2 * u) ≤ t * t := mul_self_le_mul_self under.le (by linarith)
    have scaled := (mul_le_mul_of_nonneg_right square positiveR.le).trans_eq one
    exact_mod_cast scaled
  · have square : t * t ≤ ((y : ℝ) + 2 * u) * (y + 2 * u) := mul_self_le_mul_self inverse.le (by linarith)
    have scaled := one.symm.le.trans (mul_le_mul_of_nonneg_right square positiveR.le)
    exact_mod_cast scaled

/-- R610, R611: the reciprocal square root of a positive normal number. -/
theorem rsqrt_accurate {k : Option Int} {e : Int} {m : Nat} {exp : Int} (d : decodeFp f a = .num false m exp false)
    (low : (2 : ℚ) ^ e * 2 ^ e ≤ 1 / (decodeFp f a).value) (high : 1 / (decodeFp f a).value < (2 : ℚ) ^ (e + 1) * 2 ^ (e + 1)) :
    let r := fpRecip p w f rsqrtCell k a
    let y := (decodeFp f r.val).value
    let ulp : ℚ := 2 ^ (e - f.frac)
    r.det = detI ∧ r.flushed = false ∧ (decodeFp f r.val).finite ∧ 0 < y - 2 * ulp ∧
      (y - 2 * ulp) * (y - 2 * ulp) * (decodeFp f a).value ≤ 1 ∧ 1 ≤ (y + 2 * ulp) * (y + 2 * ulp) * (decodeFp f a).value ∧
      (k = none → RoundedTo (fpRm w) f.realGrid (1 / Real.sqrt (decodeFp f a).value) y) := by
  intro r y ulp
  obtain ⟨-, some, small⟩ := normal_pos d
  have means := rsqrtOf_means exp some small
  have value : (((decodeFp f a).value : ℚ) : ℝ) = (m : ℝ) * 2 ^ exp := by
    rw [d]
    exact cast_value_num ..
  obtain ⟨least, most⟩ := decode_normal_range (K := ℝ) d
  rw [← value] at means least most
  have positiveR : (0 : ℝ) < (decodeFp f a).value := (zpow_pos (by norm_num) _).trans_le least
  have positive : 0 < (decodeFp f a).value := by exact_mod_cast positiveR
  obtain ⟨inLow, inHigh⟩ := rsqrt_range positiveR least most
  rw [← Rat.cast_le (K := ℝ)] at low
  rw [← Rat.cast_lt (K := ℝ)] at high
  push_cast at low high
  obtain ⟨binLow, binHigh⟩ := rsqrt_binade low high
  have run : r = ⟨detI, nearFp w f (rsqrtOf m exp) 2 k, false⟩ := template_one_plain d ⟨rfl, rfl, rfl⟩
  obtain ⟨c, finite, result, ⟨m', e', between, near⟩, rounded⟩ := means.nearFp_near w f one_le_two le_rfl k inLow inHigh
  have same : y = c := by
    simp only [y, run]
    exact result
  have unit := between.unit binLow binHigh
  have ulpR : ((ulp : ℚ) : ℝ) = 2 ^ e' := by
    rw [unit]
    simp only [ulp]
    push_cast
    rfl
  have four : 4 * ((ulp : ℚ) : ℝ) < 1 / Real.sqrt (decodeFp f a).value := by
    refine lt_of_lt_of_le ?_ binLow
    have eight : (8 : ℝ) ≤ 2 ^ f.frac := by exact_mod_cast f.eight_le
    have whole : (2 : ℝ) ^ e = 2 ^ f.frac * 2 ^ e' := by
      rw [unit, zpow_sub₀ (by norm_num), zpow_natCast]
      field_simp
    have small : (0 : ℝ) < 2 ^ e' := zpow_pos (by norm_num) _
    rw [ulpR, whole]
    exact mul_lt_mul_of_pos_right (by linarith) small
  obtain ⟨positiveY, below, above⟩ := rsqrt_band positive (y := c) (u := ulp) (by rw [ulpR]; exact_mod_cast near) four
  rw [same]
  refine ⟨congrArg FpRes.det run, congrArg FpRes.flushed run, ?_, positiveY, below, above, rounded⟩
  rw [run]
  exact finite

/-! ## Square roots -/

theorem sqrt_range {v : ℝ} (least : (f.least : ℝ) ≤ v) (most : v ≤ f.most) :
    (f.least : ℝ) ≤ Real.sqrt v ∧ Real.sqrt v ≤ f.most := by
  have positive : 0 < v := (zpow_pos (by norm_num) _).trans_le least
  have bias := f.bias_pos
  have one : (f.least : ℝ) ≤ 1 := zpow_le_one_of_nonpos₀ (by norm_num) (by rw [Fmt.emin_eq]; omega)
  have oneMost : (1 : ℝ) ≤ f.most := by
    have := f.le_most (K := ℝ) (n := 0) (by omega)
    rwa [zpow_zero] at this
  rcases le_total v 1 with less | more
  · refine ⟨least.trans (Real.le_sqrt_of_sq_le ?_), (Real.sqrt_le_one.mpr less).trans oneMost⟩
    rw [sq]
    exact mul_le_of_le_one_left positive.le less
  · refine ⟨one.trans (Real.one_le_sqrt.mpr more), le_trans (Real.sqrt_le_iff.mpr ⟨positive.le, ?_⟩) most⟩
    rw [sq]
    exact le_mul_of_one_le_left positive.le more

/-- R606: the square root of a positive normal number. -/
theorem sqrt_accurate {m : Nat} {exp : Int} (d : decodeFp f a = .num false m exp false) :
    let r := fpSqrt p w f a
    let y := (decodeFp f r.val).value
    (decodeFp f r.val).finite ∧ RoundedTo (fpRm w) f.realGrid (Real.sqrt (decodeFp f a).value) y ∧ r.flushed = false ∧
      r.det = if y * y = (decodeFp f a).value then 0 else detI := by
  intro r y
  obtain ⟨-, some, small⟩ := normal_pos d
  have means := rootOf_means exp some
  have value : (((decodeFp f a).value : ℚ) : ℝ) = (m : ℝ) * 2 ^ exp := by
    rw [d]
    exact cast_value_num ..
  obtain ⟨least, most⟩ := decode_normal_range (K := ℝ) d
  rw [← value] at means least most
  have positiveR : (0 : ℝ) < (decodeFp f a).value := (zpow_pos (by norm_num) _).trans_le least
  obtain ⟨inLow, inHigh⟩ := sqrt_range least most
  obtain ⟨man, ex, inexact, rounds, fits, round⟩ := means.roundFp_within w f inLow inHigh
  have run : r = ⟨if inexact then detI else 0, normalFp f false man ex, false⟩ := by
    have eval : r = ⟨(roundFp w f (rootOf m exp)).1, (roundFp w f (rootOf m exp)).2, false⟩ := template_one_plain d ⟨rfl, rfl, rfl⟩
    rw [eval, round]
    rfl
  have normal := decode_normal f false ⟨rounds.low, rounds.high⟩ fits
  have result : y = (man : ℚ) * 2 ^ ex := by
    simp only [y, run, normal]
    exact value_num ..
  have resultR : (y : ℝ) = (man : ℝ) * 2 ^ ex := by
    rw [result]
    push_cast
    rfl
  have exact_ : (man : ℝ) * 2 ^ ex = Real.sqrt (decodeFp f a).value ↔ y * y = (decodeFp f a).value := by
    rw [← resultR, eq_comm, Real.sqrt_eq_iff_mul_self_eq positiveR.le]
    · norm_cast
      exact eq_comm
    · rw [resultR]
      positivity
  refine ⟨?_, ?_, congrArg FpRes.flushed run, ?_⟩
  · rw [run, normal]
    trivial
  · rw [resultR]
    exact rounds.roundedTo fits
  · rw [congrArg FpRes.det run]
    simp only [← exact_]
    cases i : inexact with
    | true => rw [if_neg (rounds.inexact.mp i)]; rfl
    | false =>
      rw [if_pos (not_ne_iff.mp fun ne => Bool.false_ne_true (i.symm.trans (rounds.inexact.mpr ne)))]
      rfl

/-- A positive normal number. -/
theorem positive_num (finite : (decodeFp f a).finite) (plain : (decodeFp f a).isSubnormal = false) (positive : 0 < (decodeFp f a).value) :
    ∃ m e, decodeFp f a = .num false m e false := by
  rcases normal_cases (f := f) (v := a) ⟨finite, plain⟩ with d | ⟨m, e, d, -⟩
  · rw [d] at positive
    exact absurd positive (lt_irrefl 0)
  · rw [d, value_num] at positive
    cases n : signBit f a
    · exact ⟨m, e, by rw [d, n]⟩
    · rw [n] at positive
      have nonneg : 0 ≤ (m : ℚ) * 2 ^ e := by positivity
      exact absurd positive (not_lt.mpr (neg_nonpos.mpr nonneg))

end Sys2Proof.Machine

open Sys2Proof.Machine

/-- Settles O35: the exact roots and quotients are what the model rounds, or keeps within a band. -/
theorem rootsAndReciprocalsAreAccurate : Obligations.RootsAndReciprocalsAreAccurate := by
  refine ⟨fun p w f a => ?_, fun p w f k e a _ => ?_⟩
  · intro x finite plain positive
    obtain ⟨m, exp, d⟩ := positive_num finite plain positive
    exact sqrt_accurate d
  · intro x ulp finite plain ne
    refine ⟨fun low high least => ?_, fun positive low high => ?_⟩
    · rcases normal_cases (f := f) (v := a) ⟨finite, plain⟩ with d | ⟨m, exp, d, -⟩
      · exact absurd (congrArg Fp.value d) ne
      · rw [value_min] at least
        exact recip_accurate d low high least
    · obtain ⟨m, exp, d⟩ := positive_num finite plain positive
      exact rsqrt_accurate d low high
end
